-- ==== Sys2Proof/Word.lean ====
section
/-! DEFINITION. The words of the OT-640's links: bytes of the stream, and the two- and three-byte parameters
that are sent most significant byte first (R187). -/

namespace Sys2Proof

/-- One byte of the stream, of a reply record or of a proof line. -/
abbrev Byte := BitVec 8

/-- A two-byte parameter. -/
abbrev Word16 := BitVec 16

/-- A three-byte parameter; also a set of the 24 events, event `n` at bit `n` (R187). -/
abbrev Word24 := BitVec 24

end Sys2Proof
end

