-- ==== Sys2Proof/Syntax.lean ====
section
/-! DEFINITION. The commands of the OT-640: one constructor for each row of spec/opcode_table.json, in the table's
order. An item of the code stream carries its parameter bytes AS SENT (the clamps of R11 and R12 belong to its
delivery); an event of the photo unit, the film, the printer or the operator carries what the part senses with it.
`busy` is the level of the printer's BUSY at the step: every step that can end a line, and so begin the printing of its
proof, looks at it (R171, R174). Where a command is written without its last operand, `busy` reads as inactive and
`bytes` as none: a way of writing it, on which no rule and no statement rests (log entry 4). -/

namespace Sys2Proof

inductive Instr where
  /-- RESET is asserted, or power comes on (R123). -/
  | reset
  /-- RESET is released; `detent` is the turret detent at that moment (R125, R126). -/
  | resetEnd (detent : Bool)
  /-- A character frame completes: its data bits, its parity bit, and whether its stop bit is present (R1). -/
  | frameReceived (data : Byte) (parity : Bool) (stop : Bool)
  /-- The parser takes one entry that does not complete a deliverable item (R4). -/
  | parserTake
  /-- A character text code 21h..FFh (R63). -/
  | textCode (c : Byte)
  /-- The interword space 20h (R66). -/
  | interwordSpace
  /-- A damaged code taken in GROUND in EXECUTE mode (R9, R63). -/
  | damagedCode
  | thinSpace
  | enSpace
  | emSpace
  | discretionaryHyphen
  | noHyphenate
  | noBreakSpace
  | killLine
  | endLine
  | endPara
  | font (number : Byte)
  | size (halfPoints : Byte)
  | lead (halfPoints : Word16)
  | measure (halfPoints : Word16)
  | indent (left right : Word16)
  | quad (mode lastLine : Byte)
  | spaceband (minimum normal maximum : Byte)
  | track (units : Byte)
  | letterspace (steps : Byte)
  | kerning (switch : Byte)
  | manualKern (units : Byte)
  | hyphenation (switch threshold : Byte)
  | hyphenLimits (left right ladder capitals : Byte)
  | advance (halfPoints : Word16)
  | reverse (halfPoints : Word16)
  | columnMark
  | cut
  /-- CASSETTE (R159). The parser completes it with `busy` false: the level is no part of the stream. -/
  | cassette (points : Word24) (busy : Bool := false)
  | stopDisc
  | save (mask : Byte)
  | restore (mask : Byte)
  | define (number nestable : Byte)
  | endDefine
  | call (number : Byte)
  /-- A complete LOAD block: the six header bytes as sent and the sum byte; its data stand in the staging buffer. -/
  | load (ident : Byte) (start count : Word16) (direction sum : Byte)
  | lock (ident : Byte)
  | dictAdd (codes : List Byte)
  | dictDelete (codes : List Byte)
  | dictClear
  | proof (mode policy : Byte)
  | lamp (window most : Byte)
  | query
  | events
  | mask (set : Word24)
  | readLog (count : Byte)
  | sync (token : Word16)
  | clear
  /-- The Composer leaves WAIT SLOT (R61). -/
  | waitSlotResume
  /-- The wait of a lens-table block ends (R50). -/
  | lensCommitAfterWait
  /-- The Imager takes the head of the ready list (R130). -/
  | takeLine (busy : Bool := false)
  /-- A turret step completes; `detent` is the detent at the new position (R136). -/
  | turretStepDone (detent : Bool) (busy : Bool := false)
  | turretStepTimeout (busy : Bool := false)
  | carriageArrival (busy : Bool := false)
  | carriageTimeout (busy : Bool := false)
  | ringSettleExpiry
  /-- A sector event with its sector number 0..111 (R138). -/
  | sectorEvent (sector : BitVec 7) (busy : Bool := false)
  /-- An index event with the disc identity 0..63 it carries (R127). -/
  | indexEvent (identity : BitVec 6) (busy : Bool := false)
  | spinUpTimeout (busy : Bool := false)
  | sectorGapTimeout (busy : Bool := false)
  | recheckTimeout (busy : Bool := false)
  | flashConfirm (busy : Bool := false)
  | coverOpens
  /-- The cover closes; `detent` is the turret detent at that moment (R126, R147, R149). -/
  | coverCloses (detent : Bool) (busy : Bool := false)
  | filmArrival (busy : Bool := false)
  | filmMoveTimeout (busy : Bool := false)
  | cutterDone (busy : Bool := false)
  | cutterTimeout (busy : Bool := false)
  | cassetteRemoved (busy : Bool := false)
  | cassetteInserted (busy : Bool := false)
  | selectInactive
  /-- SELECT goes active; `busy` is the level of BUSY at that moment (R170, R174). -/
  | selectActive (busy : Bool)
  | busyInactive
  | busyTimeout
  /-- ACK; `busy` is the level of BUSY as the byte is accepted (R174, R175). -/
  | ack (busy : Bool)
  | ackTimeout
  /-- CLEAR-TO-SEND changes to the level given; `bytes` is how many bytes of the head reply record the return link has
  begun once it has changed: a rise begins the next byte at once, or only when the byte still being sent is completed
  (R186). -/
  | clearToSend (asserted : Bool) (bytes : Byte := 0)
  /-- The last byte of the head reply record is sent; `heldFirst` says whether a held QUERY, EVENTS or READ LOG
  takes the freed place ahead of a SYNC answer that waits for it too (R185 leaves the order open). -/
  | replyRecordSent (heldFirst : Bool)
  | syncAnswer
  /-- The service switch is turned on or off (R51). -/
  | serviceSwitchChange (on : Bool)
  deriving DecidableEq, Repr

end Sys2Proof
end

