-- ==== Sys2Proof/Decode.lean ====
section
/-! DEFINITION. The command a word spells by the bits of spec/opcode_table.json. The table gives NO row any bits: its
rows are steps of the part, not encodings. The codes of the stream are read byte by byte by the part's own parser
(R4 to R8), in Machine/Parser.lean. -/

namespace Sys2Proof

/-- No row of the table has bits, so no word spells a command. -/
def decodeTableWord (_nbits _w : Nat) : Option Instr := none

end Sys2Proof
end

