-- ==== Sys2Proof/Config.lean ====
section
/-! DEFINITION. The fixed sizes and limits of the OT-640, each with the rule that gives it. -/

namespace Sys2Proof.Config

/-- Intake FIFO capacity (R2). -/
def fifoSize : Nat := 64
/-- READY is deasserted when the count rises to this (R3). -/
def readyOff : Nat := 48
/-- READY is reasserted when the count falls to this (R3). -/
def readyOn : Nat := 16
/-- Format memory in bytes (R13). -/
def formatMemory : Nat := 4096
/-- Deepest format depth (R18). -/
def maxDepth : Nat := 4
/-- Frames of the parameter stack (R32). -/
def maxFrames : Nat := 8
/-- Staging buffer in bytes (R45). -/
def stagingSize : Nat := 512
/-- Glyphs in the word buffer (R57, R69). -/
def wordSize : Nat := 48
/-- Glyphs of a line (R65, R72, R83). -/
def lineGlyphs : Nat := 160
/-- Space entries of a line (R66, R83). -/
def lineSpaces : Nat := 160
/-- Carriage range in steps (00_scope, Units of Measure). -/
def carriageRange : Nat := 16800
/-- Limit of the pending film adjustment, and the reach of a reverse behind the high-water mark (R57, R152). -/
def filmReach : Nat := 14400
/-- Exception dictionary entries and codes (R104). -/
def dictEntries : Nat := 384
def dictCodes : Nat := 4096
/-- Longest hyphenation word that is searched or scored (R93 row 8), and longest dictionary word (R104). -/
def hyphenLetters : Nat := 32
def dictWord : Nat := 24
/-- Disc glyph positions, hence sector events from index to index (R127). -/
def sectorsPerTurn : Nat := 112
/-- Stamps this old leave the flash history (R128), and the most stamps it holds (R138). -/
def historyAge : Nat := 32
def historySize : Nat := 8
/-- Dropped glyphs that raise LAMP FAULT (R142). -/
def dropLimit : Nat := 3
/-- Turret steps of one HOMING (R126). -/
def homingSteps : Nat := 11
/-- Cut allowance in steps (R156). -/
def cutAllowance : Nat := 480
/-- Proof queue (R163) and text items of a proof record (R166). -/
def proofQueue : Nat := 12
def proofItems : Nat := 160
/-- Log ring (R177), reply queue (R185), SYNC markers (R184). -/
def logSize : Nat := 64
def replyQueue : Nat := 8
def syncMarkers : Nat := 4

end Sys2Proof.Config
end

