-- ==== Sys2Proof/Machine/State.lean ====
section
/-! DEFINITION. The state of the OT-640 as plain data: one structure for each block of 00_scope's Block Overview, the
input pins, and the queue of waiting commands; then the state RESET leaves (INVENTORY.md lists every field with its
rule). Timers are running or not; a timer that runs exactly while a named motion or phase lasts has no field of its
own, and the docstring of that motion or phase says so. -/

namespace Sys2Proof.Machine

/-! ### Pins -/

/-- Input levels the part senses (00_scope, Signals). RESET does not change them. The turret detent and the printer's
BUSY have no field: the steps that look at them carry the level (log entry 4). -/
structure Pins where
  resetLine : Bool
  serviceSwitch : Bool
  cts : Bool
  coverOpen : Bool
  cassetteIn : Bool
  select : Bool
  deriving DecidableEq, Repr

/-! ### Intake and Format Store (chapter 1) -/

/-- An entry of the intake FIFO (R2). -/
inductive Entry where
  | plain (b : Byte)
  | damaged
  deriving DecidableEq, Repr

/-- The parser's position (R4). -/
inductive Position where
  | ground
  | number
  | parameter (num : Byte) (taken : List Byte) (toCome : Nat)
  deriving DecidableEq, Repr

/-- The parser's mode (R4, R14): DEFINE holds the format number, the nestable flag and the count of stored bytes. -/
inductive Mode where
  | execute
  | define (number : Nat) (nestable : Bool) (stored : Nat)
  | defineDiscard
  deriving DecidableEq, Repr

/-- An entry of the source stack (R18). -/
structure Source where
  format : Nat
  offset : Nat
  deriving DecidableEq, Repr

/-- The Intake; `sources` has the top entry first, and its length is the format depth. -/
structure Intake where
  fifo : List Entry
  ready : Bool
  errors : Nat
  position : Position
  mode : Mode
  sources : List Source
  deriving DecidableEq, Repr

/-- A present format descriptor (R13). -/
structure Format where
  start : Nat
  len : Nat
  nestable : Bool
  deriving DecidableEq, Repr

/-- The Format Store; `memory` is the packed bytes of the present formats and of a definition in progress (R13). -/
structure FormatStore where
  descriptors : Vector (Option Format) 64
  memory : List Byte
  deriving DecidableEq, Repr

/-! ### Lines (chapters 4 and 6) -/

inductive Quad where
  | justify | left | right | centre
  deriving DecidableEq, Repr

inductive Role where
  | letter | nonLetter | addedHyphen | reject
  deriving DecidableEq, Repr

/-- A glyph entry (R83) with its setting values (R64). `x` is the origin until the line closes, the final x after. -/
structure Glyph where
  code : Option Byte
  font : Nat
  disc : Nat
  ring : Nat
  position : Nat
  lens : Nat
  hs : Nat
  x : Nat
  role : Role
  substituted : Bool
  manualPart : Int
  pairPart : Int
  advance : Nat
  after : Int
  shrinkAt : Int
  deriving DecidableEq, Repr

inductive SpaceKind where
  | interword | noBreak | thin | en | em
  deriving DecidableEq, Repr

/-- A space entry (section 4.4). A fixed space has its one width in all three. `after` is the fine position after it. -/
structure Space where
  kind : SpaceKind
  font : Nat
  lens : Nat
  hs : Nat
  minimum : Int
  normal : Int
  maximum : Int
  extra : Int
  after : Int
  deriving DecidableEq, Repr

inductive LineItem where
  | glyph (g : Glyph)
  | space (p : Space)
  deriving DecidableEq, Repr

/-- The ten flags of a line record, in the order of their bits in a log record (R83, R188). -/
structure LineFlags where
  hyphenEnded : Bool
  loose : Bool
  overset : Bool
  forced : Bool
  sizeSubstituted : Bool
  reject : Bool
  damaged : Bool
  dropped : Bool
  coverOpened : Bool
  reverseClamped : Bool
  deriving DecidableEq, Repr

inductive Kind where
  | text | cut | stop
  deriving DecidableEq, Repr

/-- The outcome of a line at its imaging end (R117). -/
inductive LineOutcome where
  | set | fault | discarded
  deriving DecidableEq, Repr

/-- A line record (R83). `adjustment` is the film adjustment captured at opening (R60); `tag` is the film tag handed
to the log at the imaging end, which the proof record takes (R166). -/
structure LineRecord where
  number : Nat
  kind : Kind
  ls : Nat
  mr : Nat
  columnMark : Bool
  adjustment : Int
  quad : Quad
  spaces : Nat
  quotient : Int
  remainder : Nat
  gap : Nat
  leftAtRight : Nat
  filmMove : Int
  flags : LineFlags
  items : List LineItem
  discard : Bool
  outcome : Option LineOutcome
  tag : Nat
  deriving DecidableEq, Repr

/-- The state of a line slot (R111); a SET slot is undecided or awaiting proof. -/
inductive SlotState where
  | free | filling | ready | imaging | setUndecided | setAwaiting
  deriving DecidableEq, Repr

structure LineSlot where
  state : SlotState
  record : LineRecord
  deriving DecidableEq, Repr

/-- The Line Store (R111). `ready` and `awaiting` have their heads first. `lastClosed` is the number most recently
closed, which a SYNC marker records (R184). -/
structure Store where
  slots : Vector LineSlot 8
  ready : List Nat
  awaiting : List Nat
  lastClosed : Option Nat
  deriving DecidableEq, Repr

/-! ### Composer (chapters 2 and 4) -/

/-- The parameter set (section 2.1), less the manual kern pending, which is in no group of the stack. -/
structure Params where
  font : Option Nat
  size : Nat
  lead : Nat
  measure : Nat
  left : Nat
  right : Nat
  quad : Quad
  lastQuad : Quad
  spaceMin : Nat
  spaceNormal : Nat
  spaceMax : Nat
  track : Int
  letterspace : Nat
  kerning : Bool
  hyphenation : Bool
  threshold : Nat
  leftMin : Nat
  rightMin : Nat
  ladderLimit : Nat
  capitals : Bool
  deriving DecidableEq, Repr

/-- A frame of the parameter stack (R33): the mask, and the values of the groups it selects (section 2.4). -/
structure Frame where
  mask : Byte
  font : Option (Option Nat)
  size : Option Nat
  lead : Option Nat
  measure : Option (Nat × Nat × Nat)
  quad : Option (Quad × Quad)
  spacing : Option (Nat × Nat × Nat × Int × Nat)
  hyphenation : Option (Bool × Nat × Nat × Nat × Nat × Bool)
  kerning : Option Bool
  deriving DecidableEq, Repr

/-- The word buffer (R57, R69, R70): marks are the glyph counts k of the marked gaps, rising. -/
structure WordBuffer where
  glyphs : List Glyph
  marks : List Nat
  noHyphenate : Bool
  deriving DecidableEq, Repr

/-- The carry list with the codes and marks of the whole word and the number of its glyphs that went to earlier
lines (R75). -/
structure Carry where
  items : List LineItem
  codes : List (Option Byte)
  marks : List Nat
  noHyphenate : Bool
  gone : Nat
  deriving DecidableEq, Repr

/-- What the Composer holds in WAIT SLOT (R61). -/
inductive Waiting where
  | code (c : Instr)
  | carry (carry : Carry) (ending : Option Instr)
  deriving DecidableEq, Repr

/-- The open line beside its record: its slot, the running fine position X, its stretch and shrink totals and its
glyph count (R60). -/
structure OpenLine where
  slot : Nat
  x : Int
  stretch : Int
  shrink : Int
  glyphs : Nat
  deriving DecidableEq, Repr

/-- The Composer's state (section 4.1). -/
inductive Phase where
  | idle
  | opened (line : OpenLine)
  | overflowed (line : OpenLine)
  | waitSlot (held : Waiting)
  deriving DecidableEq, Repr

structure Composer where
  phase : Phase
  word : WordBuffer
  adjust : Int
  columnMark : Bool
  noHyphenate : Bool
  counter : Nat
  ladder : Nat
  manualKern : Int
  params : Params
  stack : List Frame
  deriving DecidableEq, Repr

/-! ### Hyphenator (chapter 5) -/

structure DictEntry where
  word : List Byte
  breaks : List Nat
  deriving DecidableEq, Repr

/-! ### Table Memory (chapter 3) -/

/-- A width slot (R38, R39); it is VALID when the three components that count have been loaded. -/
structure WidthSlot where
  codeMap : Vector (Option Nat) 224
  widths : Vector Nat 112
  kernClasses : Vector Nat 112
  kernPairs : Vector Int 256
  info : Vector Nat 2
  codeMapLoaded : Bool
  widthsLoaded : Bool
  infoLoaded : Bool
  deriving DecidableEq, Repr

/-- A present font directory entry (R40). -/
structure FontEntry where
  disc : Nat
  ring : Nat
  slot : Nat
  deriving DecidableEq, Repr

/-- An entry of the letter class table (R42). -/
structure ClassEntry where
  cls : Nat
  upper : Bool
  fold : Byte
  deriving DecidableEq, Repr

/-- A LOAD block as delivered: header as sent and sum byte (R47, R48). -/
structure LoadBlock where
  ident : Byte
  start : Word16
  count : Word16
  direction : Byte
  sum : Byte
  deriving DecidableEq, Repr

/-- The last load refusal reason (R55). -/
inductive Reason where
  | none | unknownTable | outOfRange | badSum | locked | lineOpen
  deriving DecidableEq, Repr

/-- The 86 lock flags (R49); `slots` holds those of identifiers 10h..5Fh. -/
structure Locks where
  slots : Vector Bool 80
  directory : Bool
  lenses : Bool
  classes : Bool
  rules : Bool
  formats : Bool
  dictionary : Bool
  deriving DecidableEq, Repr

structure Tables where
  slots : Vector WidthSlot 16
  directory : Vector (Option FontEntry) 64
  lenses : Vector Nat 12
  classes : Vector ClassEntry 224
  rules : Vector Nat 625
  staging : Vector Byte 512
  locks : Locks
  waiting : Option LoadBlock
  reason : Reason
  deriving DecidableEq, Repr

/-! ### Imager (chapter 7) -/

inductive ImagerState where
  | homing | standby | spinUp | idle | setting | mountWait | suspended | halted
  deriving DecidableEq, Repr

/-- The disc state. The motor is off in STOPPED alone. The 3 s spin-up timer runs exactly in STARTING (R127), the
5 ms sector-gap timer exactly in RUNNING (R128; log entry 8, DEDUCED). -/
inductive DiscState where
  | stopped | starting | running | unconfirmed
  deriving DecidableEq, Repr

/-- The phase of the line being imaged (R131). -/
inductive LinePhase where
  | film | glyph | back | cut
  deriving DecidableEq, Repr

/-- The progress of the line being imaged (R125, R131). `positioning` says that the current glyph has passed its
disc check and its positioning has begun. -/
structure Progress where
  slot : Nat
  phase : LinePhase
  glyph : Nat
  positioning : Bool
  misfires : Nat
  exposed : Nat
  dropped : Nat
  retries : Nat
  deferrals : Nat
  cutAsked : Bool
  cutDone : Bool
  deriving DecidableEq, Repr

inductive Direction where
  | ascending | descending
  deriving DecidableEq, Repr

/-- The timers of the photo unit whose expiry is a fault (R126 to R128, R136, R137, R147). -/
inductive ImagerTimer where
  | turret | carriage | spinUp | sectorGap | recheck
  deriving DecidableEq, Repr

/-- The Imager. `cancelled` are, in HALTED, the timers that ran as the fault halted it: an expiry of one of them may
have arisen together with that fault (R148). `carriageMove` is the target of the carriage move in flight, its 300 ms timer running exactly then
(R137); `turretStep` the step in flight, its 100 ms timer running exactly then (R136). -/
structure Imager where
  state : ImagerState
  returnState : Option ImagerState
  disc : DiscState
  mounted : Nat
  ring : Nat
  turret : Option Nat
  carriage : Option Nat
  stamp : Nat
  history : List Nat
  window : Nat
  most : Nat
  pendingLamp : Option (Nat × Nat)
  line : Option Progress
  coverNote : Bool
  filmTag : Nat
  carriageMove : Option Nat
  turretStep : Option Direction
  homingSteps : Nat
  ringSettling : Bool
  confirmWindow : Bool
  recheck : Bool
  sectors : Option Nat
  cancelled : List ImagerTimer
  deriving DecidableEq, Repr

/-! ### Film Transport (chapter 8) -/

/-- A request of the Imager (R150). -/
inductive Request where
  | move (v : Int) (mark : Bool)
  | cut
  deriving DecidableEq, Repr

/-- The transport state (R151). MOVING and the cut allowance hold their target and run the 2 s move timer; the cutter
stroke runs the 1 s cutter timer. `awaited` says that the Imager still waits for the result (R160). -/
inductive Transport where
  | ready
  | moving (target : Nat) (awaited : Bool)
  | cutAdvance (target : Nat) (awaited : Bool)
  | cutStroke (awaited : Bool)
  | filmOut
  | noCassette
  | fault
  deriving DecidableEq, Repr

structure Film where
  f : Nat
  h : Nat
  floor : Nat
  l : Nat
  a : Nat
  transport : Transport
  held : Option Request
  deferred : Bool
  deriving DecidableEq, Repr

/-! ### Proof Spooler (chapter 9) -/

inductive ProofMode where
  | off | all | flagged
  deriving DecidableEq, Repr

inductive Policy where
  | skip | hold
  deriving DecidableEq, Repr

/-- A text item of a proof record (R166). -/
inductive ProofItem where
  | code (c : Byte) (font : Nat)
  | damaged (font : Nat)
  | addedHyphen (font : Nat)
  | space (font : Nat)
  deriving DecidableEq, Repr

structure ProofRecord where
  number : Nat
  kind : Kind
  tag : Nat
  flags : LineFlags
  outcome : LineOutcome
  gap : Nat
  text : List ProofItem
  deriving DecidableEq, Repr

/-- The printer (R170): OFFLINE holds the note that SELECT has been seen inactive. -/
inductive Printer where
  | online
  | offline (note : Bool)
  deriving DecidableEq, Repr

/-- The port phase. The 10 s BUSY timer runs exactly in WAIT BUSY (R174), the 50 ms ACK timer exactly in WAIT ACK and
WAIT ACK RETRY (R175). -/
inductive Port where
  | idle | waitBusy | waitAck | waitAckRetry
  deriving DecidableEq, Repr

structure Proof where
  mode : ProofMode
  policy : Policy
  queue : List ProofRecord
  gap : Nat
  printer : Printer
  port : Port
  printLine : Nat
  printByte : Nat
  data : Byte
  deriving DecidableEq, Repr

/-! ### Line Log and Reply Unit (chapter 10) -/

structure LogRecord where
  number : Nat
  kind : Kind
  outcome : LineOutcome
  flags : LineFlags
  tag : Nat
  exposed : Nat
  dropped : Nat
  retries : Nat
  deferrals : Nat
  deriving DecidableEq, Repr

structure Log where
  ring : Vector (Option LogRecord) 64
  write : Nat
  read : Nat
  unread : Nat
  deriving DecidableEq, Repr

/-- The 24 events (section 10.2), in the order of their numbers. -/
inductive Event where
  | inputError | inputOverrun | unknownCode | parameterClamped | loadRefused | formatError | stackError
  | notSettable | dictionaryFull | lineFlagged | mountRequest | lampFault | discStall | carriageFault
  | turretFault | filmOut | filmFault | reverseClamped | coverOpen | proofOffline | proofSkipped | logOverrun
  | glyphDropped | linesDiscarded
  deriving DecidableEq, Repr

/-- The Composer's state as a snapshot shows it (R188). -/
inductive PhaseView where
  | idle | opened | overflowed | waitSlot
  deriving DecidableEq, Repr

/-- A slot as a snapshot shows it (R122). -/
inductive SlotView where
  | free | filling | ready | readyDiscard | imaging | set | setAwaiting
  deriving DecidableEq, Repr

/-- The STATUS snapshot (R183). -/
structure Snapshot where
  phase : PhaseView
  openNumber : Nat
  slots : List SlotView
  imager : ImagerState
  mounted : Nat
  turret : Option Nat
  f : Nat
  h : Nat
  floor : Nat
  l : Nat
  offline : Bool
  proofCount : Nat
  gap : Nat
  unread : Nat
  pending : Word24
  errors : Nat
  depth : Nat
  stack : Nat
  reason : Reason
  deriving DecidableEq, Repr

/-- A reply record (R188); its bytes are in Machine/ReplyOps.lean. -/
inductive Reply where
  | status (snapshot : Snapshot)
  | events (reported : Word24)
  | log (records : List LogRecord)
  | sync (token : Word16) (line : Option Nat)
  | mount (disc : Nat) (line : Nat)
  deriving DecidableEq, Repr

structure Marker where
  token : Word16
  line : Option Nat
  remaining : Nat
  deriving DecidableEq, Repr

/-- An item held by the Reply Unit (R10), after the clamp of R11. -/
inductive HeldReply where
  | query
  | events
  | readLog (count : Nat)
  | sync (token : Word16)
  deriving DecidableEq, Repr

/-- The Reply Unit. `begun` is how many bytes of the head record the return link has begun, as far as a step has shown
it (R186, log entry 23): 0 while the record waits, at least 1 once it is begun, exact while CLEAR-TO-SEND holds it. -/
structure ReplyUnit where
  pending : Word24
  mask : Word24
  queue : List Reply
  markers : List Marker
  held : Option HeldReply
  begun : Nat
  deriving DecidableEq, Repr

/-! ### The whole part -/

structure State where
  pins : Pins
  intake : Intake
  formats : FormatStore
  composer : Composer
  dict : List DictEntry
  tables : Tables
  store : Store
  imager : Imager
  film : Film
  proof : Proof
  log : Log
  reply : ReplyUnit
  pending : List Instr
  deriving DecidableEq, Repr

/-- A step stops with a fault. The manual gives every step an effect in every state, so there is none: nobody
raises one. -/
inductive Fault where
  deriving DecidableEq, Repr

/-- A step has no meaning in the model. -/
inductive Refusal where
  /-- Raised by exec's arm of a command that has no meaning yet; safe. -/
  | notModelled (mnemonic : String)
  deriving DecidableEq, Repr

/-! ### Reset -/

def LineFlags.none : LineFlags :=
  ⟨false, false, false, false, false, false, false, false, false, false⟩

/-- The record of a slot that holds no line (log entry 6, DESIGN CHOICE: numbers 0, flags clear, quad justify, no items;
its fields are of no effect, R111). -/
def LineRecord.blank : LineRecord where
  number := 0
  kind := .text
  ls := 0
  mr := 0
  columnMark := false
  adjustment := 0
  quad := .justify
  spaces := 0
  quotient := 0
  remainder := 0
  gap := 0
  leftAtRight := 0
  filmMove := 0
  flags := .none
  items := []
  discard := false
  outcome := Option.none
  tag := 0

/-- Section 2.1, reset values. -/
def Params.reset : Params where
  font := none
  size := 20
  lead := 24
  measure := 576
  left := 0
  right := 0
  quad := .justify
  lastQuad := .left
  spaceMin := 16
  spaceNormal := 24
  spaceMax := 40
  track := 0
  letterspace := 0
  kerning := true
  hyphenation := true
  threshold := 2
  leftMin := 2
  rightMin := 3
  ladderLimit := 3
  capitals := false

def WordBuffer.empty : WordBuffer := ⟨[], [], false⟩

/-- R57, R102, R25, R36. -/
def Composer.reset : Composer where
  phase := .idle
  word := .empty
  adjust := 0
  columnMark := false
  noHyphenate := false
  counter := 0
  ladder := 0
  manualKern := 0
  params := .reset
  stack := []

/-- R1 to R4, R18, R21; READY is deasserted while RESET is asserted. -/
def Intake.reset : Intake where
  fifo := []
  ready := false
  errors := 0
  position := .ground
  mode := .execute
  sources := []

/-- R13. -/
def FormatStore.reset : FormatStore where
  descriptors := Vector.replicate 64 none
  memory := []

/-- R38, R39. -/
def WidthSlot.reset : WidthSlot where
  codeMap := Vector.replicate 224 none
  widths := Vector.replicate 112 0
  kernClasses := Vector.replicate 112 0
  kernPairs := Vector.replicate 256 0
  info := Vector.replicate 2 0
  codeMapLoaded := false
  widthsLoaded := false
  infoLoaded := false

/-- R49. -/
def Locks.reset : Locks where
  slots := Vector.replicate 80 false
  directory := false
  lenses := false
  classes := false
  rules := false
  formats := false
  dictionary := false

/-- R38 to R43, R45, R49, R50, R55. The staging buffer's zeros are of no effect (log entry 6, DESIGN CHOICE). -/
def Tables.reset : Tables where
  slots := Vector.replicate 16 .reset
  directory := Vector.replicate 64 none
  lenses := Vector.replicate 12 0
  classes := Vector.ofFn fun (i : Fin 224) => ⟨0, false, BitVec.ofNat 8 (i.val + 0x20)⟩
  rules := Vector.replicate 625 0
  staging := Vector.replicate 512 0
  locks := .reset
  waiting := none
  reason := .none

/-- R111, R123. -/
def Store.reset : Store where
  slots := Vector.replicate 8 ⟨.free, .blank⟩
  ready := []
  awaiting := []
  lastClosed := none

/-- R125; the film tag's 0 is log entry 6, DESIGN CHOICE. -/
def Imager.reset : Imager where
  state := .homing
  returnState := none
  disc := .stopped
  mounted := 0
  ring := 0
  turret := none
  carriage := none
  stamp := 0
  history := []
  window := 8
  most := 3
  pendingLamp := none
  line := none
  coverNote := false
  filmTag := 0
  carriageMove := none
  turretStep := none
  homingSteps := 0
  ringSettling := false
  confirmWindow := false
  recheck := false
  sectors := none
  cancelled := []

/-- R150: NO CASSETTE or FILM OUT by the cassette switch. -/
def Film.reset (pins : Pins) : Film where
  f := 0
  h := 0
  floor := 0
  l := 0
  a := 0
  transport := if pins.cassetteIn then .filmOut else .noCassette
  held := none
  deferred := false

/-- R163: ONLINE if SELECT is active, otherwise OFFLINE with SELECT seen inactive. -/
def Proof.reset (pins : Pins) : Proof where
  mode := .off
  policy := .skip
  queue := []
  gap := 0
  printer := if pins.select then .online else .offline true
  port := .idle
  printLine := 0
  printByte := 0
  data := 0

/-- R177. -/
def Log.reset : Log where
  ring := Vector.replicate 64 none
  write := 0
  read := 0
  unread := 0

/-- R180, R181, R184, R185; the mask's three bytes are 09h, FCh, 00h (R187). -/
def ReplyUnit.reset : ReplyUnit where
  pending := 0
  mask := 0x09FC00
  queue := []
  markers := []
  held := none
  begun := 0

/-- Every block in its reset state, with the input levels given. -/
def State.resetWith (pins : Pins) : State where
  pins := pins
  intake := .reset
  formats := .reset
  composer := .reset
  dict := []
  tables := .reset
  store := .reset
  imager := .reset
  film := .reset pins
  proof := .reset pins
  log := .reset
  reply := .reset
  pending := []

/-- The input levels at power-on (log entry 3, DESIGN CHOICE): RESET asserted, and every other input inactive. -/
def Pins.powerOn : Pins := ⟨true, false, false, false, false, false⟩

/-- The part as RESET leaves it, RESET still asserted (log entry 3): RESET_END is the first step of every run. -/
def State.reset : State := .resetWith .powerOn

end Sys2Proof.Machine
end

