-- ==== Sys2Proof/Machine/Operands.lean ====
section
/-! DEFINITION. Parameters and units: the clamps of R11, the selectors of R12, signed bytes, mask bits, and the
conversion of fine positions to steps (00_scope, Conventions). -/

namespace Sys2Proof.Machine

/-- Clamping to a range (00_scope, Ranges and clamping). -/
def clampNat (lo hi v : Nat) : Nat := if v < lo then lo else if hi < v then hi else v

/-- Clamping of a signed value. -/
def clampInt (lo hi v : Int) : Int := if v < lo then lo else if hi < v then hi else v

/-- Whether a value lies outside a range, so that R11 clamps it. -/
def natOut (lo hi v : Nat) : Bool := decide (v < lo) || decide (hi < v)

/-- Whether a signed value lies outside a range. -/
def intOut (lo hi v : Int) : Bool := decide (v < lo) || decide (hi < v)

/-- The value of a one-byte parameter. -/
def byteNat (b : Byte) : Nat := b.toNat

/-- A signed one-byte parameter is two's complement (R7). -/
def signedByte (b : Byte) : Int := b.toInt

/-- A byte marked off/on is off when it is 00h and on for any other value (R12). -/
def onOff (b : Byte) : Bool := b != 0

/-- A quad mode byte (section 2.1); above 3 it is taken as justify (R12). -/
def quadOf (b : Byte) : Quad :=
  if b = 1 then .left else if b = 2 then .right else if b = 3 then .centre else .justify

/-- Whether a selector byte above its highest meaning was replaced (R12). -/
def selectorOut (highest : Nat) (b : Byte) : Bool := decide (highest < b.toNat)

/-- A proof mode byte; above 2 it is taken as off (R12, R164). -/
def proofModeOf (b : Byte) : ProofMode :=
  if b = 1 then .all else if b = 2 then .flagged else .off

/-- The PROOF policy byte: skip when 00h, hold otherwise (R12). -/
def policyOf (b : Byte) : Policy := if b = 0 then .skip else .hold

/-- Whether a mask byte selects group `k` (section 2.4). -/
def maskBit (mask : Byte) (k : Nat) : Bool := mask.getLsbD k

/-- A fine position in steps, rounded half up (00_scope, Rounding). -/
def nearestStep (p : Int) : Int := (p + 24) / 48

/-- A length parameter in steps: one half-point is 10 steps. -/
def lengthSteps (halfPoints : Nat) : Nat := halfPoints * 10

/-- The units of a width at size `hs`, in fine positions: one unit is 5 hs. -/
def fine (units : Int) (hs : Nat) : Int := units * hs * 5

/-- Set a saturating count one higher. -/
def saturate (limit v : Nat) : Nat := if v < limit then v + 1 else v

end Sys2Proof.Machine
end

