-- ==== Sys2Proof/Machine/Flags.lean ====
section
/-! DEFINITION. The status the part shows: the numbers of the events and the pending set (R180, R187), the attention
line (R181), the READY line (R3), the parity of a frame (R1), and the flags of a line record (R82, R165, R188). -/

namespace Sys2Proof.Machine

/-- The number of an event (section 10.2). -/
def Event.num : Event → Nat
  | .inputError => 0
  | .inputOverrun => 1
  | .unknownCode => 2
  | .parameterClamped => 3
  | .loadRefused => 4
  | .formatError => 5
  | .stackError => 6
  | .notSettable => 7
  | .dictionaryFull => 8
  | .lineFlagged => 9
  | .mountRequest => 10
  | .lampFault => 11
  | .discStall => 12
  | .carriageFault => 13
  | .turretFault => 14
  | .filmOut => 15
  | .filmFault => 16
  | .reverseClamped => 17
  | .coverOpen => 18
  | .proofOffline => 19
  | .proofSkipped => 20
  | .logOverrun => 21
  | .glyphDropped => 22
  | .linesDiscarded => 23

/-- The bit of an event in a set of events (R187). -/
def Event.bit (e : Event) : Word24 := 1#24 <<< e.num

/-- Posting puts the event's number into the pending set (R180). -/
def postTo (set : Word24) (e : Event) : Word24 := set ||| e.bit

/-- Posting on a condition. -/
def postWhen (c : Bool) (e : Event) (set : Word24) : Word24 := if c then postTo set e else set

/-- Whether an event is in a set. -/
def Event.isIn (e : Event) (set : Word24) : Bool := set.getLsbD e.num

/-- The attention line (R181): asserted while the pending set and the mask have an event in common, and deasserted
while RESET is asserted. -/
def State.attention (s : State) : Bool :=
  !s.pins.resetLine && (s.reply.pending &&& s.reply.mask != 0)

/-- The READY line after a change of the FIFO's count (R3). -/
def readyAfter (count : Nat) (was : Bool) : Bool :=
  if Config.readyOff ≤ count then false else if count ≤ Config.readyOn then true else was

/-- The ones among a frame's eight data bits. -/
def onesOf (b : Byte) : Nat := (List.range 8).foldl (fun n i => n + (b.getLsbD i).toNat) 0

/-- A frame is good when its stop bit is present and data and parity have an even number of ones (R1). -/
def frameGood (data : Byte) (parity stop : Bool) : Bool :=
  stop && (onesOf data + parity.toNat) % 2 == 0

/-- A bit of a byte's frame on a link (R1, R188). -/
inductive LinkBit where
  | start
  | data (b : Bool)
  | parity (b : Bool)
  | stop
  deriving DecidableEq, Repr

/-- The frame of a sent byte: a start bit, eight data bits, least significant first, even parity, one stop bit (R188). -/
def frameOf (b : Byte) : List LinkBit :=
  [.start] ++ ((List.range 8).map fun i => .data (b.getLsbD i)) ++ [.parity (onesOf b % 2 == 1), .stop]

/-- The flags that post LINE FLAGGED at a close (R82). -/
def LineFlags.posts (f : LineFlags) : Bool := f.overset || f.forced || f.loose || f.sizeSubstituted

/-- The flags that select a line in FLAGGED mode: any other than HYPHEN-ENDED (R165). -/
def LineFlags.selects (f : LineFlags) : Bool :=
  f.loose || f.overset || f.forced || f.sizeSubstituted || f.reject || f.damaged || f.dropped || f.coverOpened ||
    f.reverseClamped

/-- The flags field of a log record, bits 0 to 9 (R188). -/
def LineFlags.bits (f : LineFlags) : Nat :=
  f.hyphenEnded.toNat + 2 * f.loose.toNat + 4 * f.overset.toNat + 8 * f.forced.toNat + 16 * f.sizeSubstituted.toNat +
    32 * f.reject.toNat + 64 * f.damaged.toNat + 128 * f.dropped.toNat + 256 * f.coverOpened.toNat +
    512 * f.reverseClamped.toNat

end Sys2Proof.Machine
end

