-- ==== Sys2Proof/Machine/Ops.lean ====
section
/-! DEFINITION. The named operations that the blocks share: fixed tables, the writers of each field of State, events,
the width slots and lock flags that several blocks read, the line slots and their lists (chapter 6), and the three
views through which a family of steps reads and writes a part of State: `Front` (link to parser), `Desk` (Composer and
Line Store) and `Photo` (photo unit to return link). A step built on a view leaves every other field as it is. -/

namespace Sys2Proof.Machine

/-! ### Fixed tables -/

/-- Reading an entry of a fixed table. -/
def tabGet {α : Type} {n : Nat} (v : Vector α n) (default : α) (i : Nat) : α := (v[i]?).getD default

/-- Writing an entry of a fixed table. -/
def tabPut {α : Type} {n : Nat} (v : Vector α n) (i : Nat) (x : α) : Vector α n := v.setIfInBounds i x

/-! ### The fields of State -/

def State.withPins (s : State) (x : Pins) : State := { s with pins := x }
def State.withIntake (s : State) (x : Intake) : State := { s with intake := x }
def State.withFormats (s : State) (x : FormatStore) : State := { s with formats := x }
def State.withComposer (s : State) (x : Composer) : State := { s with composer := x }
def State.withDict (s : State) (x : List DictEntry) : State := { s with dict := x }
def State.withTables (s : State) (x : Tables) : State := { s with tables := x }
def State.withStore (s : State) (x : Store) : State := { s with store := x }
def State.withImager (s : State) (x : Imager) : State := { s with imager := x }
def State.withFilm (s : State) (x : Film) : State := { s with film := x }
def State.withProof (s : State) (x : Proof) : State := { s with proof := x }
def State.withLog (s : State) (x : Log) : State := { s with log := x }
def State.withReply (s : State) (x : ReplyUnit) : State := { s with reply := x }
def State.withQueue (s : State) (x : List Instr) : State := { s with pending := x }

/-- The Composer's parameters replaced (R22). -/
def State.withParams (s : State) (p : Params) : State := s.withComposer { s.composer with params := p }

/-- The pending set replaced. -/
def State.withEvents (s : State) (set : Word24) : State := s.withReply { s.reply with pending := set }

/-- Posting an event (R180). -/
def State.post (s : State) (e : Event) : State := s.withEvents (postTo s.reply.pending e)

/-- Posting on a condition. -/
def State.postWhen (s : State) (c : Bool) (e : Event) : State := if c then s.post e else s

/-! ### Fonts, slots and locks -/

/-- A width slot is VALID once its code map, widths and font info have been loaded (R39). -/
def WidthSlot.valid (w : WidthSlot) : Bool := w.codeMapLoaded && w.widthsLoaded && w.infoLoaded

/-- Width slot `k`. -/
def Tables.widthSlot (t : Tables) (k : Nat) : WidthSlot := tabGet t.slots .reset k

/-- The directory entry of a font number (R40). -/
def Tables.entry (t : Tables) (font : Nat) : Option FontEntry := tabGet t.directory none font

/-- A font number is settable while its entry is present and the slot it names is VALID (R40). -/
def Tables.settable (t : Tables) (font : Nat) : Bool :=
  match t.entry font with
  | some e => (t.widthSlot e.slot).valid
  | none => false

/-- Whether some lens position holds a nonzero size (R31). -/
def Tables.hasLens (t : Tables) : Bool := t.lenses.toList.any (· != 0)

/-- The letter class entry of a text code 20h..FFh (R42). -/
def Tables.classOf (t : Tables) (c : Byte) : ClassEntry := tabGet t.classes ⟨0, false, c⟩ (c.toNat - 0x20)

/-- While the service switch is on, a check of a lock flag passes as if the flag were clear (R51). -/
def lockPasses (locked serviceSwitch : Bool) : Bool := !locked || serviceSwitch

/-! ### Line slots (chapter 6) -/

/-- Slot `i`. -/
def Store.slot (st : Store) (i : Nat) : LineSlot := tabGet st.slots ⟨.free, .blank⟩ i

/-- The line record in slot `i`. -/
def Store.record (st : Store) (i : Nat) : LineRecord := (st.slot i).record

def Store.putSlot (st : Store) (i : Nat) (x : LineSlot) : Store := { st with slots := tabPut st.slots i x }

/-- Slot `i` takes a state, keeping its record. -/
def Store.mark (st : Store) (i : Nat) (state : SlotState) : Store := st.putSlot i ⟨state, st.record i⟩

/-- Slot `i` takes a record, keeping its state. -/
def Store.putRecord (st : Store) (i : Nat) (r : LineRecord) : Store := st.putSlot i ⟨(st.slot i).state, r⟩

/-- The lowest-numbered FREE slot (R112). -/
def Store.lowestFree (st : Store) : Option Nat := (List.range 8).find? fun i => (st.slot i).state == .free

/-- Allocation: the lowest-numbered FREE slot becomes FILLING, its record started by the Composer (R112). -/
def Store.fill (st : Store) (i : Nat) (r : LineRecord) : Store := st.putSlot i ⟨.filling, r⟩

/-- A close: the FILLING slot becomes READY at the tail of the ready list (R114). -/
def Store.close (st : Store) (i : Nat) (r : LineRecord) : Store :=
  { st.putSlot i ⟨.ready, r⟩ with ready := st.ready ++ [i], lastClosed := some r.number }

/-- A slot becomes FREE; its record is of no effect from then on (R111, R119). -/
def Store.release (st : Store) (i : Nat) : Store :=
  { st.putSlot i ⟨.free, .blank⟩ with awaiting := st.awaiting.filter (· != i) }

/-- A SET slot begins to await proof (R120). -/
def Store.await (st : Store) (i : Nat) : Store :=
  { st.mark i .setAwaiting with awaiting := st.awaiting ++ [i] }

/-- How many slots are READY or IMAGING (R50, R184). -/
def Store.busyCount (st : Store) : Nat :=
  st.slots.toList.countP fun x => x.state == .ready || x.state == .imaging

/-- The slot that is IMAGING, if there is one (R116). -/
def Store.imaging (st : Store) : Option Nat := (List.range 8).find? fun i => (st.slot i).state == .imaging

/-- The slot that is FILLING, if there is one (R112). -/
def Store.filling (st : Store) : Option Nat := (List.range 8).find? fun i => (st.slot i).state == .filling

/-- Discard marking: every READY slot takes the discard mark (R118). -/
def Store.discardReady (st : Store) : Store :=
  { st with slots := st.slots.map fun x =>
      if x.state == .ready then { x with record := { x.record with discard := true } } else x }

/-- Whether some READY slot is not yet marked for discard (R118). -/
def Store.unmarkedReady (st : Store) : Bool :=
  st.slots.toList.any fun x => x.state == .ready && !x.record.discard

/-- The glyph entries of a line's items, in order. -/
def glyphsOf (items : List LineItem) : List Glyph :=
  items.filterMap fun
    | .glyph g => some g
    | .space _ => none

/-- The space entries of a line's items, in order. -/
def spacesOf (items : List LineItem) : List Space :=
  items.filterMap fun
    | .glyph _ => none
    | .space p => some p

/-! ### Views -/

/-- What the Intake's parser reads and writes. -/
structure Front where
  intake : Intake
  formats : FormatStore
  staging : Vector Byte 512
  events : Word24
  deriving DecidableEq, Repr

def State.front (s : State) : Front := ⟨s.intake, s.formats, s.tables.staging, s.reply.pending⟩

def State.withFront (s : State) (f : Front) : State :=
  { s with
    intake := f.intake
    formats := f.formats
    tables := { s.tables with staging := f.staging }
    reply := { s.reply with pending := f.events } }

/-- What the Composer reads and writes, beside the tables and the dictionary that it only reads. -/
structure Desk where
  composer : Composer
  store : Store
  events : Word24
  deriving DecidableEq, Repr

def State.desk (s : State) : Desk := ⟨s.composer, s.store, s.reply.pending⟩

def State.withDesk (s : State) (d : Desk) : State :=
  { s with
    composer := d.composer
    store := d.store
    reply := { s.reply with pending := d.events } }

/-- What the Imager, Film Transport, Proof Spooler, Line Log and Reply Unit read and write; the pins, and the level of
BUSY at the step, are only read. -/
structure Photo where
  pins : Pins
  busy : Bool
  store : Store
  imager : Imager
  film : Film
  proof : Proof
  log : Log
  reply : ReplyUnit
  deriving DecidableEq, Repr

def State.photo (s : State) (busy : Bool) : Photo := ⟨s.pins, busy, s.store, s.imager, s.film, s.proof, s.log, s.reply⟩

def State.withPhoto (s : State) (p : Photo) : State :=
  { s with
    store := p.store
    imager := p.imager
    film := p.film
    proof := p.proof
    log := p.log
    reply := p.reply }

def Photo.post (p : Photo) (e : Event) : Photo :=
  { p with reply := { p.reply with pending := postTo p.reply.pending e } }

def Desk.post (d : Desk) (e : Event) : Desk := { d with events := postTo d.events e }

/-! ### Holds -/

/-- The Intake waits while an owner holds an item (R10). -/
def State.holding (s : State) : Bool :=
  (match s.composer.phase with
    | .waitSlot _ => true
    | _ => false) || s.tables.waiting.isSome || s.reply.held.isSome

/-- The outcome of every step: a next state. -/
abbrev StepResult := Host.Outcome State Fault Refusal

end Sys2Proof.Machine
end

