-- ==== Sys2Proof/Machine/HyphenOps.lean ====
section
/-! DEFINITION. The Hyphenator: the classing of a word and its hyphenation word (R90, R91), the candidates of a word
(R89, R92 to R101), and the exception dictionary's edits (R104 to R109). -/

namespace Sys2Proof.Machine

/-! ### The hyphenation word -/

/-- How a glyph of a word is classed (R90). -/
inductive GlyphClass where
  | letter (e : ClassEntry)
  | hyphen
  | other
  deriving DecidableEq, Repr

/-- A glyph classed by its stream code through the letter class table as it stands (R90). -/
def classify (t : Tables) : Option Byte → GlyphClass
  | none => .other
  | some c =>
    if c = 0x2D then .hyphen
    else if (t.classOf c).cls = 0 then .other
    else .letter (t.classOf c)

/-- A hyphenation word (R91): its letters, and for the gap after each letter but the last whether it is a hyphen gap
and the glyph gap it corresponds to. -/
structure HyphenWord where
  letters : List ClassEntry
  gaps : List (Bool × Nat)
  deriving DecidableEq, Repr

/-- The rest of a hyphenation word after a letter that is the `at`-th glyph: it runs on through letters, and through a
hyphen that stands between two letters (R91). -/
def hyphenRun : Nat → List GlyphClass → HyphenWord
  | pos, .letter e :: rest =>
    let w := hyphenRun (pos + 1) rest
    ⟨e :: w.letters, (false, pos) :: w.gaps⟩
  | pos, .hyphen :: .letter e :: rest =>
    let w := hyphenRun (pos + 2) rest
    ⟨e :: w.letters, (true, pos + 1) :: w.gaps⟩
  | _, _ => ⟨[], []⟩

/-- The hyphenation word of the glyphs from the `pos`-th on: it begins at the first letter (R91). -/
def hyphenWordFrom : Nat → List GlyphClass → Option HyphenWord
  | _, [] => none
  | pos, .letter e :: rest =>
    let w := hyphenRun pos rest
    some ⟨e :: w.letters, w.gaps⟩
  | pos, _ :: rest => hyphenWordFrom (pos + 1) rest

/-- The hyphenation word of a word's stream codes. -/
def hyphenWord (t : Tables) (codes : List (Option Byte)) : Option HyphenWord :=
  hyphenWordFrom 1 (codes.map (classify t))

/-! ### Candidates -/

/-- The source of a candidate (R89). -/
inductive BreakSource where
  | discretionary | hyphenCharacter | dictionary | rule
  deriving DecidableEq, Repr

/-- A candidate: the gap after the `gap`-th glyph of the word. -/
structure Candidate where
  gap : Nat
  source : BreakSource
  deriving DecidableEq, Repr

/-- Every candidate but a HYPHEN CHARACTER adds a hyphen glyph (R89). -/
def Candidate.addsHyphen (c : Candidate) : Bool := c.source != .hyphenCharacter

/-- A word as it is handed over (R89). -/
structure Word where
  codes : List (Option Byte)
  marks : List Nat
  noHyphenate : Bool
  deriving DecidableEq, Repr

/-- The gap after letter `i` of `n` meets the fragment minimums (R92). -/
def meetsMinimums (p : Params) (n i : Nat) : Bool := decide (p.leftMin ≤ i) && decide (i + p.rightMin ≤ n)

/-- The gaps of a hyphenation word, each with the number of the letter it follows. -/
def HyphenWord.numbered (w : HyphenWord) : List ((Bool × Nat) × Nat) := w.gaps.zipIdx 1

/-- The class of letter `i`, counting from 1; a position outside the word counts as class 0 (R98). -/
def HyphenWord.classAt (w : HyphenWord) (i : Nat) : Nat :=
  if i = 0 then 0 else ((w.letters[i - 1]?).map (·.cls)).getD 0

/-- The break rule table's score of the gap after letter `i` (R43, R98). -/
def HyphenWord.score (w : HyphenWord) (t : Tables) (i : Nat) : Nat :=
  tabGet t.rules 0 (w.classAt (i - 1) * 125 + w.classAt i * 25 + w.classAt (i + 1) * 5 + w.classAt (i + 2))

/-- The gaps that rule scoring passes (R98, R99, R100). -/
def ruleCandidates (p : Params) (t : Tables) (w : HyphenWord) : List Candidate :=
  w.numbered.filterMap fun (g, i) =>
    if decide (p.threshold ≤ w.score t i) && meetsMinimums p w.letters.length i && decide (w.classAt i ≠ 4) then
      some ⟨g.2, .rule⟩
    else none

/-- The hyphen gaps that meet the fragment minimums (R96). -/
def hyphenCandidates (p : Params) (w : HyphenWord) : List Candidate :=
  w.numbered.filterMap fun (g, i) =>
    if g.1 && meetsMinimums p w.letters.length i then some ⟨g.2, .hyphenCharacter⟩ else none

/-- The break gaps of a dictionary entry that meet the fragment minimums (R105). -/
def entryCandidates (p : Params) (w : HyphenWord) (e : DictEntry) : List Candidate :=
  w.numbered.filterMap fun (g, i) =>
    if e.breaks.contains i && meetsMinimums p w.letters.length i then some ⟨g.2, .dictionary⟩ else none

/-- The marks that stand between two glyphs of the word (R94). -/
def Word.innerMarks (w : Word) : List Nat := w.marks.filter fun k => decide (1 ≤ k) && decide (k < w.codes.length)

/-- Rows 6 to 10 of the order of eligibility, for a hyphenation word (R93). -/
def eligible (p : Params) (t : Tables) (d : List DictEntry) (w : HyphenWord) : List Candidate :=
  if w.gaps.any (·.1) then hyphenCandidates p w
  else if (w.letters.head?.map (·.upper)).getD false && !p.capitals then []
  else if Config.hyphenLetters < w.letters.length ∨ w.letters.length < p.leftMin + p.rightMin then []
  else
    match d.find? (fun e => e.word == w.letters.map (·.fold)) with
    | some e => entryCandidates p w e
    | none => ruleCandidates p t w

/-- The candidates of a word by the rows of R93, in the order of their gaps. -/
def candidates (p : Params) (ladder : Nat) (t : Tables) (d : List DictEntry) (w : Word) : List Candidate :=
  if !p.hyphenation then []
  else if p.ladderLimit ≠ 0 ∧ p.ladderLimit ≤ ladder then []
  else if w.noHyphenate then []
  else if w.innerMarks ≠ [] then w.innerMarks.map fun k => ⟨k, .discretionary⟩
  else
    match hyphenWord t w.codes with
    | none => []
    | some h => eligible p t d h

/-! ### The exception dictionary -/

/-- The order of dictionary words: by their first differing fold code, a beginning before the longer word (R104). -/
def wordBefore : List Byte → List Byte → Bool
  | [], [] => false
  | [], _ :: _ => true
  | _ :: _, [] => false
  | a :: as, b :: bs => if a = b then wordBefore as bs else decide (a.toNat < b.toNat)

/-- The codes of a DICT ADD read as word codes and break marks; none in the bad forms of R106. -/
def dictForm : List Byte → List Byte → List Nat → Bool → Option (List Byte × List Nat)
  | [], word, breaks, afterMark =>
    if afterMark ∨ word.length < 2 ∨ Config.dictWord < word.length then none else some (word, breaks)
  | c :: rest, word, breaks, afterMark =>
    if c = 0x04 then
      if afterMark ∨ word = [] then none else dictForm rest word (breaks ++ [word.length]) true
    else if c.toNat < 0x21 then none
    else dictForm rest (word ++ [c]) breaks false

/-- The codes folded through the letter class table as it stands (R106, R108). -/
def foldCodes (t : Tables) (word : List Byte) : List Byte := word.map fun c => (t.classOf c).fold

/-- An entry put in its place in the order, replacing the entry of the same word (R107). -/
def dictPut (e : DictEntry) : List DictEntry → List DictEntry
  | [] => [e]
  | x :: rest =>
    if x.word = e.word then e :: rest
    else if wordBefore e.word x.word then e :: x :: rest
    else x :: dictPut e rest

/-- The code total of the dictionary (R104). -/
def codeTotal (d : List DictEntry) : Nat := (d.map (·.word.length)).sum

/-- Whether a word is in the dictionary. -/
def inDict (d : List DictEntry) (word : List Byte) : Bool := d.any fun e => e.word == word

/-- Whether the dictionary has room for a new word of this length (R107). -/
def dictRoom (d : List DictEntry) (length : Nat) : Bool :=
  decide (d.length < Config.dictEntries) && decide (codeTotal d + length ≤ Config.dictCodes)

/-- The dictionary's lock passes its check (R106, R108, R109). -/
def State.dictLockPasses (s : State) : Bool := lockPasses s.tables.locks.dictionary s.pins.serviceSwitch

/-- DICT ADD taken (R106, R107). -/
def State.takeDictAdd (s : State) (codes : List Byte) : State :=
  if !s.dictLockPasses then s.post .loadRefused
  else
    match dictForm codes [] [] false with
    | none => s.post .loadRefused
    | some (word, breaks) =>
      let folded := foldCodes s.tables word
      if inDict s.dict folded || dictRoom s.dict folded.length then s.withDict (dictPut ⟨folded, breaks⟩ s.dict)
      else s.post .dictionaryFull

/-- DICT DELETE taken (R108). A code below 20h has no entry in the letter class table (R42) to be folded through: no
entry has such a form, and nothing changes (log entry 26). -/
def State.takeDictDelete (s : State) (codes : List Byte) : State :=
  if !s.dictLockPasses then s.post .loadRefused
  else
    let word := codes.filter (· != 0x04)
    if word.all fun c => decide (0x20 ≤ c.toNat) then
      s.withDict (s.dict.filter fun e => e.word != foldCodes s.tables word)
    else s

/-- DICT CLEAR taken (R109). -/
def State.takeDictClear (s : State) : State :=
  if !s.dictLockPasses then s.post .loadRefused else s.withDict []

end Sys2Proof.Machine
end

