-- ==== Sys2Proof/Machine/LineOps.lean ====
section
/-! DEFINITION. The arithmetic of a line, on items alone: lens resolution (R62), placing a glyph (R64), the overflow
test (R65), the fit test and the break decision (R72 to R74), re-adding a carry list (R76), and the close with its
justification (R77 to R82). -/

namespace Sys2Proof.Machine

/-! ### Lenses (R62) -/

/-- The absolute difference of two sizes. -/
def sizeGap (a b : Nat) : Nat := if a ≤ b then b - a else a - b

/-- Whether a size is a better answer than another for a requested size: nearer, or as near and smaller (R62). -/
def betterSize (requested a b : Nat) : Bool :=
  decide (sizeGap a requested < sizeGap b requested) ||
    (decide (sizeGap a requested = sizeGap b requested) && decide (a < b))

/-- The best lens among positions from `pos` on, given the best so far: a later position wins only when its size is
better, so the lowest-numbered of equal sizes is kept; positions holding 0 are passed over (R62). -/
def bestLens (requested : Nat) : Nat → List Nat → Option (Nat × Nat) → Option (Nat × Nat)
  | _, [], best => best
  | pos, size :: rest, best =>
    bestLens requested (pos + 1) rest
      (if size = 0 then best
        else
          match best with
          | none => some (pos, size)
          | some (p, hs) => if betterSize requested size hs then some (pos, size) else some (p, hs))

/-- The lens position and the size hs a requested size resolves to; none when no lens is fitted (R62). -/
def Tables.resolve (t : Tables) (requested : Nat) : Option (Nat × Nat) := bestLens requested 0 t.lenses.toList none

/-! ### Items -/

/-- The fine position after an item. -/
def LineItem.after : LineItem → Int
  | .glyph g => g.after
  | .space p => p.after

def LineItem.isGlyph : LineItem → Bool
  | .glyph _ => true
  | .space _ => false

def LineItem.isInterword : LineItem → Bool
  | .glyph _ => false
  | .space p => p.kind == .interword

/-- Interword and no-break spaces are the justifiable ones (section 4.4). -/
def Space.justifiable (p : Space) : Bool := p.kind == .interword || p.kind == .noBreak

def LineItem.justifiable : LineItem → Bool
  | .glyph _ => false
  | .space p => p.justifiable

/-- The stretch total of a line's items (R66). -/
def stretchOf (items : List LineItem) : Int :=
  ((spacesOf items).map fun p => if p.justifiable then p.maximum - p.normal else 0).sum

/-- The shrink total of a line's items (R66). -/
def shrinkOf (items : List LineItem) : Int :=
  ((spacesOf items).map fun p => if p.justifiable then p.normal - p.minimum else 0).sum

/-- The fine position after the last of a line's items; the left start for a line with none. -/
def positionAfter (ls : Nat) (items : List LineItem) : Int :=
  match items.getLast? with
  | some i => i.after
  | none => (ls : Int) * 48

/-! ### Placing (R64, R65) -/

/-- Steps 2, 3 and 5 of R64 with kern `k`: the glyph with its origin and setting values. Its `after` is the new X. -/
def Glyph.place (g : Glyph) (mr : Nat) (x shrink k : Int) : Glyph :=
  let x1 := max 0 (x + fine k g.hs)
  { g with
    x := min (nearestStep x1).toNat mr
    after := x1 + fine g.advance g.hs
    shrinkAt := shrink }

/-- The overflow test of R65. -/
def overflows (mr : Nat) (x shrink : Int) (glyphs : Nat) : Bool :=
  decide ((mr : Int) < nearestStep (x - shrink)) || decide (Config.lineGlyphs ≤ glyphs)

/-- The advance in units: the width plus the track, a negative result taken as 0 (R64 step 4). -/
def advanceOf (width : Nat) (track : Int) : Nat := ((width : Int) + track).toNat

/-! ### The break decision (R71 to R74) -/

/-- The hyphen glyph after `p`, where p's font is settable at the decision (R72, R73): it takes p's font, disc, ring,
lens, hs, and no kern. -/
def hyphenAfter (t : Tables) (params : Params) (mr : Nat) (p : Glyph) : Option Glyph :=
  match t.entry p.font with
  | none => none
  | some e =>
    let w := t.widthSlot e.slot
    if w.valid then
      let position := tabGet w.info 0 0
      let g : Glyph :=
        { p with
          code := none
          position := position
          role := .addedHyphen
          manualPart := 0
          pairPart := 0
          advance := advanceOf (tabGet w.widths 0 position) params.track }
      some (g.place mr p.after p.shrinkAt 0)
    else none

/-- The fit test of a break after `p` without an added hyphen, where `count` glyphs stand up to and including p
(R72). -/
def fitsPlain (mr : Nat) (p : Glyph) (count : Nat) : Bool :=
  decide (nearestStep (p.after - p.shrinkAt) ≤ (mr : Int)) && decide (count ≤ Config.lineGlyphs)

/-- The fit test of a break after `p` with the hyphen glyph `h` added (R72). -/
def fitsHyphen (mr : Nat) (p h : Glyph) (count : Nat) : Bool :=
  decide (nearestStep (p.after + fine h.advance h.hs - p.shrinkAt) ≤ (mr : Int)) &&
    decide (count + 1 ≤ Config.lineGlyphs)

/-- What a break decision comes to: the items the line keeps, its flags, and the items carried. -/
structure Cut where
  kept : List LineItem
  carried : List LineItem
  hyphenEnded : Bool
  forced : Bool
  overset : Bool
  deriving DecidableEq, Repr

/-- A candidate tried by R72: the line's items up to the glyph at place `n` (the number of items kept). -/
def tryCandidate (t : Tables) (params : Params) (mr : Nat) (items : List LineItem) (n : Nat) (adds : Bool) :
    Option Cut :=
  let kept := items.take n
  match kept.getLast? with
  | some (.glyph p) =>
    let count := (glyphsOf kept).length
    if adds then
      match hyphenAfter t params mr p with
      | none => none
      | some h =>
        if fitsHyphen mr p h count then some ⟨kept ++ [.glyph h], items.drop n, true, false, false⟩ else none
    else if fitsPlain mr p count then some ⟨kept, items.drop n, true, false, false⟩
    else none
  | _ => none

/-- The candidates tried from the rightmost to the leftmost (R73). `gone` glyphs of the word stand in earlier lines,
so the gap after its c-th glyph has the items of this line up to that glyph before it; candidates at or before `gone`
are not kept (R76). -/
def tryCandidates (t : Tables) (params : Params) (mr : Nat) (items : List LineItem) (length gone : Nat)
    (cs : List Candidate) : Option Cut :=
  cs.reverse.findSome? fun c =>
    if gone < c.gap ∧ c.gap < length then
      tryCandidate t params mr items (items.length - (length - c.gap)) c.addsHyphen
    else none

/-- The number of items up to and including the last interword space entry; none when there is none. -/
def lastInterword (items : List LineItem) : Option Nat :=
  ((List.range items.length).reverse.find? fun i => ((items[i]?).map LineItem.isInterword).getD false).map (· + 1)

/-- Whether a forced break may fall after the items' first `n` (R74): the n-th is a glyph that fits by R72. -/
def forcedFits (mr : Nat) (items : List LineItem) (n : Nat) : Bool :=
  match (items.take n).getLast? with
  | some (.glyph p) => fitsPlain mr p (glyphsOf (items.take n)).length
  | _ => false

/-- The rightmost forced break that fits (R74). -/
def forcedPlace (mr : Nat) (items : List LineItem) : Option Nat :=
  (List.range (items.length + 1)).reverse.find? fun n => forcedFits mr items n

/-- The number of items up to and including the line's first glyph. -/
def firstGlyphPlace (items : List LineItem) : Nat :=
  (items.takeWhile fun i => !i.isGlyph).length + 1

/-- The break decision of an overflowing line with these items, for a word with these codes and marks of which `gone`
glyphs stand in earlier lines (R73 when the line holds an interword space entry, R74 when it does not). -/
def decideBreak (t : Tables) (d : List DictEntry) (params : Params) (ladder mr : Nat) (items : List LineItem)
    (w : Word) (gone : Nat) : Cut :=
  match tryCandidates t params mr items w.codes.length gone (candidates params ladder t d w) with
  | some cut => cut
  | none =>
    match lastInterword items with
    | some n => ⟨items.take (n - 1), items.drop n, false, false, false⟩
    | none =>
      match forcedPlace mr items with
      | some n => ⟨items.take n, items.drop n, false, true, false⟩
      | none =>
        ⟨items.take (firstGlyphPlace items), items.drop (firstGlyphPlace items), false, false, true⟩

/-! ### Re-adding a carry list (R76) -/

/-- A line being filled from a carry list. -/
structure Refill where
  items : List LineItem
  x : Int
  stretch : Int
  shrink : Int
  glyphs : Nat
  overflowed : Bool
  overset : Bool
  deriving DecidableEq, Repr

/-- A new line at left start `ls` (R60). -/
def Refill.start (ls : Nat) : Refill := ⟨[], (ls : Int) * 48, 0, 0, 0, false, false⟩

/-- A space put on a line, taking its place after X (R66 to R68). -/
def Refill.addSpace (r : Refill) (p : Space) : Refill :=
  { r with
    items := r.items ++ [.space { p with after := r.x + p.normal }]
    x := r.x + p.normal
    stretch := if p.justifiable then r.stretch + (p.maximum - p.normal) else r.stretch
    shrink := if p.justifiable then r.shrink + (p.normal - p.minimum) else r.shrink }

/-- Whether a space taken on a line is dropped: a justifiable space where the line holds no glyph, an interword space
after an interword space (R66, R67). -/
def spaceDropped (kind : SpaceKind) (glyphs : Nat) (last : Option LineItem) : Bool :=
  match kind with
  | .interword => glyphs == 0 || (last.map LineItem.isInterword).getD false
  | .noBreak => glyphs == 0
  | .thin => false
  | .en => false
  | .em => false

/-- One carried item re-added (R76). -/
def Refill.add (mr : Nat) (r : Refill) : LineItem → Refill
  | .glyph g =>
    let pair := if r.glyphs = 0 then 0 else g.pairPart
    let placed := { g with pairPart := pair }.place mr r.x r.shrink (g.manualPart + pair)
    { r with
      items := r.items ++ [.glyph placed]
      x := placed.after
      glyphs := r.glyphs + 1
      overflowed := r.overflowed || overflows mr placed.after r.shrink (r.glyphs + 1) }
  | .space p =>
    if spaceDropped p.kind r.glyphs r.items.getLast? then r
    else if Config.lineSpaces ≤ (spacesOf r.items).length then { r with overset := true }
    else r.addSpace p

/-- The carry list re-added to a new line (R76). -/
def refill (ls mr : Nat) (carried : List LineItem) : Refill := carried.foldl (Refill.add mr) (.start ls)

/-! ### The close (R77 to R82) -/

/-- The items after the line's last glyph. -/
def trailing (items : List LineItem) : List LineItem := (items.reverse.takeWhile fun i => !i.isGlyph).reverse

/-- The items up to and including the line's last glyph. -/
def uptoLastGlyph (items : List LineItem) : List LineItem := (items.reverse.dropWhile fun i => !i.isGlyph).reverse

/-- A line's items at close: every interword and no-break space entry after its last glyph removed (R77). -/
def closedItems (items : List LineItem) : List LineItem :=
  uptoLastGlyph items ++ (trailing items).filter fun i => !i.justifiable

/-- The normal widths removed with them. -/
def removedWidth (items : List LineItem) : Int :=
  ((spacesOf (trailing items)).map fun p => if p.justifiable then p.normal else 0).sum

/-- G: the places where two glyph entries stand next to each other (R77). -/
def glyphGaps : List LineItem → Nat
  | .glyph _ :: .glyph h :: rest => 1 + glyphGaps (.glyph h :: rest)
  | _ :: rest => glyphGaps rest
  | [] => 0

/-- What a line gives its gaps, its spaces and its right at close. -/
structure Justified where
  gap : Nat
  share : Int
  right : Nat
  shift : Nat
  loose : Bool
  deriving DecidableEq, Repr

/-- The table of R78, for quad justify. -/
def justify (d smax : Int) (n g letterspace : Nat) : Justified :=
  if d ≤ smax then ⟨0, if n = 0 then 0 else d, 0, 0, false⟩
  else if letterspace = 0 ∨ g = 0 then
    if n = 0 then ⟨0, 0, d.toNat, 0, decide (0 < d.toNat)⟩ else ⟨0, d, 0, 0, decide (smax < d)⟩
  else
    let gap := min letterspace ((d - smax) / g).toNat
    let rest := d - g * gap
    if n = 0 then ⟨gap, 0, rest.toNat, 0, decide (0 < rest.toNat)⟩ else ⟨gap, rest, 0, 0, decide (smax < rest)⟩

/-- Quad left, right and centre (R80). -/
def quadded (quad : Quad) (d : Int) (n : Nat) : Justified :=
  if 0 ≤ d then
    match quad with
    | .right => ⟨0, 0, 0, d.toNat, false⟩
    | .centre => ⟨0, 0, 0, (d / 2).toNat, false⟩
    | .left => ⟨0, 0, 0, 0, false⟩
    | .justify => ⟨0, 0, 0, 0, false⟩
  else ⟨0, if n = 0 then 0 else d, 0, 0, false⟩

/-- R78 or R80, by the quad used. -/
def settle (quad : Quad) (d smax : Int) (n g letterspace : Nat) : Justified :=
  match quad with
  | .justify => justify d smax n g letterspace
  | .left => quadded .left d n
  | .right => quadded .right d n
  | .centre => quadded .centre d n

/-- q and r of an amount shared among `n` justifiable spaces (R79). -/
def shareQuotient (share : Int) (n : Nat) : Int := if n = 0 then 0 else share / n
def shareRemainder (share : Int) (n : Nat) : Nat := if n = 0 then 0 else (share % n).toNat

/-- The extra of the `k`-th justifiable space from the left, counting from 0 (R79). -/
def extraOf (q : Int) (r k : Nat) : Int := if k < r then q + 1 else q

/-- Final positions (R81): each glyph's x is its origin plus the extras and gaps before it and the shift, clamped to
the carriage range; each justifiable space keeps its extra. `moved` is what stands before the item, `k` the
justifiable spaces before it, `afterGlyph` whether the item before it is a glyph. -/
def finalItems (q : Int) (r gap : Nat) : List LineItem → Int → Nat → Bool → List LineItem
  | [], _, _, _ => []
  | .glyph g :: rest, moved, k, afterGlyph =>
    let moved := if afterGlyph then moved + gap else moved
    .glyph { g with x := (clampInt 0 Config.carriageRange ((g.x : Int) + moved)).toNat } ::
      finalItems q r gap rest moved k true
  | .space p :: rest, moved, k, _ =>
    if p.justifiable then
      .space { p with extra := extraOf q r k } :: finalItems q r gap rest (moved + extraOf q r k) (k + 1) false
    else .space p :: finalItems q r gap rest moved k false

/-- The record of a line closed with quad `quad` (R77 to R82), from its settled items and its X. A line with no glyph
entry is empty: every justification result is 0 and nothing is placed. -/
def closeRecord (params : Params) (quad : Quad) (x : Int) (r : LineRecord) : LineRecord :=
  let items := closedItems r.items
  let move := (lengthSteps params.lead : Int) + r.adjustment
  if (glyphsOf items).isEmpty then
    { r with
      items := items
      quad := quad
      spaces := 0
      quotient := 0
      remainder := 0
      gap := 0
      leftAtRight := 0
      filmMove := move }
  else
    let n := ((spacesOf items).filter Space.justifiable).length
    let g := glyphGaps items
    let d := (r.mr : Int) - nearestStep (x - removedWidth r.items)
    let j := settle quad d (nearestStep (stretchOf items)) n g params.letterspace
    let q := shareQuotient j.share n
    let rem := shareRemainder j.share n
    { r with
      items := finalItems q rem j.gap items j.shift 0 false
      quad := quad
      spaces := n
      quotient := q
      remainder := rem
      gap := j.gap
      leftAtRight := j.right
      filmMove := move
      flags := { r.flags with loose := r.flags.loose || j.loose } }

end Sys2Proof.Machine
end

