-- ==== Sys2Proof/Machine/DeskOps.lean ====
section
/-! DEFINITION. The Composer on its desk (its own state, the Line Store and the pending set): opening a line (R59,
R60), WAIT SLOT (R61), setting a glyph (R63 to R65, R69), spaces (R66 to R68), the break and its carry (R71, R75,
R76), the close (R77, R82, R102), CUT and STOP records (R85, R86), KILL LINE and CLEAR (R87, R88), and the parameter
set and stack (R22 to R37). The tables `t` and the dictionary `dict` are only read. -/

namespace Sys2Proof.Machine

/-! ### Small writers -/

def Desk.withComposer (d : Desk) (c : Composer) : Desk := { d with composer := c }

def Desk.withPhase (d : Desk) (p : Phase) : Desk := { d with composer := { d.composer with phase := p } }

def Desk.withRecord (d : Desk) (i : Nat) (r : LineRecord) : Desk := { d with store := d.store.putRecord i r }

/-- Left start and right boundary of a line that opens with these parameters, in steps (R27). -/
def Params.lineStart (p : Params) : Nat := lengthSteps p.left
def Params.lineEnd (p : Params) : Nat := lengthSteps (p.measure - p.right)

/-- The counter after a line or record has taken its value (R58). -/
def nextNumber (n : Nat) : Nat := (n + 1) % 65536

/-! ### Opening (R60, R61) -/

/-- The record a TEXT line starts with (R60). -/
def Composer.textRecord (c : Composer) : LineRecord :=
  { LineRecord.blank with
    number := c.counter
    ls := c.params.lineStart
    mr := c.params.lineEnd
    columnMark := c.columnMark
    adjustment := c.adjust }

/-- A line opened in the lowest FREE slot; none when no slot is FREE (R60, R112). -/
def Desk.openLine (d : Desk) : Option (Desk × OpenLine) :=
  match d.store.lowestFree with
  | none => none
  | some i =>
    let line : OpenLine := ⟨i, (d.composer.params.lineStart : Int) * 48, 0, 0, 0⟩
    some
      ({ d with
          store := d.store.fill i d.composer.textRecord
          composer := { d.composer with
            phase := .opened line
            adjust := 0
            columnMark := false
            counter := nextNumber d.composer.counter } },
        line)

/-- No slot is FREE: the Composer holds the item in WAIT SLOT (R61). -/
def Desk.wait (d : Desk) (w : Waiting) : Desk := d.withPhase (.waitSlot w)

/-! ### Closing (R77, R82, R102, R114) -/

/-- The ladder count after a reported close (R102). -/
def ladderAfter (ladder : Nat) (hyphenEnded : Bool) : Nat := if hyphenEnded then saturate 255 ladder else 0

/-- The line in slot `i` closed with its record complete: READY at the tail of the ready list, LINE FLAGGED where its
flags post it, the close reported to the ladder count; the Composer is IDLE with an empty word buffer (R82). -/
def Desk.closeLine (d : Desk) (i : Nat) (r : LineRecord) : Desk :=
  { composer := { d.composer with
      phase := .idle
      word := .empty
      ladder := ladderAfter d.composer.ladder r.flags.hyphenEnded }
    store := d.store.close i r
    events := postWhen r.flags.posts .lineFlagged d.events }

/-- The open line closed, its word settled, with the quad mode or the last-line quad mode (R28, R77). -/
def Desk.closeOpen (d : Desk) (line : OpenLine) (lastLine : Bool) : Desk :=
  let quad := if lastLine then d.composer.params.lastQuad else d.composer.params.quad
  d.closeLine line.slot (closeRecord d.composer.params quad line.x (d.store.record line.slot))

/-! ### Spaces (R66 to R68) -/

/-- The units of a space's minimum, normal and maximum (R66, R68). -/
def spaceUnits (p : Params) : SpaceKind → Nat × Nat × Nat
  | .interword => (p.spaceMin, p.spaceNormal, p.spaceMax)
  | .noBreak => (p.spaceMin, p.spaceNormal, p.spaceMax)
  | .thin => (24, 24, 24)
  | .en => (48, 48, 48)
  | .em => (96, 96, 96)

/-- A space of a kind taken on the open line, whose word has ended (R66 to R68). -/
def Desk.takeSpace (t : Tables) (d : Desk) (line : OpenLine) (kind : SpaceKind) : Desk :=
  let r := d.store.record line.slot
  if spaceDropped kind line.glyphs r.items.getLast? then d
  else if Config.lineSpaces ≤ (spacesOf r.items).length then
    d.withRecord line.slot { r with flags := { r.flags with overset := true } }
  else
    match t.resolve d.composer.params.size, d.composer.params.font with
    | some (lens, hs), some font =>
      let u := spaceUnits d.composer.params kind
      let p : Space :=
        { kind := kind, font := font, lens := lens, hs := hs, minimum := fine u.1 hs, normal := fine u.2.1 hs,
          maximum := fine u.2.2 hs, extra := 0, after := line.x + fine u.2.1 hs }
      let wider : OpenLine :=
        { line with
          x := line.x + p.normal
          stretch := if p.justifiable then line.stretch + (p.maximum - p.normal) else line.stretch
          shrink := if p.justifiable then line.shrink + (p.normal - p.minimum) else line.shrink }
      (d.withRecord line.slot
          { r with
            items := r.items ++ [.space p]
            flags := { r.flags with
              sizeSubstituted := r.flags.sizeSubstituted || hs != d.composer.params.size } }).withPhase
        (.opened wider)
    | _, _ => d

/-! ### CUT and STOP records (R85, R86) -/

/-- The record a CUT starts and closes with (R85). -/
def Composer.cutRecord (c : Composer) : LineRecord :=
  { LineRecord.blank with
    number := c.counter
    kind := .cut
    ls := c.params.lineStart
    mr := c.params.lineEnd
    columnMark := c.columnMark
    adjustment := c.adjust
    filmMove := c.adjust }

/-- The record a STOP DISC starts and closes with (R86). -/
def Composer.stopRecord (c : Composer) : LineRecord :=
  { LineRecord.blank with
    number := c.counter
    kind := .stop
    ls := c.params.lineStart
    mr := c.params.lineEnd }

/-- A record without items, opened and closed at once; none when no slot is FREE (R85, R86). -/
def Desk.emit (d : Desk) (r : LineRecord) (c : Composer) : Option Desk :=
  match d.store.lowestFree with
  | none => none
  | some i =>
    some
      { d with
        store := (d.store.fill i r).close i r
        composer := { c with phase := .idle, counter := nextNumber c.counter } }

/-- A CUT with no line open (R85). -/
def Desk.emitCut (d : Desk) : Desk :=
  match d.emit d.composer.cutRecord { d.composer with adjust := 0, columnMark := false } with
  | some d => d
  | none => d.wait (.code .cut)

/-- A STOP DISC with no line open (R86). -/
def Desk.emitStop (d : Desk) : Desk :=
  match d.emit d.composer.stopRecord d.composer with
  | some d => d
  | none => d.wait (.code .stopDisc)

/-! ### A code after its word has ended -/

/-- A space code on the line that stands: dropped with no line open where it is justifiable (R59, R75), and opening a
line where it is fixed. -/
def Desk.spaceAfterWord (t : Tables) (d : Desk) (code : Instr) (kind : SpaceKind) : Desk :=
  match d.composer.phase with
  | .opened line => d.takeSpace t line kind
  | .idle =>
    if kind = .interword ∨ kind = .noBreak then d
    else
      match d.openLine with
      | some (d, line) => d.takeSpace t line kind
      | none => d.wait (.code code)
  | _ => d

/-- An END LINE or END PARA on the line that stands; with no line open it opens and closes an empty one (R60, R75,
R77). -/
def Desk.endAfterWord (d : Desk) (code : Instr) (lastLine : Bool) : Desk :=
  match d.composer.phase with
  | .opened line => d.closeOpen line lastLine
  | .idle =>
    match d.openLine with
    | some (d, line) => d.closeOpen line lastLine
    | none => d.wait (.code code)
  | _ => d

/-- Any open line closed with the last-line quad mode, for CUT and STOP DISC (R85). -/
def Desk.closeForRecord (d : Desk) : Desk :=
  match d.composer.phase with
  | .opened line => d.closeOpen line true
  | _ => d

/-- The code that ended a word, processed on whatever line stands after it (R71, R75). -/
def Desk.afterWord (t : Tables) (d : Desk) (code : Instr) : Desk :=
  match code with
  | .interwordSpace => d.spaceAfterWord t code .interword
  | .noBreakSpace => d.spaceAfterWord t code .noBreak
  | .thinSpace => d.spaceAfterWord t code .thin
  | .enSpace => d.spaceAfterWord t code .en
  | .emSpace => d.spaceAfterWord t code .em
  | .endLine => d.endAfterWord code false
  | .endPara => d.endAfterWord code true
  | .cut => d.closeForRecord.emitCut
  | .stopDisc => d.closeForRecord.emitStop
  | _ => d

/-- The same, where there may be no such code: a word ended by the 48-glyph limit has none (R75). -/
def Desk.afterBreak (t : Tables) (d : Desk) (ending : Option Instr) : Desk :=
  match ending with
  | some code => d.afterWord t code
  | none => d

/-! ### The break and its carry (R71, R75, R76) -/

/-- The line closed at a break decision, with the quad mode (R75). -/
def Desk.closeAtBreak (d : Desk) (slot : Nat) (cut : Cut) : Desk :=
  let r := d.store.record slot
  let r := { r with
    items := cut.kept
    flags := { r.flags with
      hyphenEnded := r.flags.hyphenEnded || cut.hyphenEnded
      forced := r.flags.forced || cut.forced
      overset := r.flags.overset || cut.overset } }
  d.closeLine slot (closeRecord d.composer.params d.composer.params.quad (positionAfter r.ls cut.kept) r)

/-- The carry a decision leaves: the word's glyphs are the last items of the line, so those that are not carried have
gone to earlier lines (R75). -/
def carryAfter (w : Word) (gone : Nat) (cut : Cut) : Carry :=
  ⟨cut.carried, w.codes, w.marks, w.noHyphenate, w.codes.length - min cut.carried.length (w.codes.length - gone)⟩

def Carry.word (c : Carry) : Word := ⟨c.codes, c.marks, c.noHyphenate⟩

/-- The carry list placed on a new line: re-added item by item, and broken again as long as it overflows; at most
`fuel` lines are opened, and each break moves at least one glyph into a closed line (R75, R76). The ending code is
processed on the line that then stands. -/
def Desk.placeCarry (t : Tables) (dict : List DictEntry) (ending : Option Instr) : Nat → Carry → Desk → Desk
  | 0, _, d => d
  | fuel + 1, carry, d =>
    match d.openLine with
    | none => d.wait (.carry carry ending)
    | some (d, line) =>
      let r := d.store.record line.slot
      let f := refill r.ls r.mr carry.items
      let r := { r with items := f.items, flags := { r.flags with overset := r.flags.overset || f.overset } }
      let d := d.withRecord line.slot r
      if f.overflowed then
        let cut :=
          decideBreak t dict d.composer.params d.composer.ladder r.mr f.items carry.word carry.gone
        let d := d.closeAtBreak line.slot cut
        if cut.carried.isEmpty then d.afterBreak t ending
        else Desk.placeCarry t dict ending fuel (carryAfter carry.word carry.gone cut) d
      else
        (d.withPhase (.opened ⟨line.slot, f.x, f.stretch, f.shrink, f.glyphs⟩)).afterBreak t ending

/-- The first break decision on the word in the word buffer (R71, R73 to R75), then its carry and ending code. -/
def Desk.breakLine (t : Tables) (dict : List DictEntry) (d : Desk) (line : OpenLine) (ending : Option Instr) : Desk :=
  let r := d.store.record line.slot
  let b := d.composer.word
  let w : Word := ⟨b.glyphs.map (·.code), b.marks, b.noHyphenate⟩
  let cut :=
    decideBreak t dict d.composer.params d.composer.ladder r.mr (r.items ++ b.glyphs.map .glyph) w 0
  let d := d.closeAtBreak line.slot cut
  if cut.carried.isEmpty then d.afterBreak t ending
  else d.placeCarry t dict ending (cut.carried.length + 1) (carryAfter w 0 cut)

/-! ### The word (R69) -/

/-- A word that ends in OPEN settles into the line (R69). -/
def Desk.settleWord (d : Desk) (line : OpenLine) : Desk :=
  let r := d.store.record line.slot
  { d.withRecord line.slot { r with items := r.items ++ d.composer.word.glyphs.map .glyph } with
    composer := { d.composer with word := .empty } }

/-- A code that ends the current word (R69, R71) is taken: the word settles or is broken, then the code is
processed. -/
def Desk.takeEnding (t : Tables) (dict : List DictEntry) (d : Desk) (code : Instr) : Desk :=
  match d.composer.phase with
  | .idle => d.afterWord t code
  | .opened line => (d.settleWord line).afterWord t code
  | .overflowed line => d.breakLine t dict line (some code)
  | .waitSlot _ => d

/-! ### Setting a glyph (R63 to R65) -/

/-- What a character code, or a damaged code, is set as: glyph position and role (R63). -/
def glyphFor (t : Tables) (w : WidthSlot) : Option Byte → Nat × Role
  | none => (tabGet w.info 0 1, .reject)
  | some c =>
    match tabGet w.codeMap none (c.toNat - 0x20) with
    | none => (tabGet w.info 0 1, .reject)
    | some position => (position, if (t.classOf c).cls = 0 then .nonLetter else .letter)

/-- The pair kern of a glyph after the item before it (R64 step 1). -/
def pairKern (w : WidthSlot) (font hs position : Nat) : Option LineItem → Int
  | some (.glyph g) =>
    if g.font = font ∧ g.hs = hs then
      tabGet w.kernPairs 0 (tabGet w.kernClasses 0 g.position * 16 + tabGet w.kernClasses 0 position)
    else 0
  | _ => 0

/-- The item immediately before the next glyph of the open line. -/
def Desk.lastItem (d : Desk) (line : OpenLine) : Option LineItem :=
  match d.composer.word.glyphs.getLast? with
  | some g => some (.glyph g)
  | none => (d.store.record line.slot).items.getLast?

/-- The glyph that a code sets on the open line, placed by R64; none when no font or lens is there to set it. -/
def Desk.makeGlyph (t : Tables) (d : Desk) (line : OpenLine) (code : Option Byte) : Option Glyph :=
  let p := d.composer.params
  match p.font with
  | none => none
  | some font =>
    match t.entry font, t.resolve p.size with
    | some e, some (lens, hs) =>
      let w := t.widthSlot e.slot
      let g := glyphFor t w code
      let pair := if p.kerning then pairKern w font hs g.1 (d.lastItem line) else 0
      let glyph : Glyph :=
        { code := code, font := font, disc := e.disc, ring := e.ring, position := g.1, lens := lens, hs := hs, x := 0,
          role := g.2, substituted := hs != p.size, manualPart := d.composer.manualKern, pairPart := pair,
          advance := advanceOf (tabGet w.widths 0 g.1) p.track, after := 0, shrinkAt := 0 }
      some (glyph.place (d.store.record line.slot).mr line.x line.shrink (d.composer.manualKern + pair))
    | _, _ => none

/-- The flags a code's glyph gives the open line (R62, R63). -/
def LineFlags.gather (f : LineFlags) (g : Glyph) : LineFlags :=
  { f with
    sizeSubstituted := f.sizeSubstituted || g.substituted
    reject := f.reject || (g.role == .reject && g.code.isSome)
    damaged := f.damaged || g.code.isNone }

/-- The word buffer with a glyph more; a word that begins takes the no-hyphenate mark (R69, R70). -/
def Composer.bufferGlyph (c : Composer) (g : Glyph) : Composer :=
  if c.word.glyphs.isEmpty then
    { c with word := ⟨[g], [], c.noHyphenate⟩, noHyphenate := false }
  else { c with word := { c.word with glyphs := c.word.glyphs ++ [g] } }

/-- A glyph set on the open line: in OPEN the overflow test follows it (R65), and the 48th glyph of the buffer ends
the word (R69, R71). -/
def Desk.setGlyph (t : Tables) (dict : List DictEntry) (d : Desk) (line : OpenLine) (was : Bool)
    (code : Option Byte) : Desk :=
  match d.makeGlyph t line code with
  | none => d
  | some g =>
    let r := d.store.record line.slot
    let further : OpenLine := { line with x := g.after, glyphs := line.glyphs + 1 }
    let full := was || overflows r.mr g.after line.shrink further.glyphs
    let c := { d.composer.bufferGlyph g with
      manualKern := 0
      phase := if full then .overflowed further else .opened further }
    let d := { d.withRecord line.slot { r with flags := r.flags.gather g } with composer := c }
    if c.word.glyphs.length < Config.wordSize then d
    else if full then d.breakLine t dict further none
    else d.settleWord further

/-- A character code or a damaged code taken (R59 to R63): it opens a line where none is open. -/
def Desk.takeGlyph (t : Tables) (dict : List DictEntry) (d : Desk) (code : Option Byte) (item : Instr) : Desk :=
  match d.composer.phase with
  | .opened line => d.setGlyph t dict line false code
  | .overflowed line => d.setGlyph t dict line true code
  | .idle =>
    match d.openLine with
    | some (d, line) => d.setGlyph t dict line false code
    | none => d.wait (.code item)
  | .waitSlot _ => d

/-! ### Checks at the take (R31) -/

/-- Whether a code that would set something can be set (R31). -/
def canSet (t : Tables) (p : Params) : Bool :=
  match p.font with
  | none => false
  | some f => t.settable f && t.hasLens

/-- A code that would set something: discarded with NOT SETTABLE where it cannot be set (R31). -/
def Desk.whenSettable (t : Tables) (d : Desk) (f : Desk → Desk) : Desk :=
  if canSet t d.composer.params then f d else d.post .notSettable

/-! ### Leaving WAIT SLOT (R61) -/

/-- The item held in WAIT SLOT processed, the Composer having left it. -/
def Desk.resumeHeld (t : Tables) (dict : List DictEntry) (d : Desk) (held : Waiting) : Desk :=
  match held with
  | .code (.textCode c) => d.takeGlyph t dict (some c) (.textCode c)
  | .code .damagedCode => d.takeGlyph t dict none .damagedCode
  | .code code => d.afterWord t code
  | .carry carry ending => d.placeCarry t dict ending (carry.items.length + 1) carry

/-- The Composer leaves WAIT SLOT once a slot is FREE (R61, R113). -/
def Desk.resume (t : Tables) (dict : List DictEntry) (d : Desk) : Desk :=
  match d.composer.phase with
  | .waitSlot held =>
    if d.store.lowestFree.isSome then (d.withPhase .idle).resumeHeld t dict held else d
  | _ => d

/-! ### Marks (R70) -/

/-- DISCRETIONARY HYPHEN: the gap after the last glyph of the word buffer is marked (R70). -/
def Desk.markDiscretionary (d : Desk) : Desk :=
  let w := d.composer.word
  if w.glyphs.isEmpty ∨ w.marks.contains w.glyphs.length then d
  else { d with composer := { d.composer with word := { w with marks := w.marks ++ [w.glyphs.length] } } }

/-! ### Film commands (R84) -/

/-- The pending film adjustment changed by some steps, with its clamp (R84). -/
def Desk.adjustFilm (d : Desk) (steps : Int) : Desk :=
  let sum := d.composer.adjust + steps
  let clamped := clampInt (-Config.filmReach) Config.filmReach sum
  { d with
    composer := { d.composer with adjust := clamped }
    events := postWhen (clamped != sum) .parameterClamped d.events }

/-! ### KILL LINE and CLEAR (R87, R88) -/

/-- The open line killed: its slot FREE, its number, film adjustment and column mark returned (R87). -/
def Desk.kill (d : Desk) (line : OpenLine) : Desk :=
  let r := d.store.record line.slot
  Desk.adjustFilm
    { d with
      store := d.store.release line.slot
      composer := { d.composer with
        phase := .idle
        word := .empty
        counter := r.number
        columnMark := d.composer.columnMark || r.columnMark } }
    r.adjustment

/-- KILL LINE taken; ignored with no line open (R87). -/
def Desk.killLine (d : Desk) : Desk :=
  match d.composer.phase with
  | .opened line => d.kill line
  | .overflowed line => d.kill line
  | .idle => d
  | .waitSlot _ => d

/-- CLEAR taken (R37, R88, R118): the open line killed, READY slots marked for discard, the parameters, the stack and
the Composer's pending state reset; the counter keeps its value. -/
def Desk.clear (d : Desk) : Desk :=
  let d := d.killLine
  { composer := { Composer.reset with counter := d.composer.counter }
    store := d.store.discardReady
    events := postWhen d.store.unmarkedReady .linesDiscarded d.events }

/-! ### Parameters (R22 to R25, R30) -/

/-- Indents that leave less than 24 half-points of measure: the right is reduced first, then the left (R23). -/
def Params.relate (p : Params) : Params :=
  if p.left + p.right + 24 ≤ p.measure then p
  else if p.left + 24 ≤ p.measure then { p with right := p.measure - 24 - p.left }
  else { p with right := 0, left := p.measure - 24 }

/-- A spaceband brought into order (R24): the maximum raised to the minimum, then the normal brought between. -/
def orderSpaceband (minimum normal maximum : Nat) : Nat × Nat × Nat :=
  let top := max minimum maximum
  (minimum, clampNat minimum top normal, top)

/-! ### The stack (R32 to R35) -/

/-- The frame a SAVE with this mask pushes (R33, section 2.4). -/
def Params.frame (p : Params) (mask : Byte) : Frame where
  mask := mask
  font := if maskBit mask 0 then some p.font else none
  size := if maskBit mask 1 then some p.size else none
  lead := if maskBit mask 2 then some p.lead else none
  measure := if maskBit mask 3 then some (p.measure, p.left, p.right) else none
  quad := if maskBit mask 4 then some (p.quad, p.lastQuad) else none
  spacing :=
    if maskBit mask 5 then some (p.spaceMin, p.spaceNormal, p.spaceMax, p.track, p.letterspace) else none
  hyphenation :=
    if maskBit mask 6 then
      some (p.hyphenation, p.threshold, p.leftMin, p.rightMin, p.ladderLimit, p.capitals)
    else none
  kerning := if maskBit mask 7 then some p.kerning else none

/-- The value of a group: the saved one where the command selects the group and the frame holds it (R34). -/
def restored {α : Type} (selected : Bool) (saved : Option α) (current : α) : α :=
  if selected then saved.getD current else current

/-- Whether a RESTORE of this frame refuses the saved font (R35). -/
def Frame.fontRefused (f : Frame) (t : Tables) (mask : Byte) : Bool :=
  maskBit mask 0 &&
    match f.font with
    | some (some n) => !t.settable n
    | _ => false

/-- The parameters after a frame is restored by a command with this mask (R34, R35). -/
def Params.restore (p : Params) (t : Tables) (f : Frame) (mask : Byte) : Params :=
  let m := restored (maskBit mask 3) f.measure (p.measure, p.left, p.right)
  let q := restored (maskBit mask 4) f.quad (p.quad, p.lastQuad)
  let s := restored (maskBit mask 5) f.spacing (p.spaceMin, p.spaceNormal, p.spaceMax, p.track, p.letterspace)
  let h :=
    restored (maskBit mask 6) f.hyphenation
      (p.hyphenation, p.threshold, p.leftMin, p.rightMin, p.ladderLimit, p.capitals)
  { font := if f.fontRefused t mask then p.font else restored (maskBit mask 0) f.font p.font
    size := restored (maskBit mask 1) f.size p.size
    lead := restored (maskBit mask 2) f.lead p.lead
    measure := m.1
    left := m.2.1
    right := m.2.2
    quad := q.1
    lastQuad := q.2
    spaceMin := s.1
    spaceNormal := s.2.1
    spaceMax := s.2.2.1
    track := s.2.2.2.1
    letterspace := s.2.2.2.2
    kerning := restored (maskBit mask 7) f.kerning p.kerning
    hyphenation := h.1
    threshold := h.2.1
    leftMin := h.2.2.1
    rightMin := h.2.2.2.1
    ladderLimit := h.2.2.2.2.1
    capitals := h.2.2.2.2.2 }

/-! ### The desk in the whole part -/

/-- A Composer operation carried out in the whole part. -/
def State.onDesk (s : State) (f : Tables → List DictEntry → Desk → Desk) : State :=
  s.withDesk (f s.tables s.dict s.desk)

end Sys2Proof.Machine
end

