-- ==== Sys2Proof/Machine/FilmOps.lean ====
section
/-! DEFINITION. Film Transport (chapter 8) on its own state: serving a net move (R152 to R154) and a cut (R156), a
request by transport state (R151), the ends of moves and strokes (R154 to R156), the cassette (R157 to R159), and what
an abandoned line leaves behind (R160, R161). -/

namespace Sys2Proof.Machine

/-- What Film Transport reports to the Imager (R151). -/
inductive Report where
  | moveDone (tag : Nat)
  | cutDone
  | filmFault
  deriving DecidableEq, Repr

/-- What an operation of Film Transport comes to: its state, the events it posts, whether the IMAGING record is
flagged REVERSE CLAMPED, and its report. -/
structure FilmResult where
  film : Film
  posts : List Event
  clamped : Bool
  report : Option Report
  deriving DecidableEq, Repr

/-- A change of state and nothing else. -/
def Film.quietly (x : Film) : FilmResult := ⟨x, [], false, none⟩

def Film.withTransport (x : Film) (t : Transport) : Film := { x with transport := t }

/-- The request is held in FILM OUT and FILM OUT is posted (R153). -/
def Film.holdOut (x : Film) (q : Request) (clamped : Bool) : FilmResult :=
  ⟨{ x with transport := .filmOut, held := some q }, if clamped then [.reverseClamped, .filmOut] else [.filmOut],
    clamped, none⟩

/-- The lowest permitted position, for a floor (R152). -/
def Film.lowest (x : Film) (floor : Nat) : Nat := max floor (x.h - Config.filmReach)

/-- A net move served (R152 to R154): the column mark, the target with its reverse clamp, the film-out check, and the
move. Film of unknown length is never moved (R153). -/
def Film.serveMove (x : Film) (v : Int) (mark : Bool) : FilmResult :=
  if x.l = 0 then x.holdOut (.move v mark) false
  else
    let x : Film := { x with floor := if mark then x.f else x.floor, held := none }
    let low := x.lowest x.floor
    let clamped := decide ((x.f : Int) + v < low)
    let target := if clamped then low else ((x.f : Int) + v).toNat
    let posts : List Event := if clamped then [.reverseClamped] else []
    if x.l < target then x.holdOut (.move v mark) clamped
    else if target = x.f then
      ⟨{ x with transport := .ready, h := max x.h target }, posts, clamped, some (.moveDone target)⟩
    else ⟨x.withTransport (.moving target true), posts, clamped, none⟩

/-- A cut served (R156): the allowance target, its film-out check, and the allowance advance. -/
def Film.serveCut (x : Film) : FilmResult :=
  if x.l < x.f + Config.cutAllowance then x.holdOut .cut false
  else ({ x with held := none }.withTransport (.cutAdvance (x.f + Config.cutAllowance) true)).quietly

/-- A request served. -/
def Film.serve (x : Film) : Request → FilmResult
  | .move v mark => x.serveMove v mark
  | .cut => x.serveCut

/-- A request of the Imager, by transport state (R151, R160, R161). -/
def Film.ask (x : Film) (q : Request) : FilmResult :=
  match x.transport with
  | .ready => x.serve q
  | .filmOut => ⟨{ x with held := some q }, [.filmOut], false, none⟩
  | .noCassette => ⟨{ x with held := some q }, [.filmOut], false, none⟩
  | .moving _ _ => { x with held := some q }.quietly
  | .cutAdvance _ _ => { x with held := some q }.quietly
  | .cutStroke _ => { x with held := some q }.quietly
  | .fault => ⟨x, [.filmFault], false, some .filmFault⟩

/-- L becomes A, and the positions 0 (R158, R159). -/
def Film.reload (x : Film) : Film := { x with l := x.a, f := 0, h := 0, floor := 0, deferred := false }

/-- Serving a held request once film may have come, or settling in READY or FILM OUT without one (R158, R159). -/
def Film.reserve (x : Film) : FilmResult :=
  match x.held with
  | some q => x.serve q
  | none =>
    if x.l = 0 then ⟨x.withTransport .filmOut, [.filmOut], false, none⟩ else (x.withTransport .ready).quietly

/-- A move or cut has ended well (R154, R156, R159, R160): a deferred cassette is applied, a request that waited for the
end is served. `awaited` says that the Imager waits for the report `r`. -/
def Film.finish (x : Film) (awaited : Bool) (r : Report) : FilmResult :=
  if x.deferred then
    let y := x.reload.reserve
    { y with report := if awaited then some r else y.report }
  else
    match x.held with
    | some q =>
      let y := (x.withTransport .ready).serve q
      { y with report := if awaited then some r else y.report }
    | none => ⟨x.withTransport .ready, [], false, if awaited then some r else none⟩

/-- A move or cut has failed (R155, R156, R159, R160): FAULT, a deferred cassette applied. A line that waits for the
result, or whose request is held behind it, is told (log entry 16). -/
def Film.fail (x : Film) (awaited : Bool) : FilmResult :=
  let y := if x.deferred then x.reload else x
  ⟨{ y with transport := .fault, held := none }, [.filmFault], false,
    if awaited || x.held.isSome then some .filmFault else none⟩

/-- The film has reached a target: H and F follow (R154, R156). -/
def Film.arriveAt (x : Film) (target : Nat) : Film := { x with h := max x.h target, f := target }

/-- The film arrives (R154, R156). -/
def Film.arrive (x : Film) : FilmResult :=
  match x.transport with
  | .moving target awaited => (x.arriveAt target).finish awaited (.moveDone target)
  | .cutAdvance target awaited => ((x.arriveAt target).withTransport (.cutStroke awaited)).quietly
  | _ => x.quietly

/-- The 2 s timer of a move or a cut allowance expires (R155, R156). -/
def Film.moveExpires (x : Film) : FilmResult :=
  match x.transport with
  | .moving _ awaited => x.fail awaited
  | .cutAdvance _ awaited => x.fail awaited
  | _ => x.quietly

/-- Cutter done (R156). -/
def Film.cutterEnds (x : Film) : FilmResult :=
  match x.transport with
  | .cutStroke awaited => { x with floor := x.f }.finish awaited .cutDone
  | _ => x.quietly

/-- The 1 s cutter timer expires (R156). -/
def Film.cutterExpires (x : Film) : FilmResult :=
  match x.transport with
  | .cutStroke awaited => x.fail awaited
  | _ => x.quietly

/-- The cassette is removed (R157): in a motion or a stroke that is FILM FAULT, posted and reported to the Imager. -/
def Film.remove (x : Film) : FilmResult :=
  let y : Film := { x with l := 0, f := 0, h := 0, floor := 0, deferred := false, transport := .noCassette }
  match x.transport with
  | .moving _ _ => ⟨y, [.filmFault], false, some .filmFault⟩
  | .cutAdvance _ _ => ⟨y, [.filmFault], false, some .filmFault⟩
  | .cutStroke _ => ⟨y, [.filmFault], false, some .filmFault⟩
  | _ => y.quietly

/-- A cassette is inserted (R158). -/
def Film.insert (x : Film) : FilmResult := x.reload.reserve

/-- CASSETTE taken, with A already set to the steps given (R159). -/
def Film.takeCassette (x : Film) (steps : Nat) : FilmResult :=
  let x : Film := { x with a := steps }
  match x.transport with
  | .noCassette => x.quietly
  | .fault => x.reload.quietly
  | .ready => x.reload.reserve
  | .filmOut => x.reload.reserve
  | .moving _ _ => { x with deferred := true }.quietly
  | .cutAdvance _ _ => { x with deferred := true }.quietly
  | .cutStroke _ => { x with deferred := true }.quietly

/-- The Imager has abandoned its line (R160). -/
def Film.abandon (x : Film) : Film :=
  let x : Film := { x with held := none }
  match x.transport with
  | .ready => x
  | .moving target _ => x.withTransport (.moving target false)
  | .cutAdvance target _ => x.withTransport (.cutAdvance target false)
  | .cutStroke _ => x.withTransport (.cutStroke false)
  | .filmOut => if x.l = 0 then x else x.withTransport .ready
  | .noCassette => x
  | .fault => x

/-- The homing notice (R161). -/
def Film.homing (x : Film) : Film :=
  match x.transport with
  | .fault => x.withTransport (if x.l = 0 then .filmOut else .ready)
  | _ => x

end Sys2Proof.Machine
end

