-- ==== Sys2Proof/Machine/ProofOps.lean ====
section
/-! DEFINITION. The Proof Spooler (chapter 9): proof records (R166), their print lines (R172, R173), the byte handshake
(R174, R175), the finish of a record (R169, R171), going OFFLINE and returning (R170), and the decision at an imaging
end (R165, R167, R168). -/

namespace Sys2Proof.Machine

/-! ### Proof records (R166) -/

/-- The text item of a line's item. -/
def proofItem : LineItem → ProofItem
  | .space p => .space p.font
  | .glyph g =>
    match g.role, g.code with
    | .addedHyphen, _ => .addedHyphen g.font
    | _, some c => .code c g.font
    | _, none => .damaged g.font

/-- The proof record of a line whose outcome is written, with a gap count. A TEXT line without a glyph is empty (R77):
it has no text items, whatever fixed spaces stand in it. -/
def LineRecord.proof (r : LineRecord) (gap : Nat) : ProofRecord where
  number := r.number
  kind := r.kind
  tag := r.tag
  flags := r.flags
  outcome := r.outcome.getD .set
  gap := gap
  text := if (glyphsOf r.items).isEmpty then [] else (r.items.map proofItem).take Config.proofItems

/-! ### Print lines (R172, R173) -/

/-- ASCII text. -/
def ascii (text : List Char) : List Byte := text.map fun c => BitVec.ofNat 8 c.toNat

/-- The decimal digits of a number below 10^10, without leading zeros. -/
def decimal (n : Nat) : List Byte :=
  let digits := ((List.range 10).reverse.map fun k => n / 10 ^ k % 10).dropWhile (· == 0)
  (if digits.isEmpty then [0] else digits).map fun d => BitVec.ofNat 8 (0x30 + d)

/-- Right-aligned with leading spaces. -/
def rightAligned (width n : Nat) : List Byte :=
  List.replicate (width - (decimal n).length) 0x20 ++ decimal n

/-- The gap line. -/
def gapLine (n : Nat) : List Byte :=
  ascii ['*', '*', '*', '*', ' '] ++ decimal n ++
    ascii [' ', 'L', 'I', 'N', 'E', 'S', ' ', 'N', 'O', 'T', ' ', 'P', 'R', 'O', 'O', 'F', 'E', 'D']

/-- A flag column: its letter when the condition holds, a full stop otherwise. -/
def flagColumn (c : Bool) (letter : Char) : Byte := BitVec.ofNat 8 (if c then letter.toNat else '.'.toNat)

/-- Columns 15 to 20. -/
def ProofRecord.flagColumns (r : ProofRecord) : List Byte :=
  [flagColumn r.flags.hyphenEnded 'H', flagColumn r.flags.loose 'L',
    flagColumn (r.flags.overset || r.flags.forced) 'O', flagColumn r.flags.sizeSubstituted 'S',
    flagColumn (r.flags.dropped || r.flags.damaged || r.flags.reject) 'D',
    flagColumn (r.outcome == .fault) 'F']

/-- Columns 1 to 21 of the header line. -/
def ProofRecord.header (r : ProofRecord) : List Byte :=
  rightAligned 5 r.number ++ [0x20] ++ rightAligned 7 (r.tag / 20) ++ [0x20] ++ r.flagColumns ++ [0x20]

/-- The font of a text item. -/
def ProofItem.font : ProofItem → Nat
  | .code _ f => f
  | .damaged f => f
  | .addedHyphen f => f
  | .space f => f

/-- The character an item prints. -/
def ProofItem.char : ProofItem → Byte
  | .code c _ => if 0x20 ≤ c.toNat ∧ c.toNat ≤ 0x7E then c else 0x7E
  | .damaged _ => 0x7E
  | .addedHyphen _ => 0x2D
  | .space _ => 0x20

/-- The font group: an opening brace, two decimal digits, a closing brace. -/
def fontGroup (f : Nat) : List Byte :=
  [0x7B, BitVec.ofNat 8 (0x30 + f / 10 % 10), BitVec.ofNat 8 (0x30 + f % 10), 0x7D]

/-- Text being laid out in columns 22 to 132: whole lines, the line being filled, and the font in force. -/
structure Layout where
  full : List (List Byte)
  line : List Byte
  font : Option Nat
  deriving DecidableEq, Repr

/-- Characters that stay together: on this line when they fit in its 111 text columns, else on the next. -/
def Layout.put (l : Layout) (chars : List Byte) : Layout :=
  if l.line.length + chars.length ≤ 111 then { l with line := l.line ++ chars }
  else { l with full := l.full ++ [l.line], line := chars }

/-- An item laid out, after its font group where its font differs from the font in force. -/
def Layout.item (l : Layout) (i : ProofItem) : Layout :=
  let l := if l.font = some i.font then l else { l.put (fontGroup i.font) with font := some i.font }
  l.put [i.char]

/-- The text of a record in lines of at most 111 columns; an empty text is one empty line. -/
def textLines (items : List ProofItem) : List (List Byte) :=
  let l := items.foldl Layout.item ⟨[], [], none⟩
  l.full ++ [l.line]

/-- The header line and its continuation lines. -/
def ProofRecord.body (r : ProofRecord) : List (List Byte) :=
  match r.kind with
  | .cut => [r.header ++ ascii ['-', '-', '-', '-', ' ', 'C', 'U', 'T', ' ', '-', '-', '-', '-']]
  | _ =>
    match textLines r.text with
    | [] => [r.header]
    | first :: rest => (r.header ++ first) :: rest.map fun t => List.replicate 21 0x20 ++ t

/-- The print lines of a record, each with its carriage return and line feed (R172). -/
def ProofRecord.printLines (r : ProofRecord) : List (List Byte) :=
  ((if r.gap = 0 then [] else [gapLine r.gap]) ++ r.body).map (· ++ [0x0D, 0x0A])

/-! ### The handshake (R171, R174, R175) -/

/-- The byte at the print position. -/
def Proof.currentByte (x : Proof) : Byte :=
  match x.queue with
  | [] => 0
  | r :: _ => (((r.printLines[x.printLine]?).getD [])[x.printByte]?).getD 0

/-- The byte is placed on the data lines, STROBE pulsed, and the 50 ms ACK timer started (R175). -/
def Proof.strobe (x : Proof) : Proof := { x with data := x.currentByte, port := .waitAck }

/-- BUSY is looked at before a byte of the head record, when there is one to send (R171, R174). -/
def Proof.look (x : Proof) (busy : Bool) : Proof :=
  if x.printer = .online ∧ x.port = .idle ∧ x.queue ≠ [] then
    if busy then { x with port := .waitBusy } else x.strobe
  else x

/-- The print position set back to the start of the head record. -/
def Proof.restart (x : Proof) : Proof := { x with printLine := 0, printByte := 0 }

/-- The print position after the byte there has been accepted; none when it was the record's last (R171). -/
def Proof.nextPosition (x : Proof) : Option (Nat × Nat) :=
  match x.queue with
  | [] => none
  | r :: _ =>
    if x.printByte + 1 < ((r.printLines[x.printLine]?).getD []).length then some (x.printLine, x.printByte + 1)
    else if x.printLine + 1 < r.printLines.length then some (x.printLine + 1, 0)
    else none

/-! ### The queue (R167 to R169) -/

/-- A line enters the proof queue with the pending gap count, which returns to 0 (R166, R168). -/
def Proof.enqueue (x : Proof) (r : LineRecord) : Proof := { x with queue := x.queue ++ [r.proof x.gap], gap := 0 }

/-- A line skipped: the pending gap count rises, staying at 65535 (R168). -/
def Proof.skip (x : Proof) : Proof := { x with gap := saturate 65535 x.gap }

def Photo.withProof (p : Photo) (x : Proof) : Photo := { p with proof := x }

def Photo.withStore (p : Photo) (x : Store) : Photo := { p with store := x }

/-- A line in slot `i` skipped: counted, PROOF SKIPPED posted, the slot FREE (R167, R170). -/
def Photo.skipLine (p : Photo) (i : Nat) : Photo :=
  ((p.withProof p.proof.skip).withStore (p.store.release i)).post .proofSkipped

/-- A line in slot `i` copied into the proof queue, the slot FREE (R120, R121). -/
def Photo.copyLine (p : Photo) (i : Nat) : Photo :=
  (p.withProof (p.proof.enqueue (p.store.record i))).withStore (p.store.release i)

/-- Whether a line is selected for proof (R165). -/
def selected (mode : ProofMode) (r : LineRecord) : Bool :=
  if r.kind = .stop ∨ r.outcome = some .discarded then false
  else
    match mode with
    | .off => false
    | .all => true
    | .flagged => r.outcome == some .fault || r.flags.selects

/-- The Proof Spooler's decision on the undecided SET slot `i` (R120, R165, R167). -/
def Photo.decideProof (p : Photo) (i : Nat) : Photo :=
  if selected p.proof.mode (p.store.record i) then
    if p.proof.printer ≠ .online then p.skipLine i
    else if p.proof.queue.length < Config.proofQueue then
      let q := p.copyLine i
      q.withProof (q.proof.look q.busy)
    else
      match p.proof.policy with
      | .skip => p.skipLine i
      | .hold => p.withStore (p.store.await i)
  else p.withStore (p.store.release i)

/-- The head record has been printed: it leaves the queue, and the head awaiting slot is copied into it (R169). -/
def Photo.finishRecord (p : Photo) : Photo :=
  let p := p.withProof { p.proof.restart with queue := p.proof.queue.tail }
  match p.store.awaiting with
  | [] => p
  | i :: _ => p.copyLine i

/-- ACK: in WAIT ACK and WAIT ACK RETRY the byte is accepted (R175). -/
def Photo.accept (p : Photo) : Photo :=
  if p.proof.printer = .online ∧ (p.proof.port = .waitAck ∨ p.proof.port = .waitAckRetry) then
    let p := p.withProof { p.proof with port := .idle }
    let p :=
      match p.proof.nextPosition with
      | some (line, byte) => p.withProof { p.proof with printLine := line, printByte := byte }
      | none => p.finishRecord
    p.withProof (p.proof.look p.busy)
  else p

/-! ### ONLINE and OFFLINE (R170) -/

/-- An entry to OFFLINE. -/
def Photo.goOffline (p : Photo) (note : Bool) : Photo :=
  let p := (p.withProof { p.proof.restart with printer := .offline note, port := .idle }).post .proofOffline
  p.store.awaiting.foldl Photo.skipLine p

/-- SELECT goes inactive. -/
def Photo.deselect (p : Photo) : Photo :=
  match p.proof.printer with
  | .online => p.goOffline true
  | .offline _ => p.withProof { p.proof with printer := .offline true }

/-- SELECT goes active: ONLINE again when it has been seen inactive, the head record from its start. -/
def Photo.reselect (p : Photo) : Photo :=
  match p.proof.printer with
  | .offline true => p.withProof ({ p.proof with printer := .online }.look p.busy)
  | _ => p

/-- BUSY goes inactive. -/
def Photo.notBusy (p : Photo) : Photo :=
  if p.proof.printer = .online ∧ p.proof.port = .waitBusy then p.withProof p.proof.strobe else p

/-- The 10 s BUSY timer expires (R174). -/
def Photo.busyExpires (p : Photo) : Photo := if p.proof.port = .waitBusy then p.goOffline false else p

/-- The 50 ms ACK timer expires (R175). -/
def Photo.ackExpires (p : Photo) : Photo :=
  match p.proof.port with
  | .waitAck => p.withProof { p.proof with port := .waitAckRetry }
  | .waitAckRetry => p.goOffline false
  | _ => p

end Sys2Proof.Machine
end

