-- ==== Sys2Proof/Machine/Parser.lean ====
section
/-! DEFINITION. The Intake's parser (R2, R4 to R9, R15, R16, R20): what the take of the next entry of its source comes
to. A take is nothing (no entry to take), quiet (a step of PARSER_TAKE), or a complete item to deliver. -/

namespace Sys2Proof.Machine

/-! ### The FIFO and the source -/

/-- The FIFO replaced, READY following its count (R3). -/
def Intake.withFifo (k : Intake) (fifo : List Entry) : Intake :=
  { k with fifo := fifo, ready := readyAfter fifo.length k.ready }

/-- An entry offered by reception (R2). -/
def Front.offer (f : Front) (e : Entry) : Front :=
  if f.intake.fifo.length < Config.fifoSize then { f with intake := f.intake.withFifo (f.intake.fifo ++ [e]) }
  else { f with events := postTo f.events .inputOverrun }

/-- The bytes of a format in format memory (R13). -/
def FormatStore.bytes (fs : FormatStore) (n : Nat) : List Byte :=
  match tabGet fs.descriptors none n with
  | some d => (fs.memory.drop d.start).take d.len
  | none => []

/-- The next entry of the parser's current source, and the source after it is taken (R2, R19). -/
def Front.next (f : Front) : Option (Entry × Front) :=
  match f.intake.sources with
  | [] =>
    match f.intake.fifo with
    | [] => none
    | e :: rest => some (e, { f with intake := f.intake.withFifo rest })
  | top :: below =>
    match (f.formats.bytes top.format)[top.offset]? with
    | none => none
    | some b =>
      some (.plain b, { f with intake := { f.intake with sources := ⟨top.format, top.offset + 1⟩ :: below } })

/-! ### The grammar -/

/-- The single-byte control codes (section 1.2). -/
def controlCode (b : Byte) : Option Instr :=
  if b = 0x01 then some .thinSpace
  else if b = 0x02 then some .enSpace
  else if b = 0x03 then some .emSpace
  else if b = 0x04 then some .discretionaryHyphen
  else if b = 0x05 then some .noHyphenate
  else if b = 0x06 then some .noBreakSpace
  else if b = 0x08 then some .killLine
  else if b = 0x0A then some .endPara
  else if b = 0x0D then some .endLine
  else none

/-- The item that a plain byte taken in GROUND is by itself (R5). -/
def singleItem (b : Byte) : Option Instr :=
  if b = 0x20 then some .interwordSpace
  else if 0x21 ≤ b.toNat then some (.textCode b)
  else controlCode b

/-- The parameter bytes a known command expects at first (section 1.3): the announcing part of a DICT ADD, a
DICT DELETE or a LOAD, all of any other. None for an unknown number. -/
def paramCount (num : Byte) : Option Nat :=
  match num.toNat with
  | 0x01 => some 1
  | 0x02 => some 1
  | 0x03 => some 2
  | 0x04 => some 2
  | 0x05 => some 4
  | 0x06 => some 2
  | 0x07 => some 3
  | 0x08 => some 1
  | 0x09 => some 1
  | 0x0A => some 1
  | 0x0B => some 1
  | 0x0C => some 2
  | 0x0D => some 4
  | 0x10 => some 2
  | 0x11 => some 2
  | 0x12 => some 0
  | 0x13 => some 0
  | 0x14 => some 3
  | 0x15 => some 0
  | 0x18 => some 1
  | 0x19 => some 1
  | 0x1A => some 2
  | 0x1B => some 0
  | 0x1D => some 1
  | 0x20 => some 6
  | 0x21 => some 1
  | 0x22 => some 1
  | 0x23 => some 1
  | 0x24 => some 0
  | 0x28 => some 2
  | 0x29 => some 2
  | 0x30 => some 0
  | 0x31 => some 0
  | 0x32 => some 3
  | 0x33 => some 1
  | 0x34 => some 2
  | 0x35 => some 0
  | _ => none

/-- The item that a complete command is (section 11.2): its number and all its parameter bytes, the first two or three
bytes of a wide parameter most significant first. -/
def commandItem (num : Byte) (ps : List Byte) : Option Instr :=
  match num.toNat, ps with
  | 0x01, [f] => some (.font f)
  | 0x02, [h] => some (.size h)
  | 0x03, [a, b] => some (.lead (a ++ b))
  | 0x04, [a, b] => some (.measure (a ++ b))
  | 0x05, [a, b, c, d] => some (.indent (a ++ b) (c ++ d))
  | 0x06, [m, l] => some (.quad m l)
  | 0x07, [a, b, c] => some (.spaceband a b c)
  | 0x08, [t] => some (.track t)
  | 0x09, [n] => some (.letterspace n)
  | 0x0A, [k] => some (.kerning k)
  | 0x0B, [k] => some (.manualKern k)
  | 0x0C, [h, t] => some (.hyphenation h t)
  | 0x0D, [l, r, d, c] => some (.hyphenLimits l r d c)
  | 0x10, [a, b] => some (.advance (a ++ b))
  | 0x11, [a, b] => some (.reverse (a ++ b))
  | 0x12, [] => some .columnMark
  | 0x13, [] => some .cut
  | 0x14, [a, b, c] => some (.cassette (a ++ b ++ c) false)
  | 0x15, [] => some .stopDisc
  | 0x18, [m] => some (.save m)
  | 0x19, [m] => some (.restore m)
  | 0x1A, [n, k] => some (.define n k)
  | 0x1B, [] => some .endDefine
  | 0x1D, [n] => some (.call n)
  | 0x20, t :: a :: b :: c :: d :: dir :: rest => some (.load t (a ++ b) (c ++ d) dir (rest.getLastD 0))
  | 0x21, [t] => some (.lock t)
  | 0x22, _ :: codes => some (.dictAdd codes)
  | 0x23, _ :: codes => some (.dictDelete codes)
  | 0x24, [] => some .dictClear
  | 0x28, [m, p] => some (.proof m p)
  | 0x29, [w, m] => some (.lamp w m)
  | 0x30, [] => some .query
  | 0x31, [] => some .events
  | 0x32, [a, b, c] => some (.mask (a ++ b ++ c))
  | 0x33, [n] => some (.readLog n)
  | 0x34, [a, b] => some (.sync (a ++ b))
  | 0x35, [] => some .clear
  | _, _ => none

/-! ### LOAD lengths (R8) -/

/-- The entry size the parser takes from a table identifier: 1 byte where it names no loadable table (R8, R44). -/
def entrySize (ident : Byte) : Nat := if ident = 0x60 then 3 else if ident = 0x62 then 2 else 1

/-- The entry count after the clamp to the largest whole number of entries in 512 bytes (R8). -/
def clampedCount (ident : Byte) (count : Nat) : Nat := min count (Config.stagingSize / entrySize ident)

/-- The data bytes the parser takes for a LOAD (R8). -/
def loadDataLength (ident : Byte) (count : Nat) : Nat := clampedCount ident count * entrySize ident

/-- What the bytes taken so far announce beyond the first expectation: the codes of a dictionary edit after its length
byte (R7), the data and the sum byte of a LOAD after its header (R8); and whether the LOAD's count was clamped. -/
def announced (num : Byte) (taken : List Byte) : Nat × Bool :=
  if num = 0x22 ∨ num = 0x23 then
    match taken with
    | [n] => (n.toNat, false)
    | _ => (0, false)
  else if num = 0x20 then
    match taken with
    | [t, _, _, c, d, _] =>
      (loadDataLength t (c ++ d).toNat + 1, decide (clampedCount t (c ++ d).toNat < (c ++ d).toNat))
    | _ => (0, false)
  else (0, false)

/-! ### Complete items -/

/-- The commands that are not carried out from inside a format and are discarded with FORMAT ERROR (R20). -/
def barredInFormat : Instr → Bool
  | .load _ _ _ _ _ => true
  | .lock _ => true
  | .dictAdd _ => true
  | .dictDelete _ => true
  | .dictClear => true
  | .clear => true
  | _ => false

/-- What a take comes to. -/
inductive Taken where
  | nothing
  | quiet (f : Front)
  | item (i : Instr) (f : Front)
  deriving DecidableEq, Repr

/-- A complete item stored in the format being recorded (R15), or the end of the definition as a failure (R16). -/
def Front.store (f : Front) (number : Nat) (nestable : Bool) (stored : Nat) (bytes : List Byte) : Front :=
  if f.formats.memory.length + bytes.length ≤ Config.formatMemory then
    { f with
      formats := { f.formats with memory := f.formats.memory ++ bytes }
      intake := { f.intake with mode := .define number nestable (stored + bytes.length) } }
  else
    { f with
      formats := { f.formats with memory := f.formats.memory.take (f.formats.memory.length - stored) }
      intake := { f.intake with mode := .defineDiscard }
      events := postTo f.events .formatError }

/-- An item is complete: the position returns to GROUND and the mode decides what becomes of the item (R4). An
END DEFINE ends the mode in which it arrives, whichever it is (R17). -/
def Front.complete (f : Front) (i : Instr) (bytes : List Byte) : Taken :=
  let f := { f with intake := { f.intake with position := .ground } }
  if i = .endDefine then .item i f
  else
    match f.intake.mode with
    | .execute =>
      if barredInFormat i && !f.intake.sources.isEmpty then .quiet { f with events := postTo f.events .formatError }
      else .item i f
    | .define number nestable stored => .quiet (f.store number nestable stored bytes)
    | .defineDiscard => .quiet f

/-- The position set, nothing else. -/
def Front.at (f : Front) (p : Position) : Front := { f with intake := { f.intake with position := p } }

/-- A code that is discarded with UNKNOWN CODE (R5, R6). -/
def Front.unknown (f : Front) : Taken := .quiet { f.at .ground with events := postTo f.events .unknownCode }

/-- A plain byte taken in GROUND (R5). -/
def Front.takeGround (f : Front) (b : Byte) : Taken :=
  match singleItem b with
  | some i => f.complete i [b]
  | none => if b = 0x1C then .quiet (f.at .number) else f.unknown

/-- A plain byte taken in NUMBER (R6). -/
def Front.takeNumber (f : Front) (b : Byte) : Taken :=
  match paramCount b with
  | none => f.unknown
  | some 0 =>
    match commandItem b [] with
    | some i => f.complete i [0x1C, b]
    | none => f.unknown
  | some (n + 1) => .quiet (f.at (.parameter b [] (n + 1)))

/-- A LOAD's data byte is written into the staging buffer, in EXECUTE at format depth 0 alone (R8, R45). `taken` are
the bytes before it; the last byte to come is the sum byte. -/
def Front.stage (f : Front) (num : Byte) (taken : List Byte) (toCome : Nat) (b : Byte) : Front :=
  if num = 0x20 ∧ 6 ≤ taken.length ∧ 2 ≤ toCome ∧ f.intake.mode = .execute ∧ f.intake.sources = [] then
    { f with staging := tabPut f.staging (taken.length - 6) b }
  else f

/-- A plain byte taken in PARAMETER (R7, R8). A LOAD count that is clamped posts PARAMETER CLAMPED in EXECUTE alone: in
DEFINE the clamp affects only the number of bytes taken (R15), and DEFINE DISCARD drops its items without effect (R4,
log entry 14). -/
def Front.takeParameter (f : Front) (num : Byte) (taken : List Byte) (toCome : Nat) (b : Byte) : Taken :=
  let f := f.stage num taken toCome b
  let taken := taken ++ [b]
  let more := announced num taken
  let toCome := toCome - 1 + more.1
  let f := { f with events := postWhen (more.2 && (f.intake.mode == Mode.execute)) .parameterClamped f.events }
  if toCome = 0 then
    match commandItem num taken with
    | some i => f.complete i (0x1C :: num :: taken)
    | none => .quiet (f.at .ground)
  else .quiet (f.at (.parameter num taken toCome))

/-- A damaged code, dealt with by position and mode (R9). -/
def Front.takeDamaged (f : Front) : Taken :=
  match f.intake.position, f.intake.mode with
  | .ground, .execute => .item .damagedCode f
  | _, _ => .quiet (f.at .ground)

/-- The take of one entry (R4). -/
def Front.take (f : Front) : Taken :=
  match f.next with
  | none => .nothing
  | some (.damaged, f) => f.takeDamaged
  | some (.plain b, f) =>
    match f.intake.position with
    | .ground => f.takeGround b
    | .number => f.takeNumber b
    | .parameter num taken toCome => f.takeParameter num taken toCome b

/-! ### Formats running out -/

/-- The entries at the top of the source stack whose formats have run out are removed; a DEFINE DISCARD mode ends
with the first of them (R19). -/
def popEnded (fs : FormatStore) : Mode → List Source → Mode × List Source
  | mode, [] => (mode, [])
  | mode, top :: below =>
    if (fs.bytes top.format).length ≤ top.offset then
      popEnded fs (if mode = .defineDiscard then .execute else mode) below
    else (mode, top :: below)

/-- The check for a format's end, made when its last item has been taken by its owner (R19). -/
def Front.runOut (f : Front) : Front :=
  match f.intake.position with
  | .ground =>
    let (mode, sources) := popEnded f.formats f.intake.mode f.intake.sources
    { f with intake := { f.intake with mode := mode, sources := sources } }
  | _ => f

/-! ### The parser in the whole part -/

/-- What the parser's next take comes to in the whole part: nothing while an owner holds an item (R10). -/
inductive Offer where
  | nothing
  | quiet (s : State)
  | item (i : Instr) (s : State)
  deriving DecidableEq, Repr

def State.offer (s : State) : Offer :=
  if s.holding then .nothing
  else
    match s.front.take with
    | .nothing => .nothing
    | .quiet f => .quiet (s.withFront f)
    | .item i f => .item i (s.withFront f)

/-- After an item: a format whose last item has been taken ends, unless an owner holds the item (R19). -/
def State.runOut (s : State) : State := if s.holding then s else s.withFront s.front.runOut

/-- The delivery of item `i` (R10): when the parser's next take completes exactly this item, the entry is taken, the
owner acts, and a format that has run out ends. When the parser holds no such item, the step does not take place
(log entry 1). -/
def deliver (i : Instr) (owner : State → State) (s : State) : StepResult :=
  match s.offer with
  | .item j t => if j = i then .next (owner t).runOut else .next s
  | _ => .next s

end Sys2Proof.Machine
end

