-- ==== Sys2Proof/Machine/ReplyOps.lean ====
section
/-! DEFINITION. The Line Log (R177 to R179), the SYNC markers (R184), the reply queue and the return link (R185, R186),
the items of the Reply Unit (R179, R182 to R184) and what it holds (R10), and the bytes of a reply record (R187,
R188). -/

namespace Sys2Proof.Machine

/-! ### The Line Log -/

/-- A record written at the write position; the flag says that it has replaced the oldest unread record (R178). -/
def Log.append (l : Log) (r : LogRecord) : Log × Bool :=
  if l.unread < Config.logSize then
    ({ l with
        ring := tabPut l.ring l.write (some r)
        write := (l.write + 1) % Config.logSize
        unread := l.unread + 1 }, false)
  else
    ({ l with
        ring := tabPut l.ring l.write (some r)
        write := (l.write + 1) % Config.logSize
        read := (l.read + 1) % Config.logSize }, true)

/-- The `k` oldest unread records, oldest first (R179). -/
def Log.oldest (l : Log) (k : Nat) : List LogRecord :=
  (List.range k).filterMap fun i => tabGet l.ring none ((l.read + i) % Config.logSize)

/-- How many records a READ LOG takes (R179). -/
def Log.readable (l : Log) (n : Nat) : Nat := min n l.unread

/-- The read position moved on past `k` records (R179). -/
def Log.advance (l : Log) (k : Nat) : Log :=
  { l with read := (l.read + k) % Config.logSize, unread := l.unread - k }

/-! ### Bytes of a reply record (R187, R188) -/

/-- A field of two bytes, most significant first. -/
def bytes2 (n : Nat) : List Byte := [BitVec.ofNat 8 (n / 256), BitVec.ofNat 8 n]

/-- A field of three bytes, most significant first. -/
def bytes3 (n : Nat) : List Byte := [BitVec.ofNat 8 (n / 65536), BitVec.ofNat 8 (n / 256), BitVec.ofNat 8 n]

/-- A field of one byte. -/
def bytes1 (n : Nat) : List Byte := [BitVec.ofNat 8 n]

def Kind.code : Kind → Nat
  | .text => 0
  | .cut => 1
  | .stop => 2

def LineOutcome.code : LineOutcome → Nat
  | .set => 0
  | .fault => 1
  | .discarded => 2

def PhaseView.code : PhaseView → Nat
  | .idle => 0
  | .opened => 1
  | .overflowed => 2
  | .waitSlot => 3

def SlotView.code : SlotView → Nat
  | .free => 0
  | .filling => 1
  | .ready => 2
  | .readyDiscard => 3
  | .imaging => 4
  | .set => 5
  | .setAwaiting => 6

def ImagerState.code : ImagerState → Nat
  | .homing => 0
  | .standby => 1
  | .spinUp => 2
  | .idle => 3
  | .setting => 4
  | .mountWait => 5
  | .suspended => 6
  | .halted => 7

def Reason.code : Reason → Nat
  | .none => 0
  | .unknownTable => 1
  | .outOfRange => 2
  | .badSum => 3
  | .locked => 4
  | .lineOpen => 5

/-- The 14-byte log record. -/
def LogRecord.bytes (r : LogRecord) : List Byte :=
  bytes2 r.number ++ bytes1 r.kind.code ++ bytes1 r.outcome.code ++ bytes2 r.flags.bits ++ bytes3 r.tag ++
    bytes1 r.exposed ++ bytes1 r.dropped ++ bytes1 r.retries ++ bytes2 r.deferrals

/-- The 38-byte STATUS body. -/
def Snapshot.bytes (s : Snapshot) : List Byte :=
  bytes1 s.phase.code ++ bytes2 s.openNumber ++ s.slots.flatMap (fun v => bytes1 v.code) ++ bytes1 s.imager.code ++
    bytes1 s.mounted ++ bytes1 (s.turret.getD 0xFF) ++ bytes3 s.f ++ bytes3 s.h ++ bytes3 s.floor ++ bytes3 s.l ++
    bytes1 s.offline.toNat ++ bytes1 s.proofCount ++ bytes2 s.gap ++ bytes1 s.unread ++ bytes3 s.pending.toNat ++
    bytes1 s.errors ++ bytes1 s.depth ++ bytes1 s.stack ++ bytes1 s.reason.code

/-- The type byte of a reply record. -/
def Reply.typeByte : Reply → Byte
  | .status _ => 0x01
  | .events _ => 0x02
  | .log _ => 0x03
  | .sync _ _ => 0x04
  | .mount _ _ => 0x05

/-- The body of a reply record. -/
def Reply.body : Reply → List Byte
  | .status s => s.bytes
  | .events set => bytes3 set.toNat
  | .log records => bytes1 records.length ++ records.flatMap LogRecord.bytes
  | .sync token line =>
    bytes2 token.toNat ++ bytes1 line.isSome.toNat ++ bytes2 (line.getD 0)
  | .mount disc line => bytes1 disc ++ bytes2 line

/-- A reply record as it is sent: type byte, length byte, body. -/
def Reply.bytes (r : Reply) : List Byte := r.typeByte :: BitVec.ofNat 8 r.body.length :: r.body

/-- The bits of a reply record on the return link: its bytes in their frames, with nothing between them (R188). -/
def Reply.bits (r : Reply) : List LinkBit := r.bytes.flatMap frameOf

/-! ### The reply queue -/

/-- The bytes of the head record; none with an empty queue. -/
def ReplyUnit.head (r : ReplyUnit) : List Byte := (r.queue.head?.map Reply.bytes).getD []

/-- The bytes of the head record that the return link has still to begin (R186). -/
def ReplyUnit.unsent (r : ReplyUnit) : List Byte := r.head.drop r.begun

/-- The return link begins a waiting head record while CLEAR-TO-SEND is asserted (R186). -/
def ReplyUnit.link (r : ReplyUnit) (cts : Bool) : ReplyUnit :=
  if cts ∧ r.begun = 0 ∧ r.queue ≠ [] then { r with begun := 1 } else r

/-- Whether the reply queue has room (R185). -/
def ReplyUnit.room (r : ReplyUnit) : Bool := decide (r.queue.length < Config.replyQueue)

/-- A reply record appended (R185). -/
def ReplyUnit.append (r : ReplyUnit) (cts : Bool) (x : Reply) : ReplyUnit :=
  { r with queue := r.queue ++ [x] }.link cts

/-- The Imager's request for a MOUNT reply, dropped when the queue is full (R133, R185). -/
def ReplyUnit.mount (r : ReplyUnit) (cts : Bool) (disc line : Nat) : ReplyUnit :=
  if r.room then r.append cts (.mount disc line) else r

/-! ### SYNC markers (R184) -/

/-- Whether the answer of the first marker is due. -/
def ReplyUnit.answerDue (r : ReplyUnit) : Bool :=
  match r.markers with
  | m :: _ => m.remaining == 0
  | [] => false

/-- The first marker answered, where its answer is due and the queue has room. -/
def ReplyUnit.answerOne (r : ReplyUnit) (cts : Bool) : ReplyUnit :=
  match r.markers with
  | m :: rest =>
    if m.remaining = 0 ∧ r.queue.length < Config.replyQueue then
      { r with markers := rest }.append cts (.sync m.token m.line)
    else r
  | [] => r

/-- Markers answered in the order taken, as long as answers are due and there is room. -/
def ReplyUnit.answer (r : ReplyUnit) (cts : Bool) : Nat → ReplyUnit
  | 0 => r
  | n + 1 => (r.answerOne cts).answer cts n

/-- Every due answer that has room, given. -/
def ReplyUnit.answerAll (r : ReplyUnit) (cts : Bool) : ReplyUnit := r.answer cts r.markers.length

/-- The count down of a log write. -/
def ReplyUnit.countDown (r : ReplyUnit) : ReplyUnit :=
  { r with markers := r.markers.map fun m => { m with remaining := m.remaining - 1 } }

/-- A marker made (R184). -/
def ReplyUnit.mark (r : ReplyUnit) (cts : Bool) (token : Word16) (line : Option Nat) (remaining : Nat) : ReplyUnit :=
  ReplyUnit.answerAll { r with markers := r.markers ++ [⟨token, line, remaining⟩] } cts

/-! ### The snapshot (R122, R183) -/

def Phase.view : Phase → PhaseView
  | .idle => .idle
  | .opened _ => .opened
  | .overflowed _ => .overflowed
  | .waitSlot _ => .waitSlot

def Phase.openSlot : Phase → Option Nat
  | .idle => none
  | .opened line => some line.slot
  | .overflowed line => some line.slot
  | .waitSlot _ => none

def LineSlot.view (x : LineSlot) : SlotView :=
  match x.state with
  | .free => .free
  | .filling => .filling
  | .ready => if x.record.discard then .readyDiscard else .ready
  | .imaging => .imaging
  | .setUndecided => .set
  | .setAwaiting => .setAwaiting

def Printer.isOffline : Printer → Bool
  | .online => false
  | .offline _ => true

/-- The snapshot a QUERY takes. -/
def State.snapshot (s : State) : Snapshot where
  phase := s.composer.phase.view
  openNumber :=
    match s.composer.phase.openSlot with
    | some i => (s.store.record i).number
    | none => 0
  slots := s.store.slots.toList.map LineSlot.view
  imager := s.imager.state
  mounted := s.imager.mounted
  turret := s.imager.turret
  f := s.film.f
  h := s.film.h
  floor := s.film.floor
  l := s.film.l
  offline := s.proof.printer.isOffline
  proofCount := s.proof.queue.length
  gap := s.proof.gap
  unread := s.log.unread
  pending := s.reply.pending
  errors := s.intake.errors
  depth := s.intake.sources.length
  stack := s.composer.stack.length
  reason := s.tables.reason

/-! ### The items of the Reply Unit -/

/-- QUERY taken (R183). -/
def State.takeQuery (s : State) : State := s.withReply (s.reply.append s.pins.cts (.status s.snapshot))

/-- EVENTS taken (R182). -/
def State.takeEvents (s : State) : State :=
  s.withReply { s.reply.append s.pins.cts (.events s.reply.pending) with pending := 0 }

/-- READ LOG taken with a count already clamped (R179). -/
def State.takeReadLog (s : State) (n : Nat) : State :=
  (s.withReply (s.reply.append s.pins.cts (.log (s.log.oldest (s.log.readable n))))).withLog
    (s.log.advance (s.log.readable n))

/-- SYNC taken (R184). -/
def State.takeSync (s : State) (token : Word16) : State :=
  s.withReply (s.reply.mark s.pins.cts token s.store.lastClosed s.store.busyCount)

def State.takeReplyItem (s : State) : HeldReply → State
  | .query => s.takeQuery
  | .events => s.takeEvents
  | .readLog n => s.takeReadLog n
  | .sync token => s.takeSync token

/-- Whether the Reply Unit can take an item now (R184, R185). -/
def ReplyUnit.canTake (r : ReplyUnit) : HeldReply → Bool
  | .query => r.room
  | .events => r.room
  | .readLog _ => r.room
  | .sync _ => decide (r.markers.length < Config.syncMarkers)

/-- An item delivered to the Reply Unit: taken, or held (R10). -/
def State.replyItem (s : State) (h : HeldReply) : State :=
  if s.reply.canTake h then s.takeReplyItem h else s.withReply { s.reply with held := some h }

/-- The held item looked at again: taken once it can be, and the Intake goes on (R10). -/
def State.retryHeld (s : State) : State :=
  match s.reply.held with
  | none => s
  | some h =>
    if s.reply.canTake h then ((s.withReply { s.reply with held := none }).takeReplyItem h).runOut else s

/-- The same, for a held SYNC alone: what an imaging end may free is a marker's place (R184). -/
def State.retrySync (s : State) : State :=
  match s.reply.held with
  | some (.sync _) => s.retryHeld
  | _ => s

/-- A step of the photo unit's side in the whole part, with BUSY at a level; a SYNC held for a marker's place looks again after it. -/
def State.onPhoto (s : State) (busy : Bool) (f : Photo → Photo) : State := (s.withPhoto (f (s.photo busy))).retrySync

/-! ### The return link (R186) -/

/-- The head record has been sent: it leaves the queue and the next is begun. -/
def ReplyUnit.sent (r : ReplyUnit) (cts : Bool) : ReplyUnit :=
  { r with queue := r.queue.tail, begun := 0 }.link cts

/-- Whether the last byte of the head record can come to its end: the record has been begun, and either bytes are being
begun or the last one was begun before CLEAR-TO-SEND fell (R186). -/
def ReplyUnit.ending (r : ReplyUnit) (cts : Bool) : Bool :=
  !r.queue.isEmpty && r.begun != 0 && (cts || r.unsent.isEmpty)

/-- REPLY_RECORD_SENT (R185, R186; log entry 24). -/
def State.recordSent (s : State) (heldFirst : Bool) : State :=
  if s.reply.ending s.pins.cts then
    let s := s.withReply (s.reply.sent s.pins.cts)
    if heldFirst || !s.reply.answerDue then s.retryHeld else s
  else s

/-- SYNC_ANSWER: the answer that waited is appended, its marker removed, and a held item looks again (R184, R10). -/
def State.answerWaiting (s : State) : State :=
  if s.reply.answerDue && s.reply.room then (s.withReply (s.reply.answerOne s.pins.cts)).retryHeld else s

/-- CLEAR-TO-SEND falls when `bytes` bytes of the head record have been begun: the byte being sent is completed, and no
further byte is begun (R186). -/
def ReplyUnit.halt (r : ReplyUnit) (bytes : Nat) : ReplyUnit :=
  { r with begun := max r.begun (min bytes r.head.length) }

/-- CLEAR-TO-SEND rises with `bytes` bytes of the head record begun, the one that the rise lets begin among them: a
waiting record is begun, and a record in progress goes on from its next byte, at once where the byte before has been
completed, and with no byte begun yet where that byte is still being sent (R186). One byte at most is begun. -/
def ReplyUnit.goOn (r : ReplyUnit) (bytes : Nat) : ReplyUnit :=
  { r with begun :=
      if r.begun = 0 then min 1 r.head.length else max r.begun (min bytes (min (r.begun + 1) r.head.length)) }

/-- CLEAR_TO_SEND changes (R186); an event that brings no change does nothing (log entry 33). -/
def State.setClearToSend (s : State) (level : Bool) (bytes : Nat) : State :=
  if s.pins.cts = level then s
  else (s.withPins { s.pins with cts := level }).withReply (if level then s.reply.goOn bytes else s.reply.halt bytes)

end Sys2Proof.Machine
end

