-- ==== Sys2Proof/Machine/ImagerOps.lean ====
section
/-! DEFINITION. The Imager (chapter 7): the imaging end (R117, R131), halting (R148), homing (R126, R149), the motions
and the phases of a line (R131 to R137, R143, R144), the reports of Film Transport, taking a line (R130), the disc's
sector and index events (R127, R128, R134, R138 to R142, R147), the flash confirm (R140) and the cover (R146, R147). -/

namespace Sys2Proof.Machine

/-! ### Small writers -/

def Photo.withImager (p : Photo) (x : Imager) : Photo := { p with imager := x }

def Photo.withReply (p : Photo) (x : ReplyUnit) : Photo := { p with reply := x }

def Photo.enter (p : Photo) (st : ImagerState) : Photo := p.withImager { p.imager with state := st }

def Photo.withLine (p : Photo) (x : Progress) : Photo := p.withImager { p.imager with line := some x }

/-- The flags of the record being imaged changed (R131). -/
def Photo.flagLine (p : Photo) (f : LineFlags → LineFlags) : Photo :=
  match p.imager.line with
  | none => p
  | some pr =>
    let r := p.store.record pr.slot
    p.withStore (p.store.putRecord pr.slot { r with flags := f r.flags })

/-- The glyph entries of a record. -/
def LineRecord.glyphs (r : LineRecord) : List Glyph := glyphsOf r.items

/-- The current glyph of a line in progress, when one is left. -/
def Photo.currentGlyph (p : Photo) (pr : Progress) : Option Glyph := (p.store.record pr.slot).glyphs[pr.glyph]?

/-! ### The imaging end (R117, R178, R184, R120) -/

/-- The log record of a line at its imaging end (R178). -/
def logRecord (r : LineRecord) (outcome : LineOutcome) (tag : Nat) (pr : Progress) : LogRecord where
  number := r.number
  kind := r.kind
  outcome := outcome
  flags := r.flags
  tag := tag
  exposed := pr.exposed
  dropped := pr.dropped
  retries := pr.retries
  deferrals := pr.deferrals

/-- A log write, and the count down and answers of the SYNC markers with it (R178, R184). -/
def Photo.writeLog (p : Photo) (x : LogRecord) : Photo :=
  let written := p.log.append x
  let p : Photo := { p with log := written.1 }
  let p := if written.2 then p.post .logOverrun else p
  p.withReply (p.reply.countDown.answerAll p.pins.cts)

/-- The line being imaged ends with an outcome and a film tag: its slot is SET, its log record written, and the Proof
Spooler decides on it (R117). -/
def Photo.imagingEnd (p : Photo) (outcome : LineOutcome) (tag : Nat) : Photo :=
  match p.imager.line with
  | none => p
  | some pr =>
    let r : LineRecord := { p.store.record pr.slot with outcome := some outcome, tag := tag }
    let p := p.withStore (p.store.putSlot pr.slot ⟨.setUndecided, r⟩)
    let p := p.withImager { p.imager with line := none }
    (p.writeLog (logRecord r outcome tag pr)).decideProof pr.slot

/-! ### Stopping (R129, R148) -/

/-- The disc stops (R129). -/
def Imager.stopDisc (x : Imager) : Imager :=
  { x with disc := .stopped, history := [], stamp := 0, recheck := false, sectors := none }

/-- Whether a timer of the photo unit runs (R126 to R128, R136, R137, R147). -/
def Imager.runs (x : Imager) : ImagerTimer → Bool
  | .turret => x.turretStep.isSome
  | .carriage => x.carriageMove.isSome
  | .spinUp => x.disc == .starting
  | .sectorGap => x.disc == .running
  | .recheck => x.recheck

/-- The timers that run. -/
def Imager.running (x : Imager) : List ImagerTimer :=
  [.turret, .carriage, .spinUp, .sectorGap, .recheck].filter x.runs

/-- The Imager as a fault leaves it (R148): no timer runs, nothing is commanded, the positions are unknown; an open
cover counts as opened in HALTED (R149). -/
def Imager.halted (x : Imager) (coverOpen : Bool) : Imager :=
  { x.stopDisc with
    state := .halted
    returnState := none
    coverNote := coverOpen
    confirmWindow := false
    carriageMove := none
    turretStep := none
    ringSettling := false
    turret := none
    carriage := none
    cancelled := x.running }

/-- The IMAGING line abandoned with the outcome FAULT; Film Transport is told (R148, R160). -/
def Photo.abandonLine (p : Photo) : Photo :=
  if p.imager.line.isSome then
    Photo.imagingEnd { p with film := p.film.abandon } .fault p.imager.filmTag
  else p

/-- A fault reported to the Imager: it halts, unless it is HALTED already (R148). -/
def Photo.haltNow (p : Photo) : Photo :=
  if p.imager.state = .halted then p
  else
    let p := p.abandonLine
    p.withImager (p.imager.halted p.pins.coverOpen)

/-- A fault that arises in the Imager: its event is posted and the Imager halts (R148). -/
def Photo.halt (p : Photo) (e : Event) : Photo := (p.post e).haltNow

/-- A timer has expired, and its expiry is done with. -/
def Photo.spend (p : Photo) (timer : ImagerTimer) : Photo :=
  p.withImager { p.imager with cancelled := p.imager.cancelled.filter (· != timer) }

/-- A timer expires with its fault. With the timer running the Imager halts; with the timer cancelled by a fault that
arose together with the expiry, the event is posted and nothing else changes (R148, log entry 36). -/
def Photo.expire (p : Photo) (timer : ImagerTimer) (e : Event) : Photo :=
  if p.imager.runs timer then (p.halt e).spend timer
  else if p.imager.state = .halted ∧ timer ∈ p.imager.cancelled then (p.post e).spend timer
  else p

/-! ### Motions (R126, R135 to R137) -/

/-- The carriage driven to a target, unless it stands there or a move is in flight (R137). A move in flight runs on under
its own 300 ms, and none is commanded beside it: for a HOMING begun again with the carriage move of the earlier HOMING
still in flight this is log entry 18 (DESIGN CHOICE). -/
def Imager.driveCarriage (x : Imager) (target : Nat) : Imager :=
  if x.carriageMove.isSome ∨ x.carriage = some target then x else { x with carriageMove := some target }

/-- Whether the carriage stands at a target. -/
def Imager.carriageAt (x : Imager) (target : Nat) : Bool := x.carriageMove.isNone && x.carriage == some target

/-- The next turret step towards a lens position, by the shorter way round; none when it stands there (R136). -/
def turretWay (position lens : Nat) : Option Direction :=
  let d := (lens + 12 - position) % 12
  if d = 0 then none else if d ≤ 6 then some .ascending else some .descending

/-- A turret position one step on (R136). -/
def turretNext (position : Nat) : Direction → Nat
  | .ascending => (position + 1) % 12
  | .descending => (position + 11) % 12

/-- The turret stepped towards a lens position, unless a step is in flight (R136). -/
def Imager.driveTurret (x : Imager) (lens : Nat) : Imager :=
  match x.turretStep, x.turret with
  | none, some position => { x with turretStep := turretWay position lens }
  | _, _ => x

/-- The ring selected for a glyph, the ring-settle timer started at a change (R135). -/
def Imager.selectRing (x : Imager) (ring : Nat) : Imager :=
  if x.ring = ring then x else { x with ring := ring, ringSettling := true }

/-- The motions of a glyph's positioning, begun or gone on with (R135 to R137). -/
def Imager.position (x : Imager) (g : Glyph) : Imager :=
  ((x.selectRing g.ring).driveTurret g.lens).driveCarriage g.x

/-- Whether a glyph is in place (R137). -/
def Imager.inPlace (x : Imager) (g : Glyph) : Bool :=
  x.ring == g.ring && !x.ringSettling && x.turretStep.isNone && x.turret == some g.lens && x.carriageAt g.x

/-! ### Homing (R126, R149, R161) -/

/-- HOMING ends in STANDBY once the carriage has arrived at 0 and the turret stands at its detent (R126). -/
def Imager.homed (x : Imager) : Imager :=
  if x.state = .homing ∧ x.carriageAt 0 = true ∧ x.turretStep = none ∧ x.turret = some 0 then
    { x with state := .standby }
  else x

/-- HOMING begins. A carriage move or a turret step of an earlier HOMING that is still in flight runs on, no second one is
commanded beside it, and the step counts as the first step, whatever the detent (log entry 18, DESIGN CHOICE). -/
def Photo.beginHoming (p : Photo) (detent : Bool) : Photo :=
  let x : Imager :=
    { p.imager.stopDisc with state := .homing, returnState := none, coverNote := false, cancelled := [] }
  let x := x.driveCarriage 0
  let x : Imager :=
    if x.turretStep.isSome then { x with turret := none, homingSteps := 1 }
    else if detent then { x with turret := some 0, homingSteps := 0 }
    else { x with turret := none, turretStep := some .ascending, homingSteps := 1 }
  { p with imager := x.homed, film := p.film.homing }

/-! ### Film Transport's results -/

/-- An operation of Film Transport carried out, its report apart: state, events, and the REVERSE CLAMPED flag. -/
def Photo.applyFilm (p : Photo) (y : FilmResult) : Photo :=
  let p := y.posts.foldl Photo.post { p with film := y.film }
  if y.clamped then p.flagLine fun f => { f with reverseClamped := true } else p

/-! ### Ending a line (R143, R144) -/

/-- The line is completed with the outcome SET; the Imager is IDLE, or STANDBY with the disc STOPPED (R143). -/
def Photo.completeLine (p : Photo) : Photo :=
  let p := p.imagingEnd .set p.imager.filmTag
  p.enter (if p.imager.disc = .stopped then .standby else .idle)

/-- The return phase: the carriage goes to 0, and the line is completed once it stands there. A line with no glyph
entries has no return phase and is completed at once (R143). -/
def Photo.goHome (p : Photo) (pr : Progress) : Photo :=
  if (p.store.record pr.slot).glyphs.isEmpty || p.imager.carriageAt 0 then p.completeLine
  else p.withImager (p.imager.driveCarriage 0)

/-- The cut phase: the carriage goes to 0, the cut is asked for, and the record is completed at its end (R144). -/
def Photo.pursueCut (p : Photo) (pr : Progress) : Photo :=
  if pr.cutDone then p.completeLine
  else if pr.cutAsked then p
  else if p.imager.carriageAt 0 then
    let y := p.film.ask .cut
    let p := (p.withLine { pr with cutAsked := true }).applyFilm y
    if y.report = some .filmFault then p.haltNow else p
  else p.withImager (p.imager.driveCarriage 0)

/-! ### Glyphs (R133, R139 to R143) -/

/-- The Imager waits for the disc of a glyph (R133). -/
def Photo.waitMount (p : Photo) (pr : Progress) (disc : Nat) : Photo :=
  let p := (p.enter .mountWait).withLine { pr with positioning := false }
  let p := p.post .mountRequest
  p.withReply (p.reply.mount p.pins.cts disc (p.store.record pr.slot).number)

/-- The disc check at the start of a glyph, or at a resume, and its positioning (R133, R147). -/
def Photo.startGlyph (p : Photo) (pr : Progress) : Photo :=
  match p.currentGlyph pr with
  | none => p
  | some g =>
    if g.disc = p.imager.mounted then
      (p.withImager (p.imager.position g)).withLine { pr with positioning := true }
    else p.waitMount pr g.disc

/-- The line goes on, or resumes, in the phase where it stands (R131, R147). -/
def Photo.pursue (p : Photo) : Photo :=
  match p.imager.line with
  | none => p
  | some pr =>
    match pr.phase with
    | .film => p.startGlyph pr
    | .glyph => p.startGlyph pr
    | .back => p.goHome pr
    | .cut => p.pursueCut pr

/-- The line goes on from an event while it is SETTING; in any other state the event is only recorded (R146). -/
def Photo.pursueSetting (p : Photo) : Photo := if p.imager.state = .setting then p.pursue else p

/-- The glyph after one that was exposed or dropped; the return phase after the last (R140, R141, R143). -/
def Photo.nextGlyph (p : Photo) (pr : Progress) : Photo :=
  let next : Progress := { pr with glyph := pr.glyph + 1, misfires := 0, positioning := false }
  let next : Progress := if (p.currentGlyph next).isSome then next else { next with phase := .back }
  (p.withLine next).pursueSetting

/-! ### Reports of Film Transport (R132, R144, R148) -/

/-- The phase a line enters when its film move is complete (R131, R132, R143, R144). -/
def LineRecord.phaseAfterFilm (r : LineRecord) : LinePhase :=
  if r.kind = .cut then .cut else if r.glyphs.isEmpty then .back else .glyph

/-- The film move is complete: the tag is kept and the film phase ends (R132). A line in its glyphs goes on as it
stands. -/
def Photo.filmDone (p : Photo) (tag : Nat) : Photo :=
  let p := p.withImager { p.imager with filmTag := tag }
  match p.imager.line with
  | none => p
  | some pr =>
    let phase := (p.store.record pr.slot).phaseAfterFilm
    let p := p.withLine { pr with phase := phase }
    if phase = .glyph then p else p.pursueSetting

/-- The cut is done (R144). -/
def Photo.cutEnds (p : Photo) : Photo :=
  match p.imager.line with
  | none => p
  | some pr => (p.withLine { pr with cutDone := true }).pursueSetting

/-- A report taken by the Imager. -/
def Photo.takeReport (p : Photo) : Report → Photo
  | .moveDone tag => p.filmDone tag
  | .cutDone => p.cutEnds
  | .filmFault => p.haltNow

/-- An operation of Film Transport with its report taken by the Imager. -/
def Photo.runFilm (p : Photo) (y : FilmResult) : Photo :=
  match y.report with
  | none => p.applyFilm y
  | some r => (p.applyFilm y).takeReport r

/-! ### Taking a line (R130) -/

/-- The progress of a line just taken (R130). -/
def Progress.fresh (slot : Nat) : Progress := ⟨slot, .film, 0, false, 0, 0, 0, 0, 0, false, false⟩

/-- Whether the Imager can take a line: STANDBY or IDLE, with no slot IMAGING (R116, R130). -/
def Photo.canTakeLine (p : Photo) : Bool :=
  (p.imager.state == .standby || p.imager.state == .idle) && p.store.imaging.isNone

/-- The disc started (R127). -/
def Imager.startDisc (x : Imager) : Imager := { x with disc := .starting, sectors := none }

/-- A record resolved or completed at once, with the film position as its tag (R119, R145, R162). -/
def Photo.endAtOnce (p : Photo) (outcome : LineOutcome) : Photo :=
  Photo.imagingEnd (p.withImager { p.imager with filmTag := p.film.f }) outcome p.film.f

/-- A TEXT line with glyph entries taken: the disc is started where it is STOPPED, the film move asked for, and with
the disc running the first glyph begun (R130, R132). -/
def Photo.takeText (p : Photo) (r : LineRecord) : Photo :=
  let ask := p.film.ask (.move r.filmMove r.columnMark)
  if p.imager.disc = .stopped then
    Photo.runFilm (p.withImager { p.imager.startDisc with state := .spinUp }) ask
  else (Photo.runFilm (p.enter .setting) ask).pursueSetting

/-- A record that needs no disc taken: its film move is asked for (R130, R132). -/
def Photo.takeBare (p : Photo) (r : LineRecord) : Photo :=
  Photo.runFilm (p.enter .setting) (p.film.ask (.move r.filmMove r.columnMark))

/-- A STOP record completed (R145). -/
def Photo.takeStop (p : Photo) : Photo :=
  ((p.withImager p.imager.stopDisc).endAtOnce .set).enter .standby

/-- The head of the ready list taken, slot `i` (R116, R130). -/
def Photo.takeSlot (p : Photo) (i : Nat) : Photo :=
  let r := p.store.record i
  let p := p.withStore { p.store.mark i .imaging with ready := p.store.ready.tail }
  let p := p.withLine (.fresh i)
  if r.discard then p.endAtOnce .discarded
  else
    match r.kind with
    | .stop => p.takeStop
    | .cut => p.takeBare r
    | .text => if r.glyphs.isEmpty then p.takeBare r else p.takeText r

def Photo.takeLine (p : Photo) : Photo :=
  match p.store.ready with
  | [] => p
  | i :: _ => if p.canTakeLine then p.takeSlot i else p

/-! ### Completed motions (R126, R136, R137) -/

def Photo.carriageArrives (p : Photo) : Photo :=
  match p.imager.carriageMove with
  | none => p
  | some target =>
    let p := p.withImager { p.imager with carriage := some target, carriageMove := none }
    if p.imager.state = .homing then p.withImager p.imager.homed
    else
      match p.imager.line with
      | none => p
      | some pr =>
        if p.imager.state = .setting ∧ (pr.positioning = true ∨ pr.phase = .back ∨ pr.phase = .cut) then p.pursue
        else p

def Photo.carriageExpires (p : Photo) : Photo := p.expire .carriage .carriageFault

/-- Whether the Imager is in a HOMING, suspended or not. -/
def Imager.isHoming (x : Imager) : Bool :=
  x.state == .homing || (x.state == .suspended && x.returnState == some .homing)

/-- A turret step of HOMING completes (R126). -/
def Photo.homingStep (p : Photo) (detent : Bool) : Photo :=
  let x : Imager := { p.imager with turretStep := none }
  if detent then p.withImager { x with turret := some 0 }.homed
  else if Config.homingSteps ≤ x.homingSteps then (p.withImager x).halt .turretFault
  else if x.state = .homing then
    p.withImager { x with turretStep := some .ascending, homingSteps := x.homingSteps + 1 }
  else p.withImager x

/-- A turret step of a glyph's positioning completes from a position (R136). -/
def Photo.glyphStep (p : Photo) (position : Nat) (way : Direction) (detent : Bool) : Photo :=
  let next := turretNext position way
  let p := p.withImager { p.imager with turretStep := none, turret := some next }
  if detent ≠ decide (next = 0) then p.halt .turretFault
  else
    match p.imager.line with
    | none => p
    | some pr => if p.imager.state = .setting ∧ pr.positioning = true then p.pursue else p

def Photo.turretSteps (p : Photo) (detent : Bool) : Photo :=
  match p.imager.turretStep with
  | none => p
  | some way =>
    if p.imager.isHoming then p.homingStep detent
    else
      match p.imager.turret with
      | some position => p.glyphStep position way detent
      | none => p.withImager { p.imager with turretStep := none }

def Photo.turretExpires (p : Photo) : Photo := p.expire .turret .turretFault

def Photo.ringSettles (p : Photo) : Photo := p.withImager { p.imager with ringSettling := false }

/-! ### Sector events (R127, R128, R138 to R142) -/

/-- How many sector events lie between two stamps of the 32-bit count (R128). -/
def stampGap (now s : Nat) : Nat := (now + 4294967296 - s) % 4294967296

/-- The stamp count raised, old history entries removed, and the count of sector events since the index (R127,
R128); pending lamp values come into force (R139). -/
def Imager.sector (x : Imager) : Imager :=
  let now := (x.stamp + 1) % 4294967296
  { x with
    stamp := now
    history := x.history.filter fun s => decide (stampGap now s < Config.historyAge)
    sectors := x.sectors.map (· + 1)
    window := (x.pendingLamp.map (·.1)).getD x.window
    most := (x.pendingLamp.map (·.2)).getD x.most
    pendingLamp := none }

/-- The firings that the budget counts at the event with this stamp (R138). -/
def Imager.recent (x : Imager) : Nat := x.history.countP fun s => decide (stampGap x.stamp s < x.window)

/-- The history with a firing more, the oldest leaving when 8 are held (R138). -/
def joinHistory (history : List Nat) (s : Nat) : List Nat :=
  (if Config.historySize ≤ history.length then history.tail else history) ++ [s]

/-- A glyph given up at its second misfire; the third of a line raises LAMP FAULT (R141, R142). -/
def Photo.dropGlyph (p : Photo) (pr : Progress) : Photo :=
  let pr : Progress := { pr with dropped := pr.dropped + 1 }
  let p := ((p.post .glyphDropped).withLine pr).flagLine fun f => { f with dropped := true }
  if Config.dropLimit ≤ pr.dropped then p.halt .lampFault else p.nextGlyph pr

/-- A confirm window still open at the next sector event: a misfire (R140, R141). -/
def Photo.closeWindow (p : Photo) : Photo :=
  if p.imager.confirmWindow then
    let p := p.withImager { p.imager with confirmWindow := false }
    match p.imager.line with
    | none => p
    | some pr => if pr.misfires = 0 then p.withLine { pr with misfires := 1 } else p.dropGlyph pr
  else p

/-- Whether the current glyph is due at a sector: the film move complete, the glyph in place, the disc RUNNING (R138). -/
def Photo.glyphDue (p : Photo) (pr : Progress) (g : Glyph) (n : Nat) : Bool :=
  p.imager.state == .setting && p.imager.disc == .running && pr.phase == .glyph && pr.positioning &&
    p.imager.inPlace g && g.position == n

/-- The lamp fires, or the firing is refused by the budget (R138, R141). -/
def Photo.flash (p : Photo) (pr : Progress) : Photo :=
  if p.imager.recent < p.imager.most then
    (p.withImager { p.imager with
      history := joinHistory p.imager.history p.imager.stamp
      confirmWindow := true }).withLine
      { pr with retries := if pr.misfires = 0 then pr.retries else pr.retries + 1 }
  else p.withLine { pr with deferrals := saturate 65535 pr.deferrals }

/-- The current glyph at a sector event (R138). -/
def Photo.flashIfDue (p : Photo) (n : Nat) : Photo :=
  match p.imager.line with
  | none => p
  | some pr =>
    match p.currentGlyph pr with
    | none => p
    | some g => if p.glyphDue pr g n then p.flash pr else p

/-- A sector event with its number; disregarded with the disc STOPPED (R128). -/
def Photo.sectorEvent (p : Photo) (n : Nat) : Photo :=
  if p.imager.disc = .stopped then p
  else ((p.withImager p.imager.sector).closeWindow).flashIfDue n

/-! ### Index events (R127, R128, R134, R147) -/

/-- The Imager leaves SPIN-UP, or resumes a line (R127, R147). -/
def Photo.resumeLine (p : Photo) : Photo :=
  (p.withImager { p.imager with state := .setting, returnState := none }).pursue

/-- The count from index to index begins again. -/
def Imager.recount (x : Imager) : Imager := { x with sectors := some 0 }

/-- The index of a disc at speed: the whole turn counted. -/
def Imager.fullTurn (x : Imager) : Bool := x.sectors == some Config.sectorsPerTurn

/-- The index that completes spin-up (R127). -/
def Photo.spunUp (p : Photo) (identity : Nat) : Photo :=
  if p.pins.coverOpen then p.withImager { p.imager.recount with disc := .unconfirmed }
  else
    let p := p.withImager { p.imager.recount with disc := .running, mounted := identity, stamp := 0 }
    if p.imager.state = .spinUp then p.resumeLine else p

/-- The disc a MOUNT WAIT wants: that of the current glyph (R133). -/
def Photo.wanted (p : Photo) : Option Nat :=
  match p.imager.line with
  | none => none
  | some pr => (p.currentGlyph pr).map (·.disc)

/-- The index that completes a recheck (R147). The stamp count runs on, also for a disc that came to UNCONFIRMED out of
STARTING (log entry 35, DESIGN CHOICE: R147 is silent on it). -/
def Photo.rechecked (p : Photo) (identity : Nat) : Photo :=
  let p := p.withImager { p.imager.recount with disc := .running, mounted := identity, recheck := false }
  match p.imager.returnState with
  | some .idle => p.withImager { p.imager with state := .idle, returnState := none }
  | some .spinUp => p.resumeLine
  | some .setting => p.resumeLine
  | some .mountWait => p.resumeLine
  | _ => p

/-- An index event with the identity it carries. -/
def Photo.indexEvent (p : Photo) (identity : Nat) : Photo :=
  match p.imager.disc with
  | .stopped => p
  | .starting => if p.imager.fullTurn then p.spunUp identity else p.withImager p.imager.recount
  | .running =>
    if p.imager.fullTurn then
      let p := p.withImager p.imager.recount
      if p.imager.state = .mountWait ∧ p.wanted = some identity then
        (p.withImager { p.imager with mounted := identity }).resumeLine
      else p
    else p.halt .discStall
  | .unconfirmed => if p.imager.recheck then p.rechecked identity else p.withImager p.imager.recount

/-- The spin-up timer expires (R127). -/
def Photo.spinUpExpires (p : Photo) : Photo := p.expire .spinUp .discStall

/-- The sector-gap timer expires (R128). -/
def Photo.gapExpires (p : Photo) : Photo := p.expire .sectorGap .discStall

/-- The recheck timer expires (R147). -/
def Photo.recheckExpires (p : Photo) : Photo := p.expire .recheck .discStall

/-! ### The flash confirm (R140) -/

def Photo.confirm (p : Photo) : Photo :=
  if p.imager.confirmWindow then
    let p := p.withImager { p.imager with confirmWindow := false }
    match p.imager.line with
    | none => p
    | some pr => p.nextGlyph { pr with exposed := pr.exposed + 1 }
  else p

/-! ### The cover (R146, R147, R149) -/

/-- SUSPENDED entered from a state (R146). -/
def Photo.suspend (p : Photo) : Photo :=
  let p := p.withImager { p.imager with
    state := .suspended
    returnState := some p.imager.state
    disc := if p.imager.disc = .running then .unconfirmed else p.imager.disc }
  (p.post .coverOpen).flagLine fun f => { f with coverOpened := true }

/-- The cover opens, the pin already following it. A cover that opens during a recheck ends the recheck (log
entry 9). -/
def Photo.coverOpens (p : Photo) : Photo :=
  match p.imager.state with
  | .halted => p.withImager { p.imager with coverNote := true }
  | .suspended => p.withImager { p.imager with recheck := false }
  | _ => p.suspend

/-- The recheck starts (R147). -/
def Photo.startRecheck (p : Photo) : Photo := p.withImager { p.imager with recheck := true }

/-- The cover closes on a SUSPENDED Imager (R147). -/
def Photo.resume (p : Photo) (detent : Bool) : Photo :=
  match p.imager.returnState with
  | some .homing => p.beginHoming detent
  | some .standby => p.withImager { p.imager with state := .standby, returnState := none }
  | some .spinUp =>
    if p.imager.disc = .unconfirmed then p.startRecheck
    else p.withImager { p.imager with state := .spinUp, returnState := none }
  | some .idle => p.startRecheck
  | some .setting => if p.imager.disc = .unconfirmed then p.startRecheck else p.resumeLine
  | some .mountWait => if p.imager.disc = .unconfirmed then p.startRecheck else p.resumeLine
  | _ => p

/-- The cover closes, the pin already following it (R147, R149). -/
def Photo.coverCloses (p : Photo) (detent : Bool) : Photo :=
  match p.imager.state with
  | .suspended => p.resume detent
  | .halted => if p.imager.coverNote then p.beginHoming detent else p
  | _ => p

/-! ### LAMP (R139) -/

def Photo.takeLamp (p : Photo) (window most : Nat) : Photo :=
  p.withImager { p.imager with pendingLamp := some (window, most) }

end Sys2Proof.Machine
end

