-- ==== Sys2Proof/Machine/FilmCommands.lean ====
section
/-! DEFINITION. The meanings of the film and disc commands of the stream, and of LAMP (R84 to R86, R139, R159). -/

namespace Sys2Proof.Machine

/-- ADVANCE adds n x 10 steps to the pending film adjustment (R84), n clamped to 0..1440 (R11). -/
def execAdvance (n : Word16) (s : State) : StepResult :=
  deliver (.advance n)
    (fun s => (s.onDesk fun _ _ d => d.adjustFilm (lengthSteps (clampNat 0 1440 n.toNat))).postWhen
      (natOut 0 1440 n.toNat) .parameterClamped) s

/-- REVERSE subtracts n x 10 steps from the pending film adjustment (R84), n clamped to 0..1440 (R11). -/
def execReverse (n : Word16) (s : State) : StepResult :=
  deliver (.reverse n)
    (fun s => (s.onDesk fun _ _ d => d.adjustFilm (-(lengthSteps (clampNat 0 1440 n.toNat) : Int))).postWhen
      (natOut 0 1440 n.toNat) .parameterClamped) s

/-- COLUMN MARK sets the pending column mark (R84). -/
def execColumnMark (s : State) : StepResult :=
  deliver .columnMark (fun s => s.withComposer { s.composer with columnMark := true }) s

/-- CUT closes any open line, then opens and closes a CUT record (R85). -/
def execCut (s : State) : StepResult :=
  deliver .cut (fun s => s.onDesk fun t dict d => d.takeEnding t dict .cut) s

/-- STOP DISC closes any open line, then opens and closes a STOP record (R86). -/
def execStopDisc (s : State) : StepResult :=
  deliver .stopDisc (fun s => s.onDesk fun t dict d => d.takeEnding t dict .stopDisc) s

/-- CASSETTE sets the assumed length, 0..100000 points of 20 steps (R11, R159); the parser completes it with `busy`
false. -/
def execCassette (points : Word24) (s : State) (busy : Bool := false) : StepResult :=
  deliver (.cassette points false)
    (fun s =>
      let s := s.postWhen (natOut 0 100000 points.toNat) .parameterClamped
      s.withPhoto ((s.photo busy).runFilm (s.film.takeCassette (clampNat 0 100000 points.toNat * 20)))) s

/-- LAMP holds a window of 4..32 and a maximum of 1..8 as pending (R11, R139). -/
def execLamp (window most : Byte) (s : State) : StepResult :=
  deliver (.lamp window most)
    (fun s => (s.withPhoto ((s.photo false).takeLamp (clampNat 4 32 window.toNat) (clampNat 1 8 most.toNat))).postWhen
      (natOut 4 32 window.toNat || natOut 1 8 most.toNat) .parameterClamped) s

end Sys2Proof.Machine
end

