-- ==== Sys2Proof/Machine/FilmEvents.lean ====
section
/-! DEFINITION. The meanings of the film drive's, the cutter's and the cassette switch's events (chapter 8). -/

namespace Sys2Proof.Machine

/-- An event of the film drive, the cutter or the cassette switch taken by Film Transport, and its report by the
Imager. -/
def State.filmEvent (s : State) (busy : Bool) (f : Film → FilmResult) : State :=
  s.onPhoto busy fun p => p.runFilm (f p.film)

/-- The film arrives at its target (R154, R156). -/
def execFilmArrival (s : State) (busy : Bool := false) : StepResult := .next (s.filmEvent busy Film.arrive)

/-- The 2 s timer of a move or a cut allowance expires: FILM FAULT (R155, R156). -/
def execFilmMoveTimeout (s : State) (busy : Bool := false) : StepResult := .next (s.filmEvent busy Film.moveExpires)

/-- Cutter done ends the cut (R156). -/
def execCutterDone (s : State) (busy : Bool := false) : StepResult := .next (s.filmEvent busy Film.cutterEnds)

/-- The 1 s cutter timer expires: FILM FAULT (R156). -/
def execCutterTimeout (s : State) (busy : Bool := false) : StepResult := .next (s.filmEvent busy Film.cutterExpires)

/-- The cassette switch shows a removal (R157). While RESET is asserted Film Transport stays in the reset state that the
switch gives (R150; log entry 27). -/
def execCassetteRemoved (s : State) (busy : Bool := false) : StepResult :=
  if s.pins.cassetteIn then
    let s := s.withPins { s.pins with cassetteIn := false }
    if s.pins.resetLine then .next (s.withFilm (.reset s.pins)) else .next (s.filmEvent busy Film.remove)
  else .next s

/-- The cassette switch shows an insertion (R158). -/
def execCassetteInserted (s : State) (busy : Bool := false) : StepResult :=
  if s.pins.cassetteIn then .next s
  else
    let s := s.withPins { s.pins with cassetteIn := true }
    if s.pins.resetLine then .next (s.withFilm (.reset s.pins)) else .next (s.filmEvent busy Film.insert)

end Sys2Proof.Machine
end

