-- ==== Sys2Proof/Machine/ImagerEvents.lean ====
section
/-! DEFINITION. The meanings of the photo unit's events and of the Imager's own steps (chapter 7). A step that can end no
line looks at no BUSY: it is given `false`. -/

namespace Sys2Proof.Machine

/-- The Imager takes the head of the ready list (R130). -/
def execTakeLine (s : State) (busy : Bool := false) : StepResult := .next (s.onPhoto busy Photo.takeLine)

/-- A turret step completes, with the detent at the new position (R126, R136). -/
def execTurretStepDone (detent : Bool) (s : State) (busy : Bool := false) : StepResult := .next (s.onPhoto busy (·.turretSteps detent))

/-- A turret step's 100 ms expire: TURRET FAULT (R126, R136). -/
def execTurretStepTimeout (s : State) (busy : Bool := false) : StepResult := .next (s.onPhoto busy Photo.turretExpires)

/-- The carriage arrives at its target (R126, R137, R143, R144). -/
def execCarriageArrival (s : State) (busy : Bool := false) : StepResult := .next (s.onPhoto busy Photo.carriageArrives)

/-- A carriage move's 300 ms expire: CARRIAGE FAULT (R137). -/
def execCarriageTimeout (s : State) (busy : Bool := false) : StepResult := .next (s.onPhoto busy Photo.carriageExpires)

/-- The 8 ms ring-settle timer expires (R135). -/
def execRingSettleExpiry (s : State) : StepResult := .next (s.onPhoto false Photo.ringSettles)

/-- A sector event with its sector number (R128, R138 to R142). -/
def execSectorEvent (sector : BitVec 7) (s : State) (busy : Bool := false) : StepResult :=
  .next (s.onPhoto busy (·.sectorEvent sector.toNat))

/-- An index event with the disc identity it carries (R127, R128, R134, R147). -/
def execIndexEvent (identity : BitVec 6) (s : State) (busy : Bool := false) : StepResult :=
  .next (s.onPhoto busy (·.indexEvent identity.toNat))

/-- The 3 s spin-up timer expires: DISC STALL (R127). -/
def execSpinUpTimeout (s : State) (busy : Bool := false) : StepResult := .next (s.onPhoto busy Photo.spinUpExpires)

/-- The 5 ms sector-gap timer expires: DISC STALL (R128). -/
def execSectorGapTimeout (s : State) (busy : Bool := false) : StepResult := .next (s.onPhoto busy Photo.gapExpires)

/-- The 3 s recheck timer expires: DISC STALL (R147). -/
def execRecheckTimeout (s : State) (busy : Bool := false) : StepResult := .next (s.onPhoto busy Photo.recheckExpires)

/-- A flash confirm, disregarded with no confirm window open (R140). -/
def execFlashConfirm (s : State) (busy : Bool := false) : StepResult := .next (s.onPhoto busy Photo.confirm)

/-- The cover opens (R146, R149). While RESET is asserted only the switch is seen (R125; log entry 27); a switch that
shows the cover open already does not open again (log entry 33). -/
def execCoverOpens (s : State) : StepResult :=
  if s.pins.coverOpen then .next s
  else
    let s := s.withPins { s.pins with coverOpen := true }
    if s.pins.resetLine then .next s else .next (s.onPhoto false Photo.coverOpens)

/-- The cover closes, with the detent at that moment (R147, R149). -/
def execCoverCloses (detent : Bool) (s : State) (busy : Bool := false) : StepResult :=
  if s.pins.coverOpen then
    let s := s.withPins { s.pins with coverOpen := false }
    if s.pins.resetLine then .next s else .next (s.onPhoto busy (·.coverCloses detent))
  else .next s

end Sys2Proof.Machine
end

