-- ==== Sys2Proof/Machine/Link.lean ====
section
/-! DEFINITION. The meanings of FRAME_RECEIVED and PARSER_TAKE. -/

namespace Sys2Proof.Machine

/-- A damaged code counted and INPUT ERROR posted (R1). -/
def Front.inputError (f : Front) : Front :=
  { f with
    intake := { f.intake with errors := saturate 255 f.intake.errors }
    events := postTo f.events .inputError }

/-- A frame received (R1, R2). -/
def Front.frame (f : Front) (data : Byte) (parity stop : Bool) : Front :=
  if frameGood data parity stop then f.offer (.plain data) else f.inputError.offer .damaged

/-- A character frame completes (R1); while RESET is asserted it is discarded without any event (R2). -/
def execFrameReceived (data : Byte) (parity stop : Bool) (s : State) : StepResult :=
  if s.pins.resetLine then .next s else .next (s.withFront (s.front.frame data parity stop))

/-- The parser takes an entry that completes no deliverable item (R4 to R9, R15, R16, R20), and a format that has run
out ends (R19). With no such entry to take the step does not take place (log entry 1). -/
def execParserTake (s : State) : StepResult :=
  match s.offer with
  | .quiet t => .next t.runOut
  | _ => .next s

end Sys2Proof.Machine
end

