-- ==== Sys2Proof/Machine/PrinterEvents.lean ====
section
/-! DEFINITION. The meanings of the proof printer's events (chapter 9). -/

namespace Sys2Proof.Machine

/-- SELECT goes inactive (R170). While RESET is asserted the Proof Spooler stays in the reset state that SELECT gives
(R163; log entry 27). -/
def execSelectInactive (s : State) : StepResult :=
  if s.pins.select then
    let s := s.withPins { s.pins with select := false }
    if s.pins.resetLine then .next (s.withProof (.reset s.pins)) else .next (s.onPhoto false Photo.deselect)
  else .next s

/-- SELECT goes active, BUSY being at the level given (R170, R171, R174). -/
def execSelectActive (busy : Bool) (s : State) : StepResult :=
  if s.pins.select then .next s
  else
    let s := s.withPins { s.pins with select := true }
    if s.pins.resetLine then .next (s.withProof (.reset s.pins)) else .next (s.onPhoto busy Photo.reselect)

/-- BUSY goes inactive (R174). -/
def execBusyInactive (s : State) : StepResult := .next (s.onPhoto false Photo.notBusy)

/-- The 10 s BUSY timer expires (R174). -/
def execBusyTimeout (s : State) : StepResult := .next (s.onPhoto false Photo.busyExpires)

/-- ACK, BUSY being at the level given as the byte is accepted (R169, R171, R174, R175). -/
def execAck (busy : Bool) (s : State) : StepResult := .next (s.onPhoto busy Photo.accept)

/-- The 50 ms ACK timer expires (R175). -/
def execAckTimeout (s : State) : StepResult := .next (s.onPhoto false Photo.ackExpires)

end Sys2Proof.Machine
end

