-- ==== Sys2Proof/Machine/ReplyCommands.lean ====
section
/-! DEFINITION. The meanings of PROOF, of the commands of the Reply Unit, and of the return link's events. -/

namespace Sys2Proof.Machine

/-- PROOF sets the proof mode and the policy (R12, R164). -/
def execProof (mode policy : Byte) (s : State) : StepResult :=
  deliver (.proof mode policy)
    (fun s => (s.withProof { s.proof with mode := proofModeOf mode, policy := policyOf policy }).postWhen
      (selectorOut 2 mode) .parameterClamped) s

/-- QUERY (R183), held while the reply queue is full (R10). -/
def execQuery (s : State) : StepResult := deliver .query (fun s => s.replyItem .query) s

/-- EVENTS (R182), held while the reply queue is full (R10). -/
def execEvents (s : State) : StepResult := deliver .events (fun s => s.replyItem .events) s

/-- MASK replaces the attention mask (R181). -/
def execMask (set : Word24) (s : State) : StepResult :=
  deliver (.mask set) (fun s => s.withReply { s.reply with mask := set }) s

/-- READ LOG (R179), its count clamped to 1..16 (R11), held while the reply queue is full (R10). -/
def execReadLog (count : Byte) (s : State) : StepResult :=
  deliver (.readLog count)
    (fun s => (s.postWhen (natOut 1 16 count.toNat) .parameterClamped).replyItem
      (.readLog (clampNat 1 16 count.toNat))) s

/-- SYNC (R184), held while 4 markers are pending (R10). -/
def execSync (token : Word16) (s : State) : StepResult := deliver (.sync token) (fun s => s.replyItem (.sync token)) s

/-- CLEAR-TO-SEND changes (R186). -/
def execClearToSend (asserted : Bool) (s : State) (bytes : Byte := 0) : StepResult :=
  .next (s.setClearToSend asserted bytes.toNat)

/-- The last byte of the head reply record is sent (R185, R186). -/
def execReplyRecordSent (heldFirst : Bool) (s : State) : StepResult := .next (s.recordSent heldFirst)

/-- A SYNC answer that waited for room is appended, and its marker removed (R184). -/
def execSyncAnswer (s : State) : StepResult := .next s.answerWaiting

end Sys2Proof.Machine
end

