-- ==== Sys2Proof/Machine/FormatOps.lean ====
section
/-! DEFINITION. The Format Store's operations: freeing a format (R13), the checks and effects of DEFINE (R14),
END DEFINE (R17) and CALL (R18). -/

namespace Sys2Proof.Machine

def FormatStore.format (fs : FormatStore) (n : Nat) : Option Format := tabGet fs.descriptors none n

/-- A present format is freed: its bytes leave format memory, and every format above moves down by its length
(R13). -/
def FormatStore.free (fs : FormatStore) (n : Nat) : FormatStore :=
  match fs.format n with
  | none => fs
  | some d =>
    { descriptors :=
        (tabPut fs.descriptors n none).map fun x =>
          x.map fun e => if d.start + d.len ≤ e.start then { e with start := e.start - d.len } else e
      memory := fs.memory.take d.start ++ fs.memory.drop (d.start + d.len) }

/-- The format store's lock passes its check (R14, R17, R51). -/
def State.formatLockPasses (s : State) : Bool := lockPasses s.tables.locks.formats s.pins.serviceSwitch

/-- The three checks of a DEFINE of format `n` (R14). -/
def State.defineAccepted (s : State) (n : Nat) : Bool :=
  decide (n ≤ 63) && s.intake.sources.isEmpty && s.formatLockPasses

/-- DEFINE taken (R14). -/
def State.takeDefine (s : State) (n : Nat) (nestable : Bool) : State :=
  if s.defineAccepted n then
    (s.withFormats (s.formats.free n)).withIntake { s.intake with mode := .define n nestable 0 }
  else (s.withIntake { s.intake with mode := .defineDiscard }).post .formatError

/-- END DEFINE taken (R17). -/
def State.takeEndDefine (s : State) : State :=
  match s.intake.mode with
  | .execute => s.post .formatError
  | .defineDiscard => s.withIntake { s.intake with mode := .execute }
  | .define n nestable stored =>
    let start := s.formats.memory.length - stored
    if s.formatLockPasses then
      (s.withFormats
          { s.formats with descriptors := tabPut s.formats.descriptors n (some ⟨start, stored, nestable⟩) }).withIntake
        { s.intake with mode := .execute }
    else
      ((s.withFormats { s.formats with memory := s.formats.memory.take start }).withIntake
        { s.intake with mode := .execute }).post .formatError

/-- The four checks of a CALL of format `n` (R18). -/
def State.callAccepted (s : State) (n : Nat) : Bool :=
  match s.formats.format n with
  | none => false
  | some d =>
    decide (n ≤ 63) && decide (s.intake.sources.length < Config.maxDepth) && (s.intake.sources.isEmpty || d.nestable)

/-- CALL taken (R18). -/
def State.takeCall (s : State) (n : Nat) : State :=
  if s.callAccepted n then s.withIntake { s.intake with sources := ⟨n, 0⟩ :: s.intake.sources }
  else s.post .formatError

end Sys2Proof.Machine
end

