-- ==== Sys2Proof/Machine/StoredFormats.lean ====
section
/-! DEFINITION. The meanings of DEFINE, END DEFINE and CALL (R14, R17, R18). -/

namespace Sys2Proof.Machine

/-- DEFINE (R14); the nestable byte follows the off/on rule (R12). -/
def execDefine (number nestable : Byte) (s : State) : StepResult :=
  deliver (.define number nestable) (fun s => s.takeDefine number.toNat (onOff nestable)) s

/-- END DEFINE (R17). -/
def execEndDefine (s : State) : StepResult := deliver .endDefine (fun s => s.takeEndDefine) s

/-- CALL (R18). -/
def execCall (number : Byte) (s : State) : StepResult := deliver (.call number) (fun s => s.takeCall number.toNat) s

end Sys2Proof.Machine
end

