-- ==== Sys2Proof/Machine/System.lean ====
section
/-! DEFINITION. The meanings of RESET, RESET_END and SERVICE_SWITCH_CHANGE. -/

namespace Sys2Proof.Machine

/-- RESET is asserted: every block in its reset state, the input levels as they are, RESET asserted (R123 and the
"after reset" of each block's chapter). -/
def execReset (s : State) : StepResult :=
  .next ((State.resetWith { s.pins with resetLine := true }).withQueue s.pending)

/-- The Imager as reset ends: HOMING, or SUSPENDED with return state HOMING and COVER OPEN posted (R125). -/
def Photo.start (p : Photo) (detent : Bool) : Photo :=
  if p.pins.coverOpen then
    (p.withImager { p.imager with state := .suspended, returnState := some .homing }).post .coverOpen
  else p.beginHoming detent

/-- RESET is released: READY is asserted (R3) and the Imager starts (R125, R126). With RESET not asserted the step
does not take place (log entry 1). -/
def execResetEnd (detent : Bool) (s : State) : StepResult :=
  if s.pins.resetLine then
    let s := (s.withPins { s.pins with resetLine := false }).withIntake { s.intake with ready := true }
    .next (s.withPhoto ((s.photo false).start detent))
  else .next s

/-- The operator turns the service switch on or off (R51). -/
def execServiceSwitchChange (on : Bool) (s : State) : StepResult :=
  .next (s.withPins { s.pins with serviceSwitch := on })

end Sys2Proof.Machine
end

