-- ==== Sys2Proof/Machine/TableOps.lean ====
section
/-! DEFINITION. The Table Memory: table identifiers (section 3.5), locks (R49, R51), the five commit checks of a LOAD
block (R46 to R48, R50), the commit with its clamps (R52, R53), and the wait of a lens-table block (R50). -/

namespace Sys2Proof.Machine

/-- A known table identifier (section 3.5). -/
inductive Table where
  | codeMap (slot : Nat)
  | widths (slot : Nat)
  | kernClasses (slot : Nat)
  | kernPairs (slot : Nat)
  | info (slot : Nat)
  | directory
  | lenses
  | classes
  | rules
  | formats
  | dictionary
  deriving DecidableEq, Repr

/-- The table an identifier names; none when it is not known (R44). -/
def tableOf (ident : Byte) : Option Table :=
  if ident = 0x60 then some .directory
  else if ident = 0x61 then some .lenses
  else if ident = 0x62 then some .classes
  else if ident = 0x63 then some .rules
  else if ident = 0x70 then some .formats
  else if ident = 0x71 then some .dictionary
  else if ident.toNat / 16 = 1 then some (.codeMap (ident.toNat % 16))
  else if ident.toNat / 16 = 2 then some (.widths (ident.toNat % 16))
  else if ident.toNat / 16 = 3 then some (.kernClasses (ident.toNat % 16))
  else if ident.toNat / 16 = 4 then some (.kernPairs (ident.toNat % 16))
  else if ident.toNat / 16 = 5 then some (.info (ident.toNat % 16))
  else none

/-- The number of entries of a loadable table; none for the two that are lock only (section 3.5). -/
def Table.entries : Table → Option Nat
  | .codeMap _ => some 224
  | .widths _ => some 112
  | .kernClasses _ => some 112
  | .kernPairs _ => some 256
  | .info _ => some 2
  | .directory => some 64
  | .lenses => some 12
  | .classes => some 224
  | .rules => some 625
  | .formats => none
  | .dictionary => none

/-! ### Locks -/

/-- The place of a slot table's lock flag: identifiers 10h..5Fh in order. -/
def Table.lockIndex : Table → Nat
  | .codeMap s => s
  | .widths s => 16 + s
  | .kernClasses s => 32 + s
  | .kernPairs s => 48 + s
  | .info s => 64 + s
  | _ => 80

/-- The lock flag of a table (R49). -/
def Locks.get (l : Locks) : Table → Bool
  | .directory => l.directory
  | .lenses => l.lenses
  | .classes => l.classes
  | .rules => l.rules
  | .formats => l.formats
  | .dictionary => l.dictionary
  | .codeMap s => tabGet l.slots false (Table.codeMap s).lockIndex
  | .widths s => tabGet l.slots false (Table.widths s).lockIndex
  | .kernClasses s => tabGet l.slots false (Table.kernClasses s).lockIndex
  | .kernPairs s => tabGet l.slots false (Table.kernPairs s).lockIndex
  | .info s => tabGet l.slots false (Table.info s).lockIndex

/-- The lock flag of a table set (R51). -/
def Locks.lock (l : Locks) : Table → Locks
  | .directory => { l with directory := true }
  | .lenses => { l with lenses := true }
  | .classes => { l with classes := true }
  | .rules => { l with rules := true }
  | .formats => { l with formats := true }
  | .dictionary => { l with dictionary := true }
  | .codeMap s => { l with slots := tabPut l.slots (Table.codeMap s).lockIndex true }
  | .widths s => { l with slots := tabPut l.slots (Table.widths s).lockIndex true }
  | .kernClasses s => { l with slots := tabPut l.slots (Table.kernClasses s).lockIndex true }
  | .kernPairs s => { l with slots := tabPut l.slots (Table.kernPairs s).lockIndex true }
  | .info s => { l with slots := tabPut l.slots (Table.info s).lockIndex true }

/-- LOCK taken (R51). -/
def State.takeLock (s : State) (ident : Byte) : State :=
  match tableOf ident with
  | none => s.post .unknownCode
  | some tab => s.withTables { s.tables with locks := s.tables.locks.lock tab }

/-! ### The block -/

/-- The entry count of a block after the clamp of R8. -/
def LoadBlock.entries (b : LoadBlock) : Nat := clampedCount b.ident b.count.toNat

/-- Any direction but 01h is ascending (R46). -/
def LoadBlock.descending (b : LoadBlock) : Bool := b.direction == 0x01

/-- A direction byte other than 00h and 01h posts PARAMETER CLAMPED at delivery (R46). -/
def LoadBlock.directionOut (b : LoadBlock) : Bool := b.direction != 0x00 && b.direction != 0x01

/-- The index the `i`-th entry is addressed to, without wrap (R46). -/
def LoadBlock.address (b : LoadBlock) (i : Nat) : Int :=
  if b.descending then (b.start.toNat : Int) - i else (b.start.toNat : Int) + i

/-- The data bytes of the block, from the staging buffer (R45). -/
def LoadBlock.data (b : LoadBlock) (t : Tables) : List Byte :=
  t.staging.toList.take (b.entries * entrySize b.ident)

/-- The bytes of the `i`-th entry (R46). -/
def LoadBlock.entryBytes (b : LoadBlock) (t : Tables) (i : Nat) : List Byte :=
  ((b.data t).drop (i * entrySize b.ident)).take (entrySize b.ident)

/-- The sum of the six header bytes as sent, the data and the sum byte, modulo 256 (R48). -/
def LoadBlock.total (b : LoadBlock) (t : Tables) : Nat :=
  (b.ident.toNat + b.start.toNat / 256 + b.start.toNat % 256 + b.count.toNat / 256 + b.count.toNat % 256 +
    b.direction.toNat + ((b.data t).map (·.toNat)).sum + b.sum.toNat) % 256

/-- Check 2: every address lies within the table's indexes (R47). -/
def LoadBlock.inRange (b : LoadBlock) (entries : Nat) : Bool :=
  (List.range b.entries).all fun i => decide (0 ≤ b.address i) && decide (b.address i < entries)

/-! ### The commit -/

/-- A byte of a block's entry. -/
def byteAt (bytes : List Byte) (k : Nat) : Byte := (bytes[k]?).getD 0

def Tables.putWidthSlot (t : Tables) (k : Nat) (w : WidthSlot) : Tables := { t with slots := tabPut t.slots k w }

/-- A code map byte: a glyph position, or NONE (R53). -/
def codeMapValue (b : Byte) : Option Nat := if b.toNat ≤ 111 then some b.toNat else none

/-- A kern pair byte, clamped to -32..31 (R53). -/
def kernValue (b : Byte) : Int := clampInt (-32) 31 (signedByte b)

/-- A lens size byte: 0 empty, else 8..192 (R53). -/
def lensValue (b : Byte) : Nat := if b = 0 then 0 else clampNat 8 192 b.toNat

/-- A directory entry: absent when its disc identity byte is 0, else its three fields after their clamps (R40, R53). -/
def directoryValue (bytes : List Byte) : Option FontEntry :=
  if byteAt bytes 0 = 0 then none
  else some ⟨min 63 (byteAt bytes 0).toNat, (byteAt bytes 1).toNat % 4, min 15 (byteAt bytes 2).toNat⟩

/-- A letter class entry: class in bits 2 to 0, uppercase flag in bit 7, then the fold code (R42, R53). -/
def classValue (bytes : List Byte) : ClassEntry :=
  ⟨min 4 ((byteAt bytes 0).toNat % 8), (byteAt bytes 0).getLsbD 7, byteAt bytes 1⟩

/-- Whether R53 changes a value of this entry. -/
def entryClamped (tab : Table) (bytes : List Byte) : Bool :=
  match tab with
  | .codeMap _ => decide (0x70 ≤ (byteAt bytes 0).toNat) && byteAt bytes 0 != 0xFF
  | .widths _ => false
  | .kernClasses _ => decide (15 < (byteAt bytes 0).toNat)
  | .kernPairs _ => kernValue (byteAt bytes 0) != signedByte (byteAt bytes 0)
  | .info _ => decide (111 < (byteAt bytes 0).toNat)
  | .directory =>
    byteAt bytes 0 != 0 &&
      (decide (63 < (byteAt bytes 0).toNat) || decide (3 < (byteAt bytes 1).toNat) || decide (15 < (byteAt bytes 2).toNat))
  | .lenses => lensValue (byteAt bytes 0) != (byteAt bytes 0).toNat
  | .classes => decide (4 < (byteAt bytes 0).toNat % 8)
  | .rules => decide (3 < (byteAt bytes 0).toNat)
  | .formats => false
  | .dictionary => false

/-- One entry written at its index, after the clamps of R53 (R52). -/
def Tables.putEntry (t : Tables) (tab : Table) (i : Nat) (bytes : List Byte) : Tables :=
  match tab with
  | .codeMap k =>
    let w := t.widthSlot k
    t.putWidthSlot k { w with codeMap := tabPut w.codeMap i (codeMapValue (byteAt bytes 0)) }
  | .widths k =>
    let w := t.widthSlot k
    t.putWidthSlot k { w with widths := tabPut w.widths i (byteAt bytes 0).toNat }
  | .kernClasses k =>
    let w := t.widthSlot k
    t.putWidthSlot k { w with kernClasses := tabPut w.kernClasses i (min 15 (byteAt bytes 0).toNat) }
  | .kernPairs k =>
    let w := t.widthSlot k
    t.putWidthSlot k { w with kernPairs := tabPut w.kernPairs i (kernValue (byteAt bytes 0)) }
  | .info k =>
    let w := t.widthSlot k
    t.putWidthSlot k { w with info := tabPut w.info i (min 111 (byteAt bytes 0).toNat) }
  | .directory => { t with directory := tabPut t.directory i (directoryValue bytes) }
  | .lenses => { t with lenses := tabPut t.lenses i (lensValue (byteAt bytes 0)) }
  | .classes => { t with classes := tabPut t.classes i (classValue bytes) }
  | .rules => { t with rules := tabPut t.rules i (min 3 (byteAt bytes 0).toNat) }
  | .formats => t
  | .dictionary => t

/-- A component of a width slot counts as loaded once a committed block has written an entry of it (R39, R52). -/
def Tables.countLoaded (t : Tables) (tab : Table) : Tables :=
  match tab with
  | .codeMap k => t.putWidthSlot k { t.widthSlot k with codeMapLoaded := true }
  | .widths k => t.putWidthSlot k { t.widthSlot k with widthsLoaded := true }
  | .info k => t.putWidthSlot k { t.widthSlot k with infoLoaded := true }
  | _ => t

/-- The tables after the commit of a block into `tab` (R52). -/
def Tables.commit (t : Tables) (tab : Table) (b : LoadBlock) : Tables :=
  let written :=
    (List.range b.entries).foldl (fun u i => u.putEntry tab (b.address i).toNat (b.entryBytes t i)) t
  if b.entries = 0 then written else written.countLoaded tab

/-- Whether R53 changes any value of the block. -/
def LoadBlock.clamps (b : LoadBlock) (t : Tables) (tab : Table) : Bool :=
  (List.range b.entries).any fun i => entryClamped tab (b.entryBytes t i)

/-- The commit (R52): one step, posting PARAMETER CLAMPED when R53 clamps a value. -/
def State.commitLoad (s : State) (tab : Table) (b : LoadBlock) : State :=
  (s.withTables (s.tables.commit tab b)).postWhen (b.clamps s.tables tab) .parameterClamped

/-- A refusal with its reason (R47, R55). -/
def State.refuseLoad (s : State) (r : Reason) : State :=
  (s.withTables { s.tables with reason := r }).post .loadRefused

/-- The first commit check that fails, of checks 1 to 4 (R47). -/
def State.loadFailure (s : State) (b : LoadBlock) : Option Reason :=
  match tableOf b.ident with
  | none => some .unknownTable
  | some tab =>
    match tab.entries with
    | none => some .unknownTable
    | some n =>
      if !b.inRange n then some .outOfRange
      else if b.total s.tables ≠ 0 then some .badSum
      else if !lockPasses (s.tables.locks.get tab) s.pins.serviceSwitch then some .locked
      else none

/-- A lens-table block that has passed checks 1 to 4: refused with LINE OPEN while a line is open, waiting while a
slot is READY or IMAGING, committed otherwise (R50). -/
def State.takeLensLoad (s : State) (b : LoadBlock) : State :=
  if s.store.filling.isSome then s.refuseLoad .lineOpen
  else if s.store.busyCount ≠ 0 then s.withTables { s.tables with waiting := some b }
  else s.commitLoad .lenses b

/-- LOAD delivered (R46, R47, R50, R52). -/
def State.takeLoad (s : State) (b : LoadBlock) : State :=
  let s := s.postWhen b.directionOut .parameterClamped
  match s.loadFailure b with
  | some r => s.refuseLoad r
  | none =>
    match tableOf b.ident with
    | some .lenses => s.takeLensLoad b
    | some tab => s.commitLoad tab b
    | none => s

/-- The end of a lens-table block's wait: check 4 is made again (R50). -/
def State.endLensWait (s : State) (b : LoadBlock) : State :=
  let s := s.withTables { s.tables with waiting := none }
  if lockPasses s.tables.locks.lenses s.pins.serviceSwitch then s.commitLoad .lenses b else s.refuseLoad .locked

end Sys2Proof.Machine
end

