-- ==== Sys2Proof/Machine/TableCommands.lean ====
section
/-! DEFINITION. The meanings of LOAD, LOCK, the dictionary commands and LENS_COMMIT_AFTER_WAIT. -/

namespace Sys2Proof.Machine

/-- A complete LOAD block (R47): its header bytes as sent, its data in the staging buffer. -/
def execLoad (ident : Byte) (start count : Word16) (direction sum : Byte) (s : State) : StepResult :=
  deliver (.load ident start count direction sum) (fun s => s.takeLoad ⟨ident, start, count, direction, sum⟩) s

/-- LOCK sets the lock flag of a known identifier (R51). -/
def execLock (ident : Byte) (s : State) : StepResult := deliver (.lock ident) (fun s => s.takeLock ident) s

/-- DICT ADD (R106, R107). -/
def execDictAdd (codes : List Byte) (s : State) : StepResult := deliver (.dictAdd codes) (fun s => s.takeDictAdd codes) s

/-- DICT DELETE (R108). -/
def execDictDelete (codes : List Byte) (s : State) : StepResult :=
  deliver (.dictDelete codes) (fun s => s.takeDictDelete codes) s

/-- DICT CLEAR (R109). -/
def execDictClear (s : State) : StepResult := deliver .dictClear (fun s => s.takeDictClear) s

/-- The wait of a lens-table block ends once no slot is READY or IMAGING (R50), and the Intake goes on (R10, R19). With
no block waiting, or a slot READY or IMAGING, the step does not take place (log entry 1). -/
def execLensCommitAfterWait (s : State) : StepResult :=
  match s.tables.waiting with
  | some b => if s.store.busyCount = 0 then .next (s.endLensWait b).runOut else .next s
  | none => .next s

end Sys2Proof.Machine
end

