-- ==== Sys2Proof/Machine/Text.lean ====
section
/-! DEFINITION. The meanings of the text and control codes, of CLEAR, and of WAIT_SLOT_RESUME. -/

namespace Sys2Proof.Machine

/-- A character text code 21h..FFh (R63): discarded with NOT SETTABLE where it cannot be set (R31). -/
def execTextCode (c : Byte) (s : State) : StepResult :=
  deliver (.textCode c)
    (fun s => s.onDesk fun t dict d => d.whenSettable t fun d => d.takeGlyph t dict (some c) (.textCode c)) s

/-- A damaged code (R9, R63): set as the reject glyph, or discarded with NOT SETTABLE (R31). -/
def execDamagedCode (s : State) : StepResult :=
  deliver .damagedCode
    (fun s => s.onDesk fun t dict d => d.whenSettable t fun d => d.takeGlyph t dict none .damagedCode) s

/-- The interword space 20h ends the word and adds a justifiable break point (R66, R71); discarded with NOT SETTABLE where it cannot be set (R31). -/
def execInterwordSpace (s : State) : StepResult :=
  deliver .interwordSpace (fun s => s.onDesk fun t dict d => d.whenSettable t fun d => d.takeEnding t dict .interwordSpace) s

/-- NO-BREAK SPACE ends the word and adds a justifiable space that is no break point (R67); discarded with NOT SETTABLE where it cannot be set (R31). -/
def execNoBreakSpace (s : State) : StepResult :=
  deliver .noBreakSpace (fun s => s.onDesk fun t dict d => d.whenSettable t fun d => d.takeEnding t dict .noBreakSpace) s

/-- THIN SPACE ends the word and adds a fixed space of 24 units (R68); discarded with NOT SETTABLE where it cannot be set (R31). -/
def execThinSpace (s : State) : StepResult :=
  deliver .thinSpace (fun s => s.onDesk fun t dict d => d.whenSettable t fun d => d.takeEnding t dict .thinSpace) s

/-- EN SPACE ends the word and adds a fixed space of 48 units (R68); discarded with NOT SETTABLE where it cannot be set (R31). -/
def execEnSpace (s : State) : StepResult :=
  deliver .enSpace (fun s => s.onDesk fun t dict d => d.whenSettable t fun d => d.takeEnding t dict .enSpace) s

/-- EM SPACE ends the word and adds a fixed space of 96 units (R68); discarded with NOT SETTABLE where it cannot be set (R31). -/
def execEmSpace (s : State) : StepResult :=
  deliver .emSpace (fun s => s.onDesk fun t dict d => d.whenSettable t fun d => d.takeEnding t dict .emSpace) s

/-- DISCRETIONARY HYPHEN marks the gap after the last glyph of the word (R70). -/
def execDiscretionaryHyphen (s : State) : StepResult :=
  deliver .discretionaryHyphen (fun s => s.onDesk fun _ _ d => d.markDiscretionary) s

/-- NO-HYPHENATE sets the no-hyphenate mark (R70). -/
def execNoHyphenate (s : State) : StepResult :=
  deliver .noHyphenate (fun s => s.withComposer { s.composer with noHyphenate := true }) s

/-- KILL LINE (R87). -/
def execKillLine (s : State) : StepResult := deliver .killLine (fun s => s.onDesk fun _ _ d => d.killLine) s

/-- END LINE ends the word and closes the line that then stands with the quad mode (R77). -/
def execEndLine (s : State) : StepResult :=
  deliver .endLine (fun s => s.onDesk fun t dict d => d.takeEnding t dict .endLine) s

/-- END PARA ends the word, closes the line that then stands with the last-line quad mode, and leaves the ladder count
at 0 (R77, R103). -/
def execEndPara (s : State) : StepResult :=
  deliver .endPara (fun s => s.onDesk fun t dict d => d.takeEnding t dict .endPara) s

/-- CLEAR from the link (R37, R88, R118). -/
def execClear (s : State) : StepResult := deliver .clear (fun s => s.onDesk fun _ _ d => d.clear) s

/-- The Composer leaves WAIT SLOT once a slot is FREE (R61, R113), and the Intake goes on (R10, R19). With the Composer
not in WAIT SLOT, or no slot FREE, the step does not take place (log entry 1). -/
def execWaitSlotResume (s : State) : StepResult :=
  match s.composer.phase with
  | .waitSlot _ =>
    if s.store.lowestFree.isSome then .next (s.onDesk fun t dict d => d.resume t dict).runOut else .next s
  | _ => .next s

end Sys2Proof.Machine
end

