-- ==== Sys2Proof/Machine/Typography.lean ====
section
/-! DEFINITION. The meanings of the typographic commands and of the parameter stack (chapter 2). -/

namespace Sys2Proof.Machine

/-- FONT taken with a number already clamped (R30). -/
def State.takeFont (s : State) (f : Nat) : State :=
  if s.tables.settable f then s.withParams { s.composer.params with font := some f } else s.post .notSettable

/-- FONT (R30), its number clamped to 0..63 (R11). -/
def execFont (number : Byte) (s : State) : StepResult :=
  deliver (.font number)
    (fun s => (s.takeFont (clampNat 0 63 number.toNat)).postWhen (natOut 0 63 number.toNat) .parameterClamped) s

/-- SIZE sets the requested size, 8..192 (R11, R22). -/
def execSize (h : Byte) (s : State) : StepResult :=
  deliver (.size h)
    (fun s => (s.withParams { s.composer.params with size := clampNat 8 192 h.toNat }).postWhen
      (natOut 8 192 h.toNat) .parameterClamped) s

/-- LEAD sets the lead, 0..400 (R11, R22). -/
def execLead (n : Word16) (s : State) : StepResult :=
  deliver (.lead n)
    (fun s => (s.withParams { s.composer.params with lead := clampNat 0 400 n.toNat }).postWhen
      (natOut 0 400 n.toNat) .parameterClamped) s

/-- New measure and indents, brought into relation; a reduction posts PARAMETER CLAMPED (R23). -/
def State.takeMeasure (s : State) (p : Params) (out : Bool) : State :=
  (s.withParams p.relate).postWhen (out || p.relate != p) .parameterClamped

/-- MEASURE sets the measure, 24..1680 (R11, R22), and may reduce the indents (R23). -/
def execMeasure (n : Word16) (s : State) : StepResult :=
  deliver (.measure n)
    (fun s => s.takeMeasure { s.composer.params with measure := clampNat 24 1680 n.toNat } (natOut 24 1680 n.toNat)) s

/-- INDENT sets the left and the right indent, 0..1680 each (R11, R22), and may reduce them (R23). -/
def execIndent (left right : Word16) (s : State) : StepResult :=
  deliver (.indent left right)
    (fun s => s.takeMeasure
      { s.composer.params with left := clampNat 0 1680 left.toNat, right := clampNat 0 1680 right.toNat }
      (natOut 0 1680 left.toNat || natOut 0 1680 right.toNat)) s

/-- QUAD sets the quad mode and the last-line quad mode (R12, R22). -/
def execQuad (mode lastLine : Byte) (s : State) : StepResult :=
  deliver (.quad mode lastLine)
    (fun s => (s.withParams { s.composer.params with quad := quadOf mode, lastQuad := quadOf lastLine }).postWhen
      (selectorOut 3 mode || selectorOut 3 lastLine) .parameterClamped) s

/-- SPACEBAND taken with values already clamped: brought into order, posting PARAMETER CLAMPED when that changes one
(R24). -/
def State.takeSpaceband (s : State) (minimum normal maximum : Nat) (out : Bool) : State :=
  let o := orderSpaceband minimum normal maximum
  (s.withParams { s.composer.params with spaceMin := o.1, spaceNormal := o.2.1, spaceMax := o.2.2 }).postWhen
    (out || o != (minimum, normal, maximum)) .parameterClamped

/-- SPACEBAND sets the three interword widths, 0..96 units each (R11, R22, R24). -/
def execSpaceband (minimum normal maximum : Byte) (s : State) : StepResult :=
  deliver (.spaceband minimum normal maximum)
    (fun s => s.takeSpaceband (clampNat 0 96 minimum.toNat) (clampNat 0 96 normal.toNat) (clampNat 0 96 maximum.toNat)
      (natOut 0 96 minimum.toNat || natOut 0 96 normal.toNat || natOut 0 96 maximum.toNat)) s

/-- TRACK sets the signed tracking, -16..16 units (R11, R22). -/
def execTrack (units : Byte) (s : State) : StepResult :=
  deliver (.track units)
    (fun s => (s.withParams { s.composer.params with track := clampInt (-16) 16 (signedByte units) }).postWhen
      (intOut (-16) 16 (signedByte units)) .parameterClamped) s

/-- LETTERSPACE sets the most a glyph gap may gain, 0..20 steps (R11, R22). -/
def execLetterspace (steps : Byte) (s : State) : StepResult :=
  deliver (.letterspace steps)
    (fun s => (s.withParams { s.composer.params with letterspace := clampNat 0 20 steps.toNat }).postWhen
      (natOut 0 20 steps.toNat) .parameterClamped) s

/-- KERNING switches pair kerning off or on (R12, R22). -/
def execKerning (switch : Byte) (s : State) : StepResult :=
  deliver (.kerning switch) (fun s => s.withParams { s.composer.params with kerning := onOff switch }) s

/-- MANUAL KERN replaces the manual kern pending, -48..47 units (R11, R25). -/
def execManualKern (units : Byte) (s : State) : StepResult :=
  deliver (.manualKern units)
    (fun s => (s.withComposer { s.composer with manualKern := clampInt (-48) 47 (signedByte units) }).postWhen
      (intOut (-48) 47 (signedByte units)) .parameterClamped) s

/-- HYPHENATION sets the hyphenation switch and the threshold, 1..3 (R11, R12, R22). -/
def execHyphenation (switch threshold : Byte) (s : State) : StepResult :=
  deliver (.hyphenation switch threshold)
    (fun s => (s.withParams { s.composer.params with
      hyphenation := onOff switch, threshold := clampNat 1 3 threshold.toNat }).postWhen
      (natOut 1 3 threshold.toNat) .parameterClamped) s

/-- HYPHEN LIMITS sets the fragment minimums, 1..7, the ladder limit, 0..7, and capitals allowed (R11, R12, R22). -/
def execHyphenLimits (left right ladder capitals : Byte) (s : State) : StepResult :=
  deliver (.hyphenLimits left right ladder capitals)
    (fun s => (s.withParams { s.composer.params with
      leftMin := clampNat 1 7 left.toNat, rightMin := clampNat 1 7 right.toNat
      ladderLimit := clampNat 0 7 ladder.toNat, capitals := onOff capitals }).postWhen
      (natOut 1 7 left.toNat || natOut 1 7 right.toNat || natOut 0 7 ladder.toNat) .parameterClamped) s

/-- SAVE taken (R33). -/
def State.takeSave (s : State) (mask : Byte) : State :=
  if s.composer.stack.length < Config.maxFrames then
    s.withComposer { s.composer with stack := s.composer.params.frame mask :: s.composer.stack }
  else s.post .stackError

/-- SAVE pushes a frame of the groups its mask selects (R33). -/
def execSave (mask : Byte) (s : State) : StepResult := deliver (.save mask) (fun s => s.takeSave mask) s

/-- RESTORE taken (R34, R35). -/
def State.takeRestore (s : State) (mask : Byte) : State :=
  match s.composer.stack with
  | [] => s.post .stackError
  | f :: rest =>
    (s.withComposer { s.composer with params := s.composer.params.restore s.tables f mask, stack := rest }).postWhen
      (f.fontRefused s.tables mask) .notSettable

/-- RESTORE pops the top frame and restores the groups both masks select (R34, R35). -/
def execRestore (mask : Byte) (s : State) : StepResult := deliver (.restore mask) (fun s => s.takeRestore mask) s

end Sys2Proof.Machine
end

