-- ==== Sys2Proof/Machine/Dispatch.lean ====
section
/-! DEFINITION. One arm for each command of the opcode table, in the table's order: a direct call of its meaning. -/

namespace Sys2Proof.Machine

def exec (i : Instr) (s : State) : Host.Outcome State Fault Refusal :=
  match i with
  | .reset => Sys2Proof.Machine.execReset s
  | .resetEnd detent => Sys2Proof.Machine.execResetEnd detent s
  | .frameReceived data parity stop => Sys2Proof.Machine.execFrameReceived data parity stop s
  | .parserTake => Sys2Proof.Machine.execParserTake s
  | .textCode c => Sys2Proof.Machine.execTextCode c s
  | .interwordSpace => Sys2Proof.Machine.execInterwordSpace s
  | .damagedCode => Sys2Proof.Machine.execDamagedCode s
  | .thinSpace => Sys2Proof.Machine.execThinSpace s
  | .enSpace => Sys2Proof.Machine.execEnSpace s
  | .emSpace => Sys2Proof.Machine.execEmSpace s
  | .discretionaryHyphen => Sys2Proof.Machine.execDiscretionaryHyphen s
  | .noHyphenate => Sys2Proof.Machine.execNoHyphenate s
  | .noBreakSpace => Sys2Proof.Machine.execNoBreakSpace s
  | .killLine => Sys2Proof.Machine.execKillLine s
  | .endLine => Sys2Proof.Machine.execEndLine s
  | .endPara => Sys2Proof.Machine.execEndPara s
  | .font number => Sys2Proof.Machine.execFont number s
  | .size halfPoints => Sys2Proof.Machine.execSize halfPoints s
  | .lead halfPoints => Sys2Proof.Machine.execLead halfPoints s
  | .measure halfPoints => Sys2Proof.Machine.execMeasure halfPoints s
  | .indent left right => Sys2Proof.Machine.execIndent left right s
  | .quad mode lastLine => Sys2Proof.Machine.execQuad mode lastLine s
  | .spaceband minimum normal maximum => Sys2Proof.Machine.execSpaceband minimum normal maximum s
  | .track units => Sys2Proof.Machine.execTrack units s
  | .letterspace steps => Sys2Proof.Machine.execLetterspace steps s
  | .kerning switch => Sys2Proof.Machine.execKerning switch s
  | .manualKern units => Sys2Proof.Machine.execManualKern units s
  | .hyphenation switch threshold => Sys2Proof.Machine.execHyphenation switch threshold s
  | .hyphenLimits left right ladder capitals => Sys2Proof.Machine.execHyphenLimits left right ladder capitals s
  | .advance halfPoints => Sys2Proof.Machine.execAdvance halfPoints s
  | .reverse halfPoints => Sys2Proof.Machine.execReverse halfPoints s
  | .columnMark => Sys2Proof.Machine.execColumnMark s
  | .cut => Sys2Proof.Machine.execCut s
  | .cassette points busy => Sys2Proof.Machine.execCassette points s busy
  | .stopDisc => Sys2Proof.Machine.execStopDisc s
  | .save mask => Sys2Proof.Machine.execSave mask s
  | .restore mask => Sys2Proof.Machine.execRestore mask s
  | .define number nestable => Sys2Proof.Machine.execDefine number nestable s
  | .endDefine => Sys2Proof.Machine.execEndDefine s
  | .call number => Sys2Proof.Machine.execCall number s
  | .load ident start count direction sum => Sys2Proof.Machine.execLoad ident start count direction sum s
  | .lock ident => Sys2Proof.Machine.execLock ident s
  | .dictAdd codes => Sys2Proof.Machine.execDictAdd codes s
  | .dictDelete codes => Sys2Proof.Machine.execDictDelete codes s
  | .dictClear => Sys2Proof.Machine.execDictClear s
  | .proof mode policy => Sys2Proof.Machine.execProof mode policy s
  | .lamp window most => Sys2Proof.Machine.execLamp window most s
  | .query => Sys2Proof.Machine.execQuery s
  | .events => Sys2Proof.Machine.execEvents s
  | .mask set => Sys2Proof.Machine.execMask set s
  | .readLog count => Sys2Proof.Machine.execReadLog count s
  | .sync token => Sys2Proof.Machine.execSync token s
  | .clear => Sys2Proof.Machine.execClear s
  | .waitSlotResume => Sys2Proof.Machine.execWaitSlotResume s
  | .lensCommitAfterWait => Sys2Proof.Machine.execLensCommitAfterWait s
  | .takeLine busy => Sys2Proof.Machine.execTakeLine s busy
  | .turretStepDone detent busy => Sys2Proof.Machine.execTurretStepDone detent s busy
  | .turretStepTimeout busy => Sys2Proof.Machine.execTurretStepTimeout s busy
  | .carriageArrival busy => Sys2Proof.Machine.execCarriageArrival s busy
  | .carriageTimeout busy => Sys2Proof.Machine.execCarriageTimeout s busy
  | .ringSettleExpiry => Sys2Proof.Machine.execRingSettleExpiry s
  | .sectorEvent sector busy => Sys2Proof.Machine.execSectorEvent sector s busy
  | .indexEvent identity busy => Sys2Proof.Machine.execIndexEvent identity s busy
  | .spinUpTimeout busy => Sys2Proof.Machine.execSpinUpTimeout s busy
  | .sectorGapTimeout busy => Sys2Proof.Machine.execSectorGapTimeout s busy
  | .recheckTimeout busy => Sys2Proof.Machine.execRecheckTimeout s busy
  | .flashConfirm busy => Sys2Proof.Machine.execFlashConfirm s busy
  | .coverOpens => Sys2Proof.Machine.execCoverOpens s
  | .coverCloses detent busy => Sys2Proof.Machine.execCoverCloses detent s busy
  | .filmArrival busy => Sys2Proof.Machine.execFilmArrival s busy
  | .filmMoveTimeout busy => Sys2Proof.Machine.execFilmMoveTimeout s busy
  | .cutterDone busy => Sys2Proof.Machine.execCutterDone s busy
  | .cutterTimeout busy => Sys2Proof.Machine.execCutterTimeout s busy
  | .cassetteRemoved busy => Sys2Proof.Machine.execCassetteRemoved s busy
  | .cassetteInserted busy => Sys2Proof.Machine.execCassetteInserted s busy
  | .selectInactive => Sys2Proof.Machine.execSelectInactive s
  | .selectActive busy => Sys2Proof.Machine.execSelectActive busy s
  | .busyInactive => Sys2Proof.Machine.execBusyInactive s
  | .busyTimeout => Sys2Proof.Machine.execBusyTimeout s
  | .ack busy => Sys2Proof.Machine.execAck busy s
  | .ackTimeout => Sys2Proof.Machine.execAckTimeout s
  | .clearToSend asserted bytes => Sys2Proof.Machine.execClearToSend asserted s bytes
  | .replyRecordSent heldFirst => Sys2Proof.Machine.execReplyRecordSent heldFirst s
  | .syncAnswer => Sys2Proof.Machine.execSyncAnswer s
  | .serviceSwitchChange on => Sys2Proof.Machine.execServiceSwitchChange on s

end Sys2Proof.Machine
end

