-- ==== Sys2Proof/Safety.lean ====
section
/-! DEFINITION. What a safe run is, in the terms the statements use: the laws of the device as predicates on a state,
and the words in which a statement says what a step leaves (an item the parser delivers, a clamp note, a posting). A
run is safe while every step answers a next state and these laws hold. -/

namespace Sys2Proof.Safety

open Sys2Proof Sys2Proof.Machine

/-! ### Words of the statements -/

/-- The parser's next take completes exactly item `c`, its owner being able to take it: `u` is the part with the
item's last entry taken, about to be delivered (R4, R10). -/
def Takes (c : Instr) (s u : State) : Prop := s.offer = .item c u

/-- An event posted: its number joins the pending set, and nothing else changes (R180). -/
def posted (e : Event) (s : State) : State :=
  { s with reply := { s.reply with pending := s.reply.pending ||| (1#24 <<< e.num) } }

/-- The parser's next entry is `e`, and `u` is the part with it taken: from the FIFO, READY following the count, or from
the format on top of the source stack, its offset moved on (R2, R3, R19). -/
def NextEntry (s : State) (e : Entry) (u : State) : Prop :=
  s.holding = false ∧
    ((s.intake.sources = [] ∧ ∃ rest, s.intake.fifo = e :: rest ∧
        u = { s with intake := { s.intake with
          fifo := rest
          ready := if rest.length ≤ 16 then true else if 48 ≤ rest.length then false else s.intake.ready } }) ∨
      ∃ top below d b, s.intake.sources = top :: below ∧ s.formats.format top.format = some d ∧ top.offset < d.len ∧
        s.formats.memory[d.start + top.offset]? = some b ∧ e = .plain b ∧
        u = { s with intake := { s.intake with sources := ⟨top.format, top.offset + 1⟩ :: below } })

/-- The part with the parser's position set. -/
def atPosition (u : State) (p : Position) : State := { u with intake := { u.intake with position := p } }

/-- The command catalogue: each known number with the parameter bytes it expects at first (section 1.3, R7, R8). -/
def catalogue : List (Byte × Nat) :=
  [(0x01, 1), (0x02, 1), (0x03, 2), (0x04, 2), (0x05, 4), (0x06, 2), (0x07, 3), (0x08, 1), (0x09, 1), (0x0A, 1),
    (0x0B, 1), (0x0C, 2), (0x0D, 4)] ++
  [(0x10, 2), (0x11, 2), (0x12, 0), (0x13, 0), (0x14, 3), (0x15, 0), (0x18, 1), (0x19, 1), (0x1A, 2), (0x1B, 0),
    (0x1D, 1)] ++
  [(0x20, 6), (0x21, 1), (0x22, 1), (0x23, 1), (0x24, 0), (0x28, 2), (0x29, 2), (0x30, 0), (0x31, 0), (0x32, 3),
    (0x33, 1), (0x34, 2), (0x35, 0)]

/-- The single-byte items: 20h, a text code, or a control code (R5, section 1.2). -/
def SingleItem (b : Byte) (c : Instr) : Prop :=
  (b = 0x20 ∧ c = .interwordSpace) ∨ (0x21 ≤ b.toNat ∧ c = .textCode b) ∨
    (b, c) ∈ [(0x01#8, Instr.thinSpace), (0x02, .enSpace), (0x03, .emSpace), (0x04, .discretionaryHyphen),
      (0x05, .noHyphenate), (0x06, .noBreakSpace), (0x08, .killLine), (0x0A, .endPara), (0x0D, .endLine)]

/-- The commands without parameter bytes, END DEFINE apart (section 1.3). -/
def BareCommand (b : Byte) (c : Instr) : Prop :=
  (b, c) ∈ [(0x12#8, Instr.columnMark), (0x13, .cut), (0x15, .stopDisc), (0x24, .dictClear), (0x30, .query),
    (0x31, .events), (0x35, .clear)]

/-- The command with a number and all its parameter bytes (sections 1.3 and 11.2), a wide parameter most significant
byte first (R7). -/
def CommandOf (num : Byte) (ps : List Byte) (c : Instr) : Prop :=
  (∃ a, ps = [a] ∧ (num, c) ∈ [(0x01#8, Instr.font a), (0x02, .size a), (0x08, .track a), (0x09, .letterspace a),
    (0x0A, .kerning a), (0x0B, .manualKern a), (0x18, .save a), (0x19, .restore a), (0x1D, .call a), (0x21, .lock a),
    (0x33, .readLog a)]) ∨
  (∃ a b, ps = [a, b] ∧ (num, c) ∈ [(0x03#8, Instr.lead (a ++ b)), (0x04, .measure (a ++ b)), (0x06, .quad a b),
    (0x0C, .hyphenation a b), (0x10, .advance (a ++ b)), (0x11, .reverse (a ++ b)), (0x1A, .define a b),
    (0x28, .proof a b), (0x29, .lamp a b), (0x34, .sync (a ++ b))]) ∨
  (∃ a b d, ps = [a, b, d] ∧ (num, c) ∈ [(0x07#8, Instr.spaceband a b d), (0x14, .cassette (a ++ b ++ d) false),
    (0x32, .mask (a ++ b ++ d))]) ∨
  (∃ a b d e, ps = [a, b, d, e] ∧
    (num, c) ∈ [(0x05#8, Instr.indent (a ++ b) (d ++ e)), (0x0D, .hyphenLimits a b d e)]) ∨
  (∃ n codes, ps = n :: codes ∧ (num, c) ∈ [(0x22#8, Instr.dictAdd codes), (0x23, .dictDelete codes)]) ∨
  ∃ ident a b d e dir data sum, ps = [ident, a, b, d, e, dir] ++ data ++ [sum] ∧ num = 0x20 ∧
    c = .load ident (a ++ b) (d ++ e) dir sum

/-- A complete item with these bytes is not delivered, and `t` is what becomes of it: stored whole in the format being
recorded (R15), the end of the definition where it does not fit (R16), dropped in DEFINE DISCARD (R4), or discarded with
FORMAT ERROR as one that no format carries out (R20). -/
def SetAside (u : State) (barred : Bool) (bytes : List Byte) (t : State) : Prop :=
  let g := atPosition u .ground
  (∃ n nestable stored, u.intake.mode = .define n nestable stored ∧
    t = if u.formats.memory.length + bytes.length ≤ 4096 then
        { g with
          formats := { u.formats with memory := u.formats.memory ++ bytes }
          intake := { g.intake with mode := .define n nestable (stored + bytes.length) } }
      else
        posted .formatError { g with
          formats := { u.formats with memory := u.formats.memory.take (u.formats.memory.length - stored) }
          intake := { g.intake with mode := .defineDiscard } }) ∨
  (u.intake.mode = .defineDiscard ∧ t = g) ∨
  (u.intake.mode = .execute ∧ u.intake.sources ≠ [] ∧ barred = true ∧ t = posted .formatError g)

/-- PARAMETER CLAMPED (event 3) posted, unless every value was in its range (R11). -/
def clampNote (inside : Bool) (s : State) : State :=
  if inside then s else { s with reply := { s.reply with pending := s.reply.pending ||| 8#24 } }

/-- The parameters replaced, and nothing else. -/
def withParameters (s : State) (p : Params) : State := { s with composer := { s.composer with params := p } }

/-- What an answer holds: it is a next state, and the state meets the condition. -/
def AnswersWith (r : StepResult) (p : State → Prop) : Prop := ∃ t, r = .next t ∧ p t

/-- An entry of a loadable table, by the kind of its contents (R38 to R43). -/
inductive Cell where
  | position (p : Option Nat)
  | number (n : Nat)
  | kern (k : Int)
  | font (e : Option FontEntry)
  | letter (e : ClassEntry)
  deriving DecidableEq, Repr

/-- Entry `j` of a loadable table, as it stands. -/
def cellAt (t : Tables) (tab : Table) (j : Nat) : Cell :=
  match tab with
  | .codeMap k => .position (tabGet (t.widthSlot k).codeMap none j)
  | .widths k => .number (tabGet (t.widthSlot k).widths 0 j)
  | .kernClasses k => .number (tabGet (t.widthSlot k).kernClasses 0 j)
  | .kernPairs k => .kern (tabGet (t.widthSlot k).kernPairs 0 j)
  | .info k => .number (tabGet (t.widthSlot k).info 0 j)
  | .directory => .font (t.entry j)
  | .lenses => .number (tabGet t.lenses 0 j)
  | .classes => .letter (tabGet t.classes ⟨0, false, 0⟩ j)
  | .rules => .number (tabGet t.rules 0 j)
  | .formats => .number 0
  | .dictionary => .number 0

/-- What an entry of three bytes, the second and third of no meaning in a shorter one, is taken as, and whether a clamp
changes it (R40, R42, R53). -/
def cellLoaded (tab : Table) (a b c : Byte) : Cell × Bool :=
  match tab with
  | .codeMap _ => (.position (if a.toNat < 0x70 then some a.toNat else none), decide (0x70 ≤ a.toNat ∧ a ≠ 0xFF))
  | .widths _ => (.number a.toNat, false)
  | .kernClasses _ => (.number (min 15 a.toNat), decide (15 < a.toNat))
  | .kernPairs _ => (.kern (max (-32) (min 31 a.toInt)), decide (a.toInt < -32 ∨ 31 < a.toInt))
  | .info _ => (.number (min 111 a.toNat), decide (111 < a.toNat))
  | .directory =>
    if a = 0 then (.font none, false)
    else
      (.font (some ⟨min 63 a.toNat, b.toNat % 4, min 15 c.toNat⟩),
        decide (63 < a.toNat ∨ 3 < b.toNat ∨ 15 < c.toNat))
  | .lenses =>
    if a = 0 then (.number 0, false) else (.number (max 8 (min 192 a.toNat)), decide (a.toNat < 8 ∨ 192 < a.toNat))
  | .classes => (.letter ⟨min 4 (a.toNat % 8), a.getLsbD 7, b⟩, decide (4 < a.toNat % 8))
  | .rules => (.number (min 3 a.toNat), decide (3 < a.toNat))
  | .formats => (.number 0, false)
  | .dictionary => (.number 0, false)

/-- A code that sets something can be set: the font in force is settable, and a lens is fitted (R31, R40). -/
def CanSet (s : State) : Prop :=
  ∃ f e, s.composer.params.font = some f ∧ s.tables.entry f = some e ∧
    (s.tables.widthSlot e.slot).valid = true ∧ ∃ k, tabGet s.tables.lenses 0 k ≠ 0

/-- The two items that set a glyph, each with the stream code the glyph keeps (R63). -/
def SetsGlyph (c : Instr) (code : Option Byte) : Prop :=
  (c = .damagedCode ∧ code = none) ∨ ∃ b, c = .textCode b ∧ code = some b

/-- The five items that set a space, each with its kind (R66 to R68). -/
def SetsSpace (c : Instr) (kind : SpaceKind) : Prop :=
  (c = .interwordSpace ∧ kind = .interword) ∨ (c = .noBreakSpace ∧ kind = .noBreak) ∨
    (c = .thinSpace ∧ kind = .thin) ∨ (c = .enSpace ∧ kind = .en) ∨ (c = .emSpace ∧ kind = .em)

/-- Slot `i` is the one an opening line takes: the lowest-numbered FREE slot (R112). -/
def LowestFree (s : State) (i : Nat) : Prop :=
  i < 8 ∧ (s.store.slot i).state = .free ∧ ∀ j, j < i → (s.store.slot j).state ≠ .free

/-- No slot is FREE. -/
def NoneFree (s : State) : Prop := ∀ j, j < 8 → (s.store.slot j).state ≠ .free

/-- Slot `i` holds a line, in a state, with a record; every other slot is as it was. -/
def OnlySlot (s t : State) (i : Nat) (state : SlotState) (r : LineRecord) : Prop :=
  t.store.slot i = ⟨state, r⟩ ∧ ∀ j, j ≠ i → t.store.slot j = s.store.slot j

/-- The answer is HALTED with event `e` pending: no motion, no timer, positions unknown, the disc STOPPED, and a line in
hand logged with the outcome FAULT; the timers that ran are cancelled, but for those `spent` in the step (R148). -/
def HaltsWith (e : Event) (spent : List ImagerTimer) (s : State) (r : StepResult) : Prop :=
  AnswersWith r fun t =>
    t.imager = { s.imager with
      state := .halted, returnState := none, disc := .stopped, history := [], stamp := 0, recheck := false
      sectors := none, coverNote := s.pins.coverOpen, confirmWindow := false, carriageMove := none
      turretStep := none, ringSettling := false, turret := none, carriage := none, line := none
      cancelled := s.imager.running.filter fun timer => decide (timer ∉ spent) } ∧
    t.reply.pending.getLsbD e.num = true ∧
    (∀ pr, s.imager.line = some pr →
      t.log = (s.log.append (logRecord (s.store.record pr.slot) .fault s.imager.filmTag pr)).1 ∧
        (t.store.slot pr.slot).state ≠ .imaging ∧ t.film.held = none) ∧
    (s.imager.line = none → t.log = s.log ∧ t.store = s.store ∧ t.proof = s.proof) ∧
    t.pins = s.pins ∧ t.composer = s.composer ∧ t.tables = s.tables ∧ t.dict = s.dict ∧ t.formats = s.formats

/-- The current glyph of a line in hand. -/
def CurrentGlyph (s : State) (pr : Progress) (g : Glyph) : Prop :=
  s.imager.line = some pr ∧ (s.store.record pr.slot).glyphs[pr.glyph]? = some g

/-- A glyph is in place: its ring selected and settled, the turret at its lens, the carriage at its x, all at rest
(R135 to R137). -/
def InPlace (x : Imager) (g : Glyph) : Prop :=
  x.ring = g.ring ∧ x.ringSettling = false ∧ x.turretStep = none ∧ x.turret = some g.lens ∧
    x.carriageMove = none ∧ x.carriage = some g.x

/-- A line in SETTING begins a glyph, its events so far being `note` (R133, R135 to R137): with its disc mounted the ring,
the turret and the carriage are set going, each unless it moves or is there already; with another disc mounted the Imager
is in MOUNT WAIT and asks for the disc. `x` is the Imager and `pr` the line as the glyph is begun. -/
def GlyphBegins (s : State) (x : Imager) (pr : Progress) (g : Glyph) (note : Word24) (t : State) : Prop :=
  let way (q : Nat) : Option Direction :=
    let d := (g.lens + 12 - q) % 12
    if d = 0 then none else if d ≤ 6 then some .ascending else some .descending
  (g.disc = x.mounted →
    t.imager = { x with
      state := .setting
      line := some { pr with positioning := true }
      ring := g.ring
      ringSettling := x.ringSettling || decide (x.ring ≠ g.ring)
      turretStep := if x.turretStep = none then x.turret.bind way else x.turretStep
      carriageMove :=
        if x.carriageMove = none then (if x.carriage = some g.x then none else some g.x) else x.carriageMove } ∧
    t.reply = { s.reply with pending := s.reply.pending ||| note }) ∧
  (g.disc ≠ x.mounted →
    t.imager = { x with state := .mountWait, line := some { pr with positioning := false } } ∧
    t.reply.pending = s.reply.pending ||| note ||| 0x400 ∧
    t.reply.queue = s.reply.queue ++
      if s.reply.queue.length < 8 then [.mount g.disc (s.store.record pr.slot).number] else [])

/-- A line in hand is completed with the outcome SET: the Imager in IDLE, or in STANDBY with the disc STOPPED, and the
line's record in the log (R117, R143, R178). `x`, `pr` and `r` are the Imager, the line and its record at its end. -/
def CompletesLine (s : State) (x : Imager) (pr : Progress) (r : LineRecord) (t : State) : Prop :=
  t.imager = { x with line := none, state := if x.disc = .stopped then .standby else .idle } ∧
    t.log = (s.log.append ⟨r.number, r.kind, .set, r.flags, x.filmTag, pr.exposed, pr.dropped, pr.retries,
      pr.deferrals⟩).1

/-- A TEXT line in SETTING in its return phase: completed with the carriage at 0, or the carriage driven there (R143). -/
def GoesHome (s : State) (x : Imager) (pr : Progress) (r : LineRecord) (t : State) : Prop :=
  let home := x.carriageMove = none ∧ x.carriage = some 0
  (home → CompletesLine s x pr r t) ∧
  (¬home → t.log = s.log ∧
    t.imager = { x with line := some { pr with phase := .back }, carriageMove := some (x.carriageMove.getD 0) })

/-- A CUT record in SETTING whose film move is complete and whose cut is not asked for yet, with the film at `y` and its
events so far `note` (R144, R151, R156): the carriage is driven to 0; with the carriage there the cut is asked for, and
its allowance begun, held in FILM OUT, held behind a motion, or answered with FILM FAULT. -/
def CutGoesOn (s : State) (x : Imager) (pr : Progress) (y : Film) (note : Word24) (t : State) : Prop :=
  let home := x.carriageMove = none ∧ x.carriage = some 0
  let asked := t.imager = { x with line := some { pr with phase := .cut, cutAsked := true } }
  let moves := (∃ target w, y.transport = .moving target w ∨ y.transport = .cutAdvance target w) ∨
    ∃ w, y.transport = .cutStroke w
  (¬home → t.film = y ∧ t.reply.pending = s.reply.pending ||| note ∧
    t.imager = { x with line := some { pr with phase := .cut }, carriageMove := some (x.carriageMove.getD 0) }) ∧
  (home → y.transport = .ready → y.f + 480 ≤ y.l → asked ∧ t.reply.pending = s.reply.pending ||| note ∧
    t.film = { y with held := none, transport := .cutAdvance (y.f + 480) true }) ∧
  (home → y.transport = .ready → y.l < y.f + 480 → asked ∧ t.reply.pending = s.reply.pending ||| note ||| 0x8000 ∧
    t.film = { y with held := some .cut, transport := .filmOut }) ∧
  (home → y.transport = .filmOut ∨ y.transport = .noCassette →
    asked ∧ t.reply.pending = s.reply.pending ||| note ||| 0x8000 ∧ t.film = { y with held := some .cut }) ∧
  (home → moves → asked ∧ t.reply.pending = s.reply.pending ||| note ∧ t.film = { y with held := some .cut }) ∧
  (home → y.transport = .fault →
    t.imager.state = .halted ∧ t.imager.line = none ∧ t.reply.pending.getLsbD 16 = true)

/-- The proof record of a line, with a gap count: one text item for each glyph and each space of a line that has a glyph,
160 at most, and none for an empty one (R166, R77). -/
def proofOf (r : LineRecord) (gap : Nat) : ProofRecord :=
  { number := r.number, kind := r.kind, tag := r.tag, flags := r.flags, outcome := r.outcome.getD .set, gap := gap
    text :=
      if glyphsOf r.items = [] then []
      else (r.items.map fun i =>
        match i with
        | .space q => .space q.font
        | .glyph g =>
          if g.role = .addedHyphen then .addedHyphen g.font
          else match g.code with
            | some c => .code c g.font
            | none => .damaged g.font).take 160 }

/-- The port about to send a byte of the head record, BUSY being at a level: it waits while BUSY is active, and otherwise
strobes the byte at the print position; with no record, OFFLINE or in another phase it stays as it is (R171, R174,
R175). -/
def portLooks (x : Proof) (busy : Bool) : Proof :=
  match x.queue with
  | [] => x
  | r :: _ =>
    if x.printer = .online ∧ x.port = .idle then
      if busy then { x with port := .waitBusy }
      else { x with port := .waitAck, data := (((r.printLines[x.printLine]?).getD [])[x.printByte]?).getD 0 }
    else x

/-! ### Laws of the device -/

/-- Film positions (R150): floor, F, H and L in order, and a target in flight between the floor and L. -/
def FilmLaw (s : State) : Prop :=
  s.film.floor ≤ s.film.f ∧ s.film.f ≤ s.film.h ∧ s.film.h ≤ s.film.l ∧
    match s.film.transport with
    | .moving target _ => s.film.floor ≤ target ∧ target ≤ s.film.l
    | .cutAdvance target _ => s.film.f ≤ target ∧ target ≤ s.film.l
    | _ => True

/-- What each store of the part holds at most (R1, R2, R13, R18, R32, R57, R69, R102, R128, R138, R163, R168, R177,
R184, R185), the entries of a line record and of the line being set among it (R65, R66, R83), and the range of each
count (R58, R128, R138, R168, R178). -/
def CapacityLaw (s : State) : Prop :=
  s.intake.fifo.length ≤ 64 ∧ s.intake.errors ≤ 255 ∧ s.intake.sources.length ≤ 4 ∧
    s.formats.memory.length ≤ 4096 ∧ s.composer.stack.length ≤ 8 ∧ s.composer.word.glyphs.length ≤ 48 ∧
    s.composer.ladder ≤ 255 ∧ -14400 ≤ s.composer.adjust ∧ s.composer.adjust ≤ 14400 ∧
    s.imager.history.length ≤ 8 ∧ s.imager.stamp < 4294967296 ∧ s.proof.queue.length ≤ 12 ∧ s.proof.gap ≤ 65535 ∧
    s.log.unread ≤ 64 ∧ s.log.write < 64 ∧ s.log.read < 64 ∧ s.reply.queue.length ≤ 8 ∧ s.reply.markers.length ≤ 4 ∧
    s.composer.counter < 65536 ∧ (∀ pr, s.imager.line = some pr → pr.deferrals ≤ 65535) ∧
    (∀ i, (s.store.record i).number < 65536 ∧ (glyphsOf (s.store.record i).items).length ≤ 160 ∧
      (spacesOf (s.store.record i).items).length ≤ 160) ∧
    match s.composer.phase with
    | .idle => s.composer.word.glyphs = []
    | .opened line =>
      (glyphsOf (s.store.record line.slot).items).length + s.composer.word.glyphs.length ≤ line.glyphs ∧
        line.glyphs < 160
    | .overflowed line => (glyphsOf (s.store.record line.slot).items).length < 160
    | .waitSlot held =>
      s.composer.word.glyphs = [] ∧
        ∀ carry ending, held = .carry carry ending → ∀ q ∈ spacesOf carry.items, q.kind ≠ .interword

/-- Every parameter lies in its range, the indents leave 24 half-points of measure, the spaceband is in order
(section 2.1, R22 to R24). -/
def ParamsInRange (p : Params) : Prop :=
  (∀ n, p.font = some n → n ≤ 63) ∧ 8 ≤ p.size ∧ p.size ≤ 192 ∧ p.lead ≤ 400 ∧ 24 ≤ p.measure ∧ p.measure ≤ 1680 ∧
    p.left + p.right + 24 ≤ p.measure ∧ p.spaceMin ≤ p.spaceNormal ∧ p.spaceNormal ≤ p.spaceMax ∧ p.spaceMax ≤ 96 ∧
    -16 ≤ p.track ∧ p.track ≤ 16 ∧ p.letterspace ≤ 20 ∧ 1 ≤ p.threshold ∧ p.threshold ≤ 3 ∧ 1 ≤ p.leftMin ∧
    p.leftMin ≤ 7 ∧ 1 ≤ p.rightMin ∧ p.rightMin ≤ 7 ∧ p.ladderLimit ≤ 7

/-- The parameters are in range, and each frame of the stack was pushed from parameters in range (R22 to R24, R33). -/
def ParameterLaw (s : State) : Prop :=
  ParamsInRange s.composer.params ∧ -48 ≤ s.composer.manualKern ∧ s.composer.manualKern ≤ 47 ∧
    ∀ f ∈ s.composer.stack, ∃ p, ParamsInRange p ∧ f = p.frame f.mask

/-- The dictionary's words are in strictly ascending order, of 2 to 24 codes, with breaks inside them, within its
capacities (R104). -/
def DictionaryLaw (s : State) : Prop :=
  s.dict.Pairwise (fun a b => wordBefore a.word b.word = true) ∧
    (∀ e ∈ s.dict, 2 ≤ e.word.length ∧ e.word.length ≤ 24 ∧ ∀ k ∈ e.breaks, 1 ≤ k ∧ k < e.word.length) ∧
    s.dict.length ≤ 384 ∧ (s.dict.map (·.word.length)).sum ≤ 4096

/-- While RESET is asserted the whole part stands in its reset state, its inputs and its queue of commands apart. -/
def ResetLaw (s : State) : Prop :=
  s.pins.resetLine = true → s = { State.resetWith s.pins with pending := s.pending }

/-- Slots await proof only while the proof queue is full and the printer ONLINE (R167). -/
def AwaitingLaw (s : State) : Prop :=
  s.store.awaiting ≠ [] → s.proof.queue.length = 12 ∧ s.proof.printer = .online

/-- A SYNC is held only while 4 markers are pending (R10, R184). -/
def HeldSyncLaw (s : State) : Prop :=
  ∀ token, s.reply.held = some (.sync token) → 4 ≤ s.reply.markers.length

/-- The slots and what names them (R111, R112, R114, R116, R120): the ready list and the awaiting list hold exactly the
slots in those states, none twice; the one FILLING slot is the open line's, the one IMAGING slot that of the line in
hand; no slot stays undecided. -/
def SlotLaw (s : State) : Prop :=
  s.store.ready.Nodup ∧ s.store.awaiting.Nodup ∧
    (∀ i, i ∈ s.store.ready ↔ i < 8 ∧ (s.store.slot i).state = .ready) ∧
    (∀ i, i ∈ s.store.awaiting ↔ i < 8 ∧ (s.store.slot i).state = .setAwaiting) ∧
    (∀ i, s.composer.phase.openSlot = some i ↔ i < 8 ∧ (s.store.slot i).state = .filling) ∧
    (∀ i, s.imager.line.map (·.slot) = some i ↔ i < 8 ∧ (s.store.slot i).state = .imaging) ∧
    ∀ i, i < 8 → (s.store.slot i).state ≠ .setUndecided

/-- The lamp values in force and those pending lie in their ranges, and the turret stands at one of its positions
(R125, R138, R139). -/
def LampLaw (s : State) : Prop :=
  4 ≤ s.imager.window ∧ s.imager.window ≤ 32 ∧ 1 ≤ s.imager.most ∧ s.imager.most ≤ 8 ∧
    (∀ w m, s.imager.pendingLamp = some (w, m) → 4 ≤ w ∧ w ≤ 32 ∧ 1 ≤ m ∧ m ≤ 8) ∧
    (∀ k, s.imager.turret = some k → k < 12) ∧ s.imager.mounted < 64

/-- The disc and the line in hand by the Imager's state (section 7.1), SUSPENDED keeping what its return state needs
(R146, R147); a STOPPED disc has an empty flash history and a stamp count of 0 (R129). A return state is held in
SUSPENDED alone, a recheck runs there with the cover closed (R146, R147), and cancelled timers are kept in HALTED
(R148). -/
def ImagerLaw (s : State) : Prop :=
  let x := s.imager
  (x.state = .homing ∨ x.state = .standby ∨ x.state = .halted → x.disc = .stopped ∧ x.line = none) ∧
    (x.state = .idle → x.disc ≠ .stopped ∧ x.line = none) ∧
    (x.state = .spinUp ∨ x.state = .setting ∨ x.state = .mountWait → x.line.isSome = true) ∧
    (x.state = .suspended → x.returnState = some .homing ∨ x.returnState = some .standby →
      x.disc = .stopped ∧ x.line = none) ∧
    (x.state = .suspended → x.returnState = some .idle → x.disc ≠ .stopped ∧ x.line = none) ∧
    (x.state = .suspended →
      x.returnState = some .spinUp ∨ x.returnState = some .setting ∨ x.returnState = some .mountWait →
      x.line.isSome = true) ∧
    (x.disc = .stopped → x.history = [] ∧ x.stamp = 0) ∧
    (x.returnState ≠ none → x.state = .suspended) ∧
    (x.recheck = true → x.state = .suspended ∧ s.pins.coverOpen = false) ∧
    (x.cancelled ≠ [] → x.state = .halted)

end Sys2Proof.Safety
end

