-- ==== Sys2Proof/Certificates/Slice0/Obligations.lean ====
section
/-! DEFINITION. The statements for the provers, block by block. `Takes c s u` says that the parser's next take in `s`
completes the item `c`, leaving `u` before its owner acts; `runOut` after it is the end of formats that have run out
(R19), which changes the parser's mode and source stack alone. `HeldSyncLaw` is a law every step keeps. -/

open Sys2Proof Sys2Proof.Machine Sys2Proof.Safety

/-! ### The queue and the system -/

/-- The step of a block: the front command is carried out on the state with the queue's rest. That an empty queue idles
is the model's choice (log entry 2). -/
def Obligations.StepRunsTheFrontCommand : Prop :=
  (∀ (c : Instr) (rest : List Instr) (s : State),
      step { s with pending := c :: rest } = exec c { s with pending := rest }) ∧
    ∀ s : State, step { s with pending := [] } = .next { s with pending := [] }

/-- No command faults or is refused, and none touches the queue. The manual gives every step an effect where it comes;
that a step the part's state does not offer (a timer's expiry with the timer not running, a take with nothing to take)
changes nothing and still answers a next state is the model's choice (log entry 1, DESIGN CHOICE). -/
def Obligations.EveryCommandAnswersAndKeepsTheQueue : Prop :=
  ∀ (c : Instr) (s : State), AnswersWith (exec c s) fun t => t.pending = s.pending

/-- RESET leaves every block at the values that its chapter gives for after reset, and READY and the attention line
deasserted; the input levels and the queue of commands stay as they are. -/
def Obligations.ResetGivesTheResetState : Prop :=
  ∀ s : State, AnswersWith (exec .reset s) fun t =>
    t.pins = { s.pins with resetLine := true } ∧ t.pending = s.pending ∧ t.attention = false ∧
      t.intake.fifo = [] ∧ t.intake.ready = false ∧ t.intake.errors = 0 ∧ t.intake.position = .ground ∧
      t.intake.mode = .execute ∧ t.intake.sources = [] ∧
      (∀ i, t.formats.format i = none) ∧ t.formats.memory = [] ∧
      t.composer.phase = .idle ∧ t.composer.word = ⟨[], [], false⟩ ∧ t.composer.adjust = 0 ∧
      t.composer.columnMark = false ∧ t.composer.noHyphenate = false ∧ t.composer.counter = 0 ∧
      t.composer.ladder = 0 ∧ t.composer.manualKern = 0 ∧ t.composer.stack = [] ∧
      t.composer.params.font = none ∧ t.composer.params.size = 20 ∧ t.composer.params.lead = 24 ∧
      t.composer.params.measure = 576 ∧ t.composer.params.left = 0 ∧ t.composer.params.right = 0 ∧
      t.composer.params.quad = .justify ∧ t.composer.params.lastQuad = .left ∧
      t.composer.params.spaceMin = 16 ∧ t.composer.params.spaceNormal = 24 ∧ t.composer.params.spaceMax = 40 ∧
      t.composer.params.track = 0 ∧ t.composer.params.letterspace = 0 ∧ t.composer.params.kerning = true ∧
      t.composer.params.hyphenation = true ∧ t.composer.params.threshold = 2 ∧ t.composer.params.leftMin = 2 ∧
      t.composer.params.rightMin = 3 ∧ t.composer.params.ladderLimit = 3 ∧ t.composer.params.capitals = false ∧
      t.dict = [] ∧ (∀ f, t.tables.entry f = none) ∧
      (∀ k, (t.tables.widthSlot k).valid = false ∧ (t.tables.widthSlot k).codeMapLoaded = false ∧
        (t.tables.widthSlot k).widthsLoaded = false ∧ (t.tables.widthSlot k).infoLoaded = false ∧
        (∀ i, tabGet (t.tables.widthSlot k).codeMap none i = none) ∧
        (∀ i, tabGet (t.tables.widthSlot k).widths 0 i = 0) ∧
        (∀ i, tabGet (t.tables.widthSlot k).kernClasses 0 i = 0) ∧
        (∀ i, tabGet (t.tables.widthSlot k).kernPairs 0 i = 0) ∧
        ∀ i, tabGet (t.tables.widthSlot k).info 0 i = 0) ∧
      t.tables.hasLens = false ∧ (∀ k, tabGet t.tables.lenses 0 k = 0) ∧
      (∀ c : Byte, 0x20 ≤ c.toNat → t.tables.classOf c = ⟨0, false, c⟩) ∧ (∀ i, tabGet t.tables.rules 0 i = 0) ∧
      (∀ tab, t.tables.locks.get tab = false) ∧ t.tables.waiting = none ∧ t.tables.reason = .none ∧
      (∀ i, (t.store.slot i).state = .free ∧ (t.store.record i).discard = false) ∧ t.store.ready = [] ∧
      t.store.awaiting = [] ∧ t.store.lastClosed = none ∧
      t.imager.state = .homing ∧ t.imager.returnState = none ∧ t.imager.disc = .stopped ∧ t.imager.mounted = 0 ∧
      t.imager.ring = 0 ∧ t.imager.turret = none ∧ t.imager.carriage = none ∧ t.imager.stamp = 0 ∧
      t.imager.history = [] ∧ t.imager.window = 8 ∧ t.imager.most = 3 ∧ t.imager.pendingLamp = none ∧
      t.imager.line = none ∧ t.imager.coverNote = false ∧ t.imager.carriageMove = none ∧
      t.imager.turretStep = none ∧ t.imager.ringSettling = false ∧ t.imager.confirmWindow = false ∧
      t.imager.recheck = false ∧ t.imager.cancelled = [] ∧
      t.film.f = 0 ∧ t.film.h = 0 ∧ t.film.floor = 0 ∧ t.film.l = 0 ∧ t.film.a = 0 ∧ t.film.held = none ∧
      t.film.deferred = false ∧
      t.film.transport = (if s.pins.cassetteIn then Transport.filmOut else Transport.noCassette) ∧
      t.proof.mode = .off ∧ t.proof.policy = .skip ∧ t.proof.queue = [] ∧ t.proof.gap = 0 ∧ t.proof.port = .idle ∧
      t.proof.printLine = 0 ∧ t.proof.printByte = 0 ∧
      t.proof.printer = (if s.pins.select then Printer.online else Printer.offline true) ∧
      t.log.unread = 0 ∧ t.log.write = 0 ∧ t.log.read = 0 ∧ (∀ i, tabGet t.log.ring none i = none) ∧
      t.reply.pending = 0 ∧ t.reply.mask = 0x09FC00#24 ∧ t.reply.queue = [] ∧ t.reply.markers = [] ∧
      t.reply.held = none ∧ t.reply.begun = 0

/-- RESET_END: READY asserted; HOMING begun with the carriage driven to 0 and the turret stepped unless the detent is
there, or SUSPENDED with COVER OPEN (R3, R125, R126). That a turret found at its detent is in position at once, and the
first step counts as step 1 of the 11, is log entry 18 (DESIGN CHOICE). -/
def Obligations.ResetEndBeginsHoming : Prop :=
  ∀ (detent : Bool) (s : State), s.pins.resetLine = true → s.imager = Imager.reset →
    let u : State :=
      { s with pins := { s.pins with resetLine := false }, intake := { s.intake with ready := true } }
    (s.pins.coverOpen = true →
      exec (.resetEnd detent) s =
        .next (posted .coverOpen
          { u with imager := { u.imager with state := .suspended, returnState := some .homing } })) ∧
    (s.pins.coverOpen = false → s.film.transport ≠ .fault →
      exec (.resetEnd detent) s =
        .next { u with imager := { u.imager with
          state := .homing
          carriageMove := some 0
          turret := if detent then some 0 else none
          turretStep := if detent then none else some .ascending
          homingSteps := if detent then 0 else 1 } })

/-- While RESET is asserted nothing but its end moves the part: every block stays in its reset state, and only the
input levels that are seen change. That a switch event under reset changes its level and the reset state that follows
it alone is log entry 27 (DEDUCED). -/
def Obligations.StepsUnderResetKeepTheResetState : Prop :=
  ∀ (c : Instr) (s t : State), ResetLaw s → exec c s = .next t → ResetLaw t

/-! ### Intake and formats -/

/-- A frame (R1 to R3): good when its stop bit is there and its nine bits hold an even number of ones. -/
def Obligations.FrameIsOfferedToTheFifo : Prop :=
  ∀ (data : Byte) (parity stop : Bool) (s : State), s.pins.resetLine = false →
    let good := stop = true ∧ (((List.range 8).map fun i => (data.getLsbD i).toNat).sum + parity.toNat) % 2 = 0
    AnswersWith (exec (.frameReceived data parity stop) s) fun t =>
      (s.intake.fifo.length < 64 → good → t.intake.fifo = s.intake.fifo ++ [.plain data]) ∧
      (s.intake.fifo.length < 64 → ¬good → t.intake.fifo = s.intake.fifo ++ [.damaged]) ∧
      (64 ≤ s.intake.fifo.length → t.intake.fifo = s.intake.fifo ∧ t.intake.ready = s.intake.ready) ∧
      (s.intake.fifo.length < 47 → 16 ≤ s.intake.fifo.length → t.intake.ready = s.intake.ready) ∧
      (47 ≤ s.intake.fifo.length → s.intake.fifo.length < 64 → t.intake.ready = false) ∧
      (good → t.intake.errors = s.intake.errors) ∧
      (¬good → t.intake.errors = if s.intake.errors < 255 then s.intake.errors + 1 else s.intake.errors) ∧
      (t.reply.pending =
        s.reply.pending ||| (if good then 0 else 1#24) ||| (if 64 ≤ s.intake.fifo.length then 2#24 else 0)) ∧
      { t with intake := s.intake, reply := s.reply } = s ∧
      { t.intake with fifo := s.intake.fifo, ready := s.intake.ready, errors := s.intake.errors } = s.intake ∧
      { t.reply with pending := s.reply.pending } = s.reply

/-- PARSER_TAKE takes one entry that completes no item to deliver (R4 to R9, R15, R16, R20). In GROUND an unknown code is
discarded with UNKNOWN CODE and 1Ch awaits a number; in NUMBER an unknown number is discarded so, and a known one awaits
its bytes; in PARAMETER every byte is a parameter byte, a LOAD's data going into the staging buffer in EXECUTE at depth 0
alone, and its count clamped as it is announced. A damaged code abandons what was half taken. A complete item is set
aside where the mode or the depth keeps it from its owner. That the clamp of a LOAD count in DEFINE DISCARD posts
nothing is log entry 14 (DEDUCED). -/
def Obligations.ParserTakesOneEntry : Prop :=
  ∀ (e : Entry) (s u : State), NextEntry s e u →
    (u.intake.position = .ground → ∀ b, e = .plain b →
      (b = 0x1C → exec .parserTake s = .next (State.runOut (atPosition u .number))) ∧
      (b ≠ 0x1C → (∀ c, ¬SingleItem b c) → exec .parserTake s = .next (State.runOut (posted .unknownCode u))) ∧
      ∀ c t, SingleItem b c → SetAside u false [b] t → exec .parserTake s = .next t.runOut) ∧
    (u.intake.position = .number → ∀ b, e = .plain b →
      ((∀ n, (b, n) ∉ catalogue) →
        exec .parserTake s = .next (State.runOut (posted .unknownCode (atPosition u .ground)))) ∧
      (∀ n, (b, n + 1) ∈ catalogue →
        exec .parserTake s = .next (State.runOut (atPosition u (.parameter b [] (n + 1))))) ∧
      ∀ t, (b, 0) ∈ catalogue → b ≠ 0x1B → SetAside u (b == 0x24 || b == 0x35) [0x1C, b] t →
        exec .parserTake s = .next t.runOut) ∧
    (∀ num taken n, u.intake.position = .parameter num taken n → ∀ b, e = .plain b →
      let all := taken ++ [b]
      let ident := (all[0]?).getD 0
      let size := if ident = 0x60 then 3 else if ident = 0x62 then 2 else 1
      let sent := (((all[3]?).getD 0) ++ ((all[4]?).getD 0) : Word16).toNat
      let header : Bool := num = 0x20 ∧ all.length = 6
      let announced :=
        if header then min sent (512 / size) * size + 1
        else if (num = 0x22 ∨ num = 0x23) ∧ taken = [] then b.toNat
        else 0
      let left := n - 1 + announced
      let direct := u.intake.mode = .execute ∧ u.intake.sources = []
      let data := num = 0x20 ∧ 6 ≤ taken.length ∧ 2 ≤ n ∧ direct
      let staged : State := { u with tables := { u.tables with
        staging := if data then u.tables.staging.setIfInBounds (taken.length - 6) b else u.tables.staging } }
      let noted := if header = true ∧ u.intake.mode = .execute ∧ 512 / size < sent then posted .parameterClamped staged
        else staged
      (left ≠ 0 → exec .parserTake s = .next (State.runOut (atPosition noted (.parameter num all left)))) ∧
      ∀ c t, left = 0 → CommandOf num all c →
        SetAside noted (num == 0x20 || num == 0x21 || num == 0x22 || num == 0x23) (0x1C :: num :: all) t →
        exec .parserTake s = .next t.runOut) ∧
    (e = .damaged → (u.intake.position ≠ .ground ∨ u.intake.mode ≠ .execute) →
      exec .parserTake s = .next (State.runOut (atPosition u .ground)))

/-- Every item of the stream reaches its owner by the take of its last byte (R4 to R7, R9, R10, R17): a text code or a
control code in GROUND, a damaged code there, a command without parameter bytes in NUMBER, any other with its last
parameter byte, END DEFINE in whatever mode it arrives. The commands that no format carries out (R20) do so from the
link. While an owner holds an item nothing is taken (R10). -/
def Obligations.ParserDeliversInStreamOrder : Prop :=
  (∀ (e : Entry) (s u : State), NextEntry s e u →
      (u.intake.position = .ground → u.intake.mode = .execute →
        (∀ b c, e = .plain b → SingleItem b c → Takes c s u) ∧ (e = .damaged → Takes .damagedCode s u)) ∧
      (u.intake.position = .number → ∀ b, e = .plain b →
        (∀ c, u.intake.mode = .execute → BareCommand b c → (b ≠ 0x24 ∧ b ≠ 0x35) ∨ u.intake.sources = [] →
          Takes c s (atPosition u .ground)) ∧
        (b = 0x1B → Takes .endDefine s (atPosition u .ground))) ∧
      ∀ num taken b c, u.intake.position = .parameter num taken 1 → e = .plain b → u.intake.mode = .execute →
        CommandOf num (taken ++ [b]) c → (num = 0x22 ∨ num = 0x23 → taken = [] → b = 0) →
        num ∉ [0x20#8, 0x21, 0x22, 0x23] ∨ u.intake.sources = [] →
        Takes c s (atPosition u .ground)) ∧
    ∀ (c : Instr) (s u : State), s.holding = true → ¬Takes c s u

/-- DEFINE, END DEFINE and CALL (R14, R17, R18): the checks, what is freed and recorded, and the source stack. Freeing a
format takes its bytes out of format memory and moves those above it down (R13). A format ends only between items, in GROUND,
and only when its bytes have run out; then every format at the top of the stack that has run out ends with it, and a DEFINE
DISCARD mode ends with the first of them; at depth 0 nothing ends, and nothing while an owner holds an item (R19). -/
def Obligations.StoredFormatsAreDefinedAndCalled : Prop :=
  (∀ (n k : Byte) (s u : State), Takes (.define n k) s u →
      let accepted :=
        n.toNat ≤ 63 ∧ u.intake.sources = [] ∧ (u.tables.locks.formats = false ∨ u.pins.serviceSwitch = true)
      (accepted → exec (.define n k) s =
        .next (State.runOut { u with
          formats := u.formats.free n.toNat
          intake := { u.intake with mode := .define n.toNat (k != 0) 0 } })) ∧
      (¬accepted → exec (.define n k) s =
        .next (State.runOut (posted .formatError { u with intake := { u.intake with mode := .defineDiscard } })))) ∧
    (∀ (fs : FormatStore) (n : Nat),
      (fs.format n = none → fs.free n = fs) ∧
      ∀ d, fs.format n = some d → d.start + d.len ≤ fs.memory.length →
        let gs := fs.free n
        gs.format n = none ∧ gs.memory.length + d.len = fs.memory.length ∧
        (∀ k, k < d.start → gs.memory[k]? = fs.memory[k]?) ∧
        (∀ k, d.start ≤ k → gs.memory[k]? = fs.memory[k + d.len]?) ∧
        ∀ j, j ≠ n →
          (fs.format j = none → gs.format j = none) ∧
          ∀ e, fs.format j = some e →
            gs.format j = some { e with
              start := if d.start + d.len ≤ e.start then e.start - d.len else e.start } ∧
            (e.start + e.len ≤ d.start ∨ d.start + d.len ≤ e.start → gs.bytes j = fs.bytes j)) ∧
    (∀ (s u : State), Takes .endDefine s u →
      (u.intake.mode = .execute → exec .endDefine s = .next (State.runOut (posted .formatError u))) ∧
      (u.intake.mode = .defineDiscard →
        exec .endDefine s = .next (State.runOut { u with intake := { u.intake with mode := .execute } })) ∧
      (∀ n nestable stored, u.intake.mode = .define n nestable stored →
        let start := u.formats.memory.length - stored
        (u.tables.locks.formats = false ∨ u.pins.serviceSwitch = true →
          exec .endDefine s =
            .next (State.runOut { u with
              formats := { u.formats with
                descriptors := u.formats.descriptors.setIfInBounds n (some ⟨start, stored, nestable⟩) }
              intake := { u.intake with mode := .execute } })) ∧
        (u.tables.locks.formats = true → u.pins.serviceSwitch = false →
          exec .endDefine s =
            .next (State.runOut (posted .formatError { u with
              formats := { u.formats with memory := u.formats.memory.take start }
              intake := { u.intake with mode := .execute } }))))) ∧
    (∀ (n : Byte) (s u : State), Takes (.call n) s u →
      let accepted := ∃ d, u.formats.format n.toNat = some d ∧ n.toNat ≤ 63 ∧ u.intake.sources.length < 4 ∧
        (u.intake.sources = [] ∨ d.nestable = true)
      (accepted → exec (.call n) s =
        .next (State.runOut { u with intake := { u.intake with sources := ⟨n.toNat, 0⟩ :: u.intake.sources } })) ∧
      (¬accepted → exec (.call n) s = .next (State.runOut (posted .formatError u)))) ∧
  (∀ s : State, s.intake.sources = [] → s.runOut = s) ∧
    (∀ s : State, s.holding = true → s.runOut = s) ∧
    (∀ s : State, s.intake.position ≠ .ground → s.runOut = s) ∧
    ∀ (s : State) (ended below : List Source), s.holding = false → s.intake.position = .ground →
      s.intake.sources = ended ++ below →
      (∀ x ∈ ended, (s.formats.bytes x.format).length ≤ x.offset) →
      (∀ x, below.head? = some x → x.offset < (s.formats.bytes x.format).length) →
      s.runOut = { s with intake := { s.intake with
        sources := below
        mode := if ended ≠ [] ∧ s.intake.mode = .defineDiscard then .execute else s.intake.mode } }

/-! ### Typographic parameters -/

/-- The typographic commands that set values of their own range (R11, R12, R22): the new values, and nothing else but
PARAMETER CLAMPED. -/
def Obligations.TypographicCommandsSetTheirParameters : Prop :=
  ∀ s u : State,
    let p := u.composer.params
    (∀ h, Takes (.size h) s u → exec (.size h) s =
      .next (State.runOut (clampNote (decide (8 ≤ h.toNat ∧ h.toNat ≤ 192))
        (withParameters u { p with size := max 8 (min 192 h.toNat) })))) ∧
    (∀ n, Takes (.lead n) s u → exec (.lead n) s =
      .next (State.runOut (clampNote (decide (n.toNat ≤ 400))
        (withParameters u { p with lead := min 400 n.toNat })))) ∧
    (∀ n, Takes (.letterspace n) s u → exec (.letterspace n) s =
      .next (State.runOut (clampNote (decide (n.toNat ≤ 20))
        (withParameters u { p with letterspace := min 20 n.toNat })))) ∧
    (∀ n, Takes (.track n) s u → exec (.track n) s =
      .next (State.runOut (clampNote (decide (-16 ≤ n.toInt ∧ n.toInt ≤ 16))
        (withParameters u { p with track := max (-16) (min 16 n.toInt) })))) ∧
    (∀ n, Takes (.manualKern n) s u → exec (.manualKern n) s =
      .next (State.runOut (clampNote (decide (-48 ≤ n.toInt ∧ n.toInt ≤ 47))
        { u with composer := { u.composer with manualKern := max (-48) (min 47 n.toInt) } }))) ∧
    (∀ k, Takes (.kerning k) s u → exec (.kerning k) s =
      .next (State.runOut (withParameters u { p with kerning := k != 0 }))) ∧
    (∀ k n, Takes (.hyphenation k n) s u → exec (.hyphenation k n) s =
      .next (State.runOut (clampNote (decide (1 ≤ n.toNat ∧ n.toNat ≤ 3))
        (withParameters u { p with hyphenation := k != 0, threshold := max 1 (min 3 n.toNat) })))) ∧
    (∀ l r d k, Takes (.hyphenLimits l r d k) s u → exec (.hyphenLimits l r d k) s =
      .next (State.runOut (clampNote
        (decide (1 ≤ l.toNat ∧ l.toNat ≤ 7 ∧ 1 ≤ r.toNat ∧ r.toNat ≤ 7 ∧ d.toNat ≤ 7))
        (withParameters u { p with
          leftMin := max 1 (min 7 l.toNat), rightMin := max 1 (min 7 r.toNat), ladderLimit := min 7 d.toNat
          capitals := k != 0 })))) ∧
    (∀ (m l : Byte) (qm ql : Quad), Takes (.quad m l) s u →
      (m = 0 → qm = .justify) → (m = 1 → qm = .left) → (m = 2 → qm = .right) → (m = 3 → qm = .centre) →
      (3 < m.toNat → qm = .justify) →
      (l = 0 → ql = .justify) → (l = 1 → ql = .left) → (l = 2 → ql = .right) → (l = 3 → ql = .centre) →
      (3 < l.toNat → ql = .justify) →
      exec (.quad m l) s =
        .next (State.runOut (clampNote (decide (m.toNat ≤ 3 ∧ l.toNat ≤ 3))
          (withParameters u { p with quad := qm, lastQuad := ql }))))

/-- MEASURE and INDENT keep 24 half-points of measure between the indents, reducing the right indent first (R23);
SPACEBAND raises its maximum to the minimum, then brings the normal between them (R24). -/
def Obligations.RelatedParametersAreBroughtIntoRelation : Prop :=
  ∀ s u : State,
    let p := u.composer.params
    let settle (m l r : Nat) : Nat × Nat :=
      let r' := if l + r + 24 ≤ m then r else m - 24 - l
      (if l + r' + 24 ≤ m then l else m - 24, r')
    (∀ n, Takes (.measure n) s u →
      let m := max 24 (min 1680 n.toNat)
      let lr := settle m p.left p.right
      exec (.measure n) s =
        .next (State.runOut (clampNote (decide (24 ≤ n.toNat ∧ n.toNat ≤ 1680 ∧ lr = (p.left, p.right)))
          (withParameters u { p with measure := m, left := lr.1, right := lr.2 })))) ∧
    (∀ l r, Takes (.indent l r) s u → 24 ≤ p.measure →
      let l' := min 1680 l.toNat
      let r' := min 1680 r.toNat
      let lr := settle p.measure l' r'
      exec (.indent l r) s =
        .next (State.runOut (clampNote (decide (l.toNat ≤ 1680 ∧ r.toNat ≤ 1680 ∧ lr = (l', r')))
          (withParameters u { p with left := lr.1, right := lr.2 })))) ∧
    ∀ a b c, Takes (.spaceband a b c) s u →
      let lo := min 96 a.toNat
      let top := max lo (min 96 c.toNat)
      let mid := max lo (min top (min 96 b.toNat))
      exec (.spaceband a b c) s =
        .next (State.runOut (clampNote
          (decide (a.toNat ≤ 96 ∧ b.toNat ≤ 96 ∧ c.toNat ≤ 96 ∧ a.toNat ≤ b.toNat ∧ b.toNat ≤ c.toNat))
          (withParameters u { p with spaceMin := lo, spaceNormal := mid, spaceMax := top })))

/-- FONT selects a settable font number and refuses any other with NOT SETTABLE (R30). -/
def Obligations.FontIsSelectedOnlyWhenSettable : Prop :=
  ∀ (n : Byte) (s u : State), Takes (.font n) s u →
    let f := min 63 n.toNat
    let settable := ∃ e, u.tables.entry f = some e ∧ (u.tables.widthSlot e.slot).codeMapLoaded = true ∧
      (u.tables.widthSlot e.slot).widthsLoaded = true ∧ (u.tables.widthSlot e.slot).infoLoaded = true
    (settable → exec (.font n) s =
      .next (State.runOut (clampNote (decide (n.toNat ≤ 63))
        (withParameters u { u.composer.params with font := some f })))) ∧
    (¬settable → exec (.font n) s =
      .next (State.runOut (clampNote (decide (n.toNat ≤ 63)) (posted .notSettable u))))

/-- SAVE pushes a frame of its mask and the current values of the groups the mask selects, or is refused with STACK
ERROR at 8 frames; it changes nothing else, and a frame of mask 0 restores nothing (R33). -/
def Obligations.SavePushesTheSelectedGroups : Prop :=
  (∀ (m : Byte) (s u : State), Takes (.save m) s u →
    let p := u.composer.params
    let frame : Frame :=
      { mask := m
        font := if m.getLsbD 0 then some p.font else none
        size := if m.getLsbD 1 then some p.size else none
        lead := if m.getLsbD 2 then some p.lead else none
        measure := if m.getLsbD 3 then some (p.measure, p.left, p.right) else none
        quad := if m.getLsbD 4 then some (p.quad, p.lastQuad) else none
        spacing :=
          if m.getLsbD 5 then some (p.spaceMin, p.spaceNormal, p.spaceMax, p.track, p.letterspace) else none
        hyphenation :=
          if m.getLsbD 6 then
            some (p.hyphenation, p.threshold, p.leftMin, p.rightMin, p.ladderLimit, p.capitals) else none
        kerning := if m.getLsbD 7 then some p.kerning else none }
    (u.composer.stack.length < 8 → exec (.save m) s =
      .next (State.runOut { u with composer := { u.composer with stack := frame :: u.composer.stack } })) ∧
    (8 ≤ u.composer.stack.length → exec (.save m) s = .next (State.runOut (posted .stackError u)))) ∧
  ∀ (m : Byte) (s u : State) (p : Params) (rest : List Frame), Takes (.restore m) s u →
    u.composer.stack = p.frame 0 :: rest →
    exec (.restore m) s = .next (State.runOut { u with composer := { u.composer with stack := rest } })

/-- RESTORE pops the top frame; each group that the frame holds and the command selects takes the frame's values, the
font only when it is none or settable; with an empty stack it is refused (R34, R35). -/
def Obligations.RestorePopsAndRestoresSelectedGroups : Prop :=
  ∀ (m : Byte) (s u : State), Takes (.restore m) s u →
    (u.composer.stack = [] → exec (.restore m) s = .next (State.runOut (posted .stackError u))) ∧
    ∀ (f : Frame) (rest : List Frame), u.composer.stack = f :: rest →
      AnswersWith (exec (.restore m) s) fun t =>
        let p := u.composer.params
        let q := t.composer.params
        t.composer = { u.composer with params := q, stack := rest } ∧
        (q.font = match m.getLsbD 0, f.font with
          | true, some none => none
          | true, some (some n) => if u.tables.settable n then some n else p.font
          | _, _ => p.font) ∧
        q.size = (if m.getLsbD 1 then f.size.getD p.size else p.size) ∧
        q.lead = (if m.getLsbD 2 then f.lead.getD p.lead else p.lead) ∧
        (q.measure, q.left, q.right) =
          (if m.getLsbD 3 then f.measure.getD (p.measure, p.left, p.right) else (p.measure, p.left, p.right)) ∧
        (q.quad, q.lastQuad) = (if m.getLsbD 4 then f.quad.getD (p.quad, p.lastQuad) else (p.quad, p.lastQuad)) ∧
        (q.spaceMin, q.spaceNormal, q.spaceMax, q.track, q.letterspace) =
          (if m.getLsbD 5 then f.spacing.getD (p.spaceMin, p.spaceNormal, p.spaceMax, p.track, p.letterspace)
            else (p.spaceMin, p.spaceNormal, p.spaceMax, p.track, p.letterspace)) ∧
        (q.hyphenation, q.threshold, q.leftMin, q.rightMin, q.ladderLimit, q.capitals) =
          (if m.getLsbD 6 then
            f.hyphenation.getD (p.hyphenation, p.threshold, p.leftMin, p.rightMin, p.ladderLimit, p.capitals)
            else (p.hyphenation, p.threshold, p.leftMin, p.rightMin, p.ladderLimit, p.capitals)) ∧
        q.kerning = (if m.getLsbD 7 then f.kerning.getD p.kerning else p.kerning) ∧
        t.reply = { u.reply with pending := u.reply.pending |||
          (match m.getLsbD 0, f.font with
            | true, some (some n) => if u.tables.settable n then 0 else 128#24
            | _, _ => 0) } ∧
        { t with composer := u.composer, reply := u.reply, intake := u.intake } = u

/-! ### Setting a line -/

/-- A code that would set something and cannot be set is discarded with NOT SETTABLE; DISCRETIONARY HYPHEN, KILL LINE
and END LINE are not checked (R31). -/
def Obligations.CodesThatSetAreCheckedAtTheTake : Prop :=
  (∀ (c : Instr) (s u : State), Takes c s u → ((∃ code, SetsGlyph c code) ∨ ∃ kind, SetsSpace c kind) → ¬CanSet u →
    exec c s = .next (State.runOut (posted .notSettable u))) ∧
  ∀ (s u : State), u.composer.phase = .idle → u.composer.word.glyphs = [] →
    (Takes .discretionaryHyphen s u → exec .discretionaryHyphen s = .next u.runOut) ∧
    (Takes .killLine s u → exec .killLine s = .next u.runOut) ∧
    (∀ i, Takes .endLine s u → LowestFree u i →
      AnswersWith (exec .endLine s) fun t => t.store.ready = u.store.ready ++ [i])

/-- A glyph set on the open line (R25, R62 to R65, R69): the lens and size, position and role, the pair kern after the
item before it, the origin of R64, the advance, the flags of the line, and in OPEN the overflow test of R65. The 48th
glyph of the word buffer ends the word: in OPEN it settles, in OVERFLOWED the line closes at the break decision (R69,
R71, R75). That a damaged code flags the line DAMAGED and not REJECT is log entry 12 (DEDUCED). -/
def Obligations.CharacterSetsAGlyphOnTheOpenLine : Prop :=
  ∀ (c : Instr) (code : Option Byte) (s u : State) (line : OpenLine) (was : Bool) (font lens hs : Nat) (e : FontEntry),
    SetsGlyph c code → Takes c s u →
    u.composer.phase = (if was then .overflowed line else .opened line) → u.composer.params.font = some font →
    u.tables.entry font = some e → (u.tables.widthSlot e.slot).valid = true →
    u.tables.resolve u.composer.params.size = some (lens, hs) →
    let p := u.composer.params
    let w := u.tables.widthSlot e.slot
    let r := u.store.record line.slot
    let mapped : Option Nat := code.bind fun b => tabGet w.codeMap none (b.toNat - 0x20)
    let position := mapped.getD (tabGet w.info 0 1)
    let role : Role :=
      match mapped, code with
      | some _, some b => if (u.tables.classOf b).cls = 0 then .nonLetter else .letter
      | _, _ => .reject
    let before : Option LineItem :=
      match u.composer.word.glyphs.getLast? with
      | some g => some (.glyph g)
      | none => r.items.getLast?
    let pair : Int :=
      match p.kerning, before with
      | true, some (.glyph h) =>
        if h.font = font ∧ h.hs = hs then
          tabGet w.kernPairs 0 (tabGet w.kernClasses 0 h.position * 16 + tabGet w.kernClasses 0 position)
        else 0
      | _, _ => 0
    let x1 : Int := max 0 (line.x + (u.composer.manualKern + pair) * hs * 5)
    let advance : Nat := (((tabGet w.widths 0 position : Nat) : Int) + p.track).toNat
    let x2 : Int := x1 + advance * hs * 5
    let g : Glyph :=
      { code := code, font := font, disc := e.disc, ring := e.ring, position := position, lens := lens, hs := hs
        x := min ((x1 + 24) / 48).toNat r.mr, role := role, substituted := decide (hs ≠ p.size)
        manualPart := u.composer.manualKern, pairPart := pair, advance := advance, after := x2
        shrinkAt := line.shrink }
    let further : OpenLine := { line with x := x2, glyphs := line.glyphs + 1 }
    let overflow : Bool := was || decide ((r.mr : Int) < (x2 - line.shrink + 24) / 48 ∨ 160 ≤ line.glyphs + 1)
    let begins := u.composer.word.glyphs.isEmpty
    let glyphs := u.composer.word.glyphs ++ [g]
    let flagged : LineRecord := { r with flags := { r.flags with
      sizeSubstituted := r.flags.sizeSubstituted || decide (hs ≠ p.size)
      reject := r.flags.reject || (code.isSome && mapped.isNone)
      damaged := r.flags.damaged || code.isNone } }
    let set : State := { u with
      composer := { u.composer with
        phase := if overflow then .overflowed further else .opened further
        word := if begins then ⟨[g], [], u.composer.noHyphenate⟩ else { u.composer.word with glyphs := glyphs }
        noHyphenate := if begins then false else u.composer.noHyphenate
        manualKern := 0 }
      store := u.store.putRecord line.slot flagged }
    (u.composer.word.glyphs.length < 47 → exec c s = .next set.runOut) ∧
    (u.composer.word.glyphs.length = 47 → line.slot < 8 →
      (overflow = false → exec c s = .next (State.runOut { set with
        composer := { set.composer with word := ⟨[], [], false⟩ }
        store := u.store.putRecord line.slot { flagged with items := r.items ++ glyphs.map LineItem.glyph } })) ∧
      (overflow = true →
        let b : Machine.Word := ⟨glyphs.map (·.code), u.composer.word.marks, u.composer.word.noHyphenate⟩
        let cut := decideBreak u.tables u.dict p u.composer.ladder r.mr (r.items ++ glyphs.map LineItem.glyph) b 0
        let closed := closeRecord p p.quad (positionAfter r.ls cut.kept)
          { flagged with
            items := cut.kept
            flags := { flagged.flags with
              hyphenEnded := flagged.flags.hyphenEnded || cut.hyphenEnded
              forced := flagged.flags.forced || cut.forced
              overset := flagged.flags.overset || cut.overset } }
        AnswersWith (exec c s) fun t =>
          t.store.slot line.slot = ⟨.ready, closed⟩ ∧ u.store.ready ++ [line.slot] <+: t.store.ready))

/-- A character code in IDLE opens a line in the lowest-numbered FREE slot, with the captured number, boundaries, film
adjustment and column mark (R59, R60, R112); with no slot FREE the Composer holds it in WAIT SLOT (R61), and takes it
when a slot is FREE (that the step does nothing before is the model's choice, log entry 1). -/
def Obligations.CharacterOpensALine : Prop :=
  let opens (u : State) (i : Nat) (t : State) : Prop :=
    let p := u.composer.params
    (∃ r, OnlySlot u t i .filling r ∧ r.kind = .text ∧ r.number = u.composer.counter ∧ r.ls = p.left * 10 ∧
      r.mr = (p.measure - p.right) * 10 ∧ r.columnMark = u.composer.columnMark ∧
      r.adjustment = u.composer.adjust ∧ r.items = [] ∧ r.discard = false) ∧
    t.composer.phase.openSlot = some i ∧
    t.composer.word.glyphs.length = 1 ∧ t.composer.counter = (u.composer.counter + 1) % 65536 ∧
    t.composer.adjust = 0 ∧ t.composer.columnMark = false ∧ t.composer.noHyphenate = false ∧
    t.composer.manualKern = 0 ∧ t.composer.ladder = u.composer.ladder ∧ t.composer.params = p ∧
    t.composer.stack = u.composer.stack ∧ t.store.ready = u.store.ready ∧
    { t with composer := u.composer, store := u.store, intake := u.intake } = u
  (∀ (c : Instr) (code : Option Byte) (s u : State), SetsGlyph c code → Takes c s u → u.composer.phase = .idle →
    u.composer.word.glyphs = [] → CanSet u →
      (∀ i, LowestFree u i → AnswersWith (exec c s) (opens u i)) ∧
      (NoneFree u → exec c s = .next { u with composer := { u.composer with phase := .waitSlot (.code c) } })) ∧
  ∀ (c : Instr) (code : Option Byte) (s : State), SetsGlyph c code → s.composer.phase = .waitSlot (.code c) →
    s.composer.word.glyphs = [] → CanSet s →
      (∀ i, LowestFree s i →
        AnswersWith (exec .waitSlotResume s) (opens { s with composer := { s.composer with phase := .idle } } i)) ∧
      (NoneFree s → exec .waitSlotResume s = .next s)

/-- A space ends the word and joins the open line with its three widths (R62, R66 to R69); a justifiable space is
dropped where the line holds no glyph, an interword space after an interword space, and any space after the 160th
with OVERSET (R66); that a space which is dropped anyway sets no OVERSET on a line of 160 spaces is log entry 21 (DEDUCED).
With no line open a justifiable space is dropped, and a fixed space opens a line in the lowest-numbered FREE slot, or waits
for one (R59 to R61). DISCRETIONARY HYPHEN and NO-HYPHENATE mark the word (R70). -/
def Obligations.SpaceJoinsTheOpenLine : Prop :=
  let opens (u : State) (i : Nat) (kind : SpaceKind) (t : State) : Prop :=
    ∀ font lens hs, u.composer.params.font = some font →
      u.tables.resolve u.composer.params.size = some (lens, hs) →
      let p := u.composer.params
      let width : Int := (if kind = .thin then 24 else if kind = .en then 48 else 96) * hs * 5
      let after : Int := p.left * 10 * 48 + width
      t = { u with
        composer := { u.composer with
          phase := .opened ⟨i, after, 0, 0, 0⟩
          adjust := 0
          columnMark := false
          counter := (u.composer.counter + 1) % 65536 }
        store := u.store.putSlot i ⟨.filling, { LineRecord.blank with
          number := u.composer.counter
          ls := p.left * 10
          mr := (p.measure - p.right) * 10
          columnMark := u.composer.columnMark
          adjustment := u.composer.adjust
          flags := { LineFlags.none with sizeSubstituted := decide (hs ≠ p.size) }
          items := [.space { kind := kind, font := font, lens := lens, hs := hs, minimum := width, normal := width
                             maximum := width, extra := 0, after := after }] }⟩ }
  (∀ (c : Instr) (kind : SpaceKind) (s u : State), SetsSpace c kind → Takes c s u → u.composer.phase = .idle →
    CanSet u →
    (kind = .interword ∨ kind = .noBreak → exec c s = .next u.runOut) ∧
    (kind = .thin ∨ kind = .en ∨ kind = .em →
      (∀ i, LowestFree u i → ∃ t, opens u i kind t ∧ exec c s = .next t.runOut) ∧
      (NoneFree u → exec c s = .next { u with composer := { u.composer with phase := .waitSlot (.code c) } }))) ∧
  (∀ (c : Instr) (kind : SpaceKind) (s : State) (i : Nat), SetsSpace c kind → kind = .thin ∨ kind = .en ∨ kind = .em →
    s.composer.phase = .waitSlot (.code c) → CanSet s → LowestFree s i →
    ∃ t, opens { s with composer := { s.composer with phase := .idle } } i kind t ∧
      exec .waitSlotResume s = .next t.runOut) ∧
  (∀ (c : Instr) (kind : SpaceKind) (s u : State) (line : OpenLine) (font lens hs : Nat),
    SetsSpace c kind → Takes c s u → u.composer.phase = .opened line → line.slot < 8 → CanSet u →
    u.composer.params.font = some font → u.tables.resolve u.composer.params.size = some (lens, hs) →
    let p := u.composer.params
    let r := u.store.record line.slot
    let items := r.items ++ u.composer.word.glyphs.map LineItem.glyph
    let afterInterword : Bool :=
      match items.getLast? with
      | some (.space q) => decide (q.kind = .interword)
      | _ => false
    let dropped : Bool :=
      match kind with
      | .interword => decide (line.glyphs = 0) || afterInterword
      | .noBreak => decide (line.glyphs = 0)
      | _ => false
    let widths : Nat × Nat × Nat :=
      match kind with
      | .thin => (24, 24, 24)
      | .en => (48, 48, 48)
      | .em => (96, 96, 96)
      | _ => (p.spaceMin, p.spaceNormal, p.spaceMax)
    let lo : Int := widths.1 * hs * 5
    let mid : Int := widths.2.1 * hs * 5
    let hi : Int := widths.2.2 * hs * 5
    let settled : State := { u with
      composer := { u.composer with word := ⟨[], [], false⟩ }
      store := u.store.putRecord line.slot { r with items := items } }
    (dropped = true → exec c s = .next settled.runOut) ∧
    (dropped = false → 160 ≤ (spacesOf items).length →
      exec c s = .next (State.runOut { settled with
        store := u.store.putRecord line.slot
          { r with items := items, flags := { r.flags with overset := true } } })) ∧
    (dropped = false → (spacesOf items).length < 160 →
      exec c s = .next (State.runOut { settled with
        composer := { settled.composer with
          phase := .opened { line with
            x := line.x + mid, stretch := line.stretch + (hi - mid), shrink := line.shrink + (mid - lo) } }
        store := u.store.putRecord line.slot
          { r with
            items := items ++ [.space
              { kind := kind, font := font, lens := lens, hs := hs, minimum := lo, normal := mid, maximum := hi
                extra := 0, after := line.x + mid }]
            flags := { r.flags with
              sizeSubstituted := r.flags.sizeSubstituted || decide (hs ≠ p.size) } } }))) ∧
  (∀ s u : State, Takes .discretionaryHyphen s u →
    let w := u.composer.word
    exec .discretionaryHyphen s = .next (State.runOut { u with composer := { u.composer with word := { w with
      marks := if w.glyphs = [] ∨ w.glyphs.length ∈ w.marks then w.marks else w.marks ++ [w.glyphs.length] } } })) ∧
  ∀ s u : State, Takes .noHyphenate s u →
    exec .noHyphenate s = .next (State.runOut { u with composer := { u.composer with noHyphenate := true } })

/-- END LINE closes the open line with the quad mode, END PARA with the last-line quad mode and a ladder count of 0:
its record is complete, its slot READY at the tail of the ready list (R28, R77, R82, R102, R103, R114). With no line
open either opens and closes an empty line, whose film move is the lead and the pending film adjustment. -/
def Obligations.EndOfLineClosesTheLine : Prop :=
  ∀ (c : Instr) (s u : State), (c = .endLine ∨ c = .endPara) → Takes c s u → CapacityLaw u →
    let p := u.composer.params
    let quad := if c = .endPara then p.lastQuad else p.quad
    (∀ line, u.composer.phase = .opened line → line.slot < 8 →
      let r := u.store.record line.slot
      let closed :=
        closeRecord p quad line.x { r with items := r.items ++ u.composer.word.glyphs.map LineItem.glyph }
      let f := closed.flags
      exec c s = .next (State.runOut { u with
        composer := { u.composer with
          phase := .idle
          word := ⟨[], [], false⟩
          ladder := if f.hyphenEnded then min 255 (u.composer.ladder + 1) else 0 }
        store := { u.store.putSlot line.slot ⟨.ready, closed⟩ with
          ready := u.store.ready ++ [line.slot], lastClosed := some closed.number }
        reply := { u.reply with pending := u.reply.pending |||
          (if f.overset || f.forced || f.loose || f.sizeSubstituted then 512#24 else 0) } })) ∧
    (u.composer.phase = .idle →
      (∀ i, LowestFree u i →
        AnswersWith (exec c s) fun t =>
          (∃ r, OnlySlot u t i .ready r ∧ r.kind = .text ∧ r.number = u.composer.counter ∧ r.quad = quad ∧
            r.items = [] ∧ r.filmMove = (p.lead : Int) * 10 + u.composer.adjust ∧
            r.columnMark = u.composer.columnMark ∧ r.flags = .none) ∧
          t.store.ready = u.store.ready ++ [i] ∧ t.store.lastClosed = some u.composer.counter ∧
          t.composer = { u.composer with
            word := ⟨[], [], false⟩, adjust := 0, columnMark := false, ladder := 0
            counter := (u.composer.counter + 1) % 65536 } ∧
          { t with composer := u.composer, store := u.store, intake := u.intake } = u) ∧
      (NoneFree u → exec c s = .next { u with composer := { u.composer with phase := .waitSlot (.code c) } }))

/-- CUT and STOP DISC open and close a record of their own in the lowest-numbered FREE slot, after closing an open
line with the last-line quad mode (R85, R86): a CUT record takes the pending adjustment and mark and adds no lead; a
STOP record takes neither. -/
def Obligations.CutAndStopOpenAndCloseARecord : Prop :=
  ∀ (s u : State) (c : Instr), (c = .cut ∨ c = .stopDisc) → Takes c s u →
    (u.composer.phase = .idle → ∀ i, LowestFree u i →
      AnswersWith (exec c s) fun t =>
        (∃ r, OnlySlot u t i .ready r ∧ r.number = u.composer.counter ∧ r.items = [] ∧ r.flags = .none ∧
          (c = .cut → r.kind = .cut ∧ r.filmMove = u.composer.adjust ∧ r.columnMark = u.composer.columnMark) ∧
          (c = .stopDisc → r.kind = .stop ∧ r.filmMove = 0 ∧ r.columnMark = false)) ∧
        t.store.ready = u.store.ready ++ [i] ∧
        t.composer = { u.composer with
          adjust := if c = .cut then 0 else u.composer.adjust
          columnMark := if c = .cut then false else u.composer.columnMark
          counter := (u.composer.counter + 1) % 65536 } ∧
        { t with composer := u.composer, store := u.store, intake := u.intake } = u) ∧
    (u.composer.phase = .idle → NoneFree u →
      exec c s = .next { u with composer := { u.composer with phase := .waitSlot (.code c) } }) ∧
    ∀ line i, u.composer.phase = .opened line → line.slot < 8 → line.slot ≠ i → LowestFree u i →
      (u.store.slot line.slot).state = .filling →
      AnswersWith (exec c s) fun t =>
        t.store.ready = u.store.ready ++ [line.slot, i] ∧
        (t.store.slot line.slot).state = .ready ∧ (t.store.record line.slot).quad = u.composer.params.lastQuad ∧
        (t.store.slot i).state = .ready ∧ (t.store.record i).number = u.composer.counter ∧
        (t.store.record i).kind = (if c = .cut then .cut else .stop)

/-- KILL LINE frees the open line's slot and gives back its number, its film adjustment and its column mark; in IDLE it
does nothing (R87). CLEAR kills the open line, marks every READY line for discard and resets the parameters, the stack
and the Composer's pending state, its counter apart (R37, R88, R118). That a freed slot holds the blank record is log
entry 28 (DEDUCED). -/
def Obligations.KillLineAndClear : Prop :=
  (∀ (s u : State) (line : OpenLine), Takes .killLine s u →
    (u.composer.phase = .opened line ∨ u.composer.phase = .overflowed line) →
    let r := u.store.record line.slot
    let sum := u.composer.adjust + r.adjustment
    exec .killLine s = .next (State.runOut { u with
      composer := { u.composer with
        phase := .idle
        word := ⟨[], [], false⟩
        adjust := max (-14400) (min 14400 sum)
        columnMark := u.composer.columnMark || r.columnMark
        counter := r.number }
      store := { u.store.putSlot line.slot ⟨.free, .blank⟩ with
        awaiting := u.store.awaiting.filter (· != line.slot) }
      reply := { u.reply with
        pending := u.reply.pending ||| (if -14400 ≤ sum ∧ sum ≤ 14400 then 0 else 8#24) } })) ∧
  (∀ s u : State, Takes .killLine s u → u.composer.phase = .idle → exec .killLine s = .next u.runOut) ∧
  ∀ s u : State, Takes .clear s u →
    let marked (st : Store) : Store := { st with slots := st.slots.map fun x =>
      if x.state = .ready then { x with record := { x.record with discard := true } } else x }
    let note : Word24 :=
      if ∃ x ∈ u.store.slots.toList, x.state = .ready ∧ x.record.discard = false then 0x800000 else 0
    (u.composer.phase = .idle →
      exec .clear s = .next (State.runOut { u with
        composer := { Composer.reset with counter := u.composer.counter }
        store := marked u.store
        reply := { u.reply with pending := u.reply.pending ||| note } })) ∧
    ∀ line, (u.composer.phase = .opened line ∨ u.composer.phase = .overflowed line) →
      (u.store.slot line.slot).state = .filling →
      let r := u.store.record line.slot
      let sum := u.composer.adjust + r.adjustment
      exec .clear s = .next (State.runOut { u with
        composer := { Composer.reset with counter := r.number }
        store := marked { u.store.putSlot line.slot ⟨.free, .blank⟩ with
          awaiting := u.store.awaiting.filter (· != line.slot) }
        reply := { u.reply with pending :=
          u.reply.pending ||| (if -14400 ≤ sum ∧ sum ≤ 14400 then 0 else 8#24) ||| note } })

/-- A code that ends the word in OVERFLOWED brings the break decision: the line closes with the items the decision
keeps and its flags, and what is carried goes to a new line in the lowest-numbered FREE slot, or waits with the code when
none is FREE (R71, R75, R60, R61); with nothing carried the code is processed with no line open (R75). The new line has the counter's number and the boundaries, film adjustment and column mark
in force; it holds the carry placed afresh, and the ending code is processed on it; where the carry overflows it, it closes
at a break decision of its own, on the whole word's candidates after the glyphs that went to earlier lines (R76). A carry
held in WAIT SLOT goes the same way once a slot is FREE. The carry is placed item by item: each glyph with its kept kern and
advance, the first of the line without its pair kern, a no-break space before it dropped (R64, R67, R76). That the new line takes no
flag of the items carried, and none but the OVERSET of a space dropped, is log entry 11 (DEDUCED). -/
def Obligations.BreakDecisionClosesTheOverflowedLine : Prop :=
  let carriedTo (u : State) (ladder : Nat) (carried : List LineItem) (w : Machine.Word) (gone : Nat)
      (before : List Nat) (j : Nat) (ending : Option Instr) (t : State) : Prop :=
    let p := u.composer.params
    let ls := p.left * 10
    let mr := (p.measure - p.right) * 10
    let f := refill ls mr carried
    let filled : LineRecord := { LineRecord.blank with
      number := u.composer.counter, ls := ls, mr := mr, columnMark := u.composer.columnMark
      adjustment := u.composer.adjust, items := f.items, flags := { LineFlags.none with overset := f.overset } }
    let cut := decideBreak u.tables u.dict p ladder mr f.items w gone
    (f.overflowed = true → before ++ [j] <+: t.store.ready ∧
      t.store.slot j = ⟨.ready, closeRecord p p.quad (positionAfter ls cut.kept) { filled with
        items := cut.kept
        flags := { LineFlags.none with
          hyphenEnded := cut.hyphenEnded, forced := cut.forced, overset := f.overset || cut.overset } }⟩) ∧
    (f.overflowed = false →
      (ending = none → t.store.slot j = ⟨.filling, filled⟩ ∧ t.store.ready = before ∧
        t.composer.phase = .opened ⟨j, f.x, f.stretch, f.shrink, f.glyphs⟩) ∧
      (ending = some .endLine ∨ ending = some .endPara →
        t.store.slot j =
          ⟨.ready, closeRecord p (if ending = some .endPara then p.lastQuad else p.quad) f.x filled⟩ ∧
        t.store.ready = before ++ [j] ∧ t.composer.phase = .idle) ∧
      (ending = some .cut ∨ ending = some .stopDisc →
        t.store.slot j = ⟨.ready, closeRecord p p.lastQuad f.x filled⟩ ∧ before ++ [j] <+: t.store.ready) ∧
      (∀ c kind, ending = some c → SetsSpace c kind → CanSet u → f.glyphs ≠ 0 → (spacesOf f.items).length < 160 →
        (t.store.slot j).state = .filling ∧ t.store.ready = before ∧
        ∃ q l, (t.store.record j).items = f.items ++ [LineItem.space q] ∧ q.kind = kind ∧ q.after = f.x + q.normal ∧
          t.composer.phase = .opened l ∧ l.slot = j ∧ l.x = q.after ∧ l.glyphs = f.glyphs))
  (∀ (c : Instr) (s u : State) (line : OpenLine), Takes c s u →
    (c = .endLine ∨ c = .endPara ∨ c = .cut ∨ c = .stopDisc ∨ ∃ kind, SetsSpace c kind ∧ CanSet u) →
    u.composer.phase = .overflowed line → line.slot < 8 → (u.store.slot line.slot).state = .filling →
    let p := u.composer.params
    let r := u.store.record line.slot
    let b := u.composer.word
    let w : Machine.Word := ⟨b.glyphs.map (·.code), b.marks, b.noHyphenate⟩
    let cut :=
      decideBreak u.tables u.dict p u.composer.ladder r.mr (r.items ++ b.glyphs.map LineItem.glyph) w 0
    let closed := closeRecord p p.quad (positionAfter r.ls cut.kept)
      { r with
        items := cut.kept
        flags := { r.flags with
          hyphenEnded := r.flags.hyphenEnded || cut.hyphenEnded
          forced := r.flags.forced || cut.forced
          overset := r.flags.overset || cut.overset } }
    let gone := w.codes.length - min cut.carried.length w.codes.length
    let ladder := if closed.flags.hyphenEnded = true then max u.composer.ladder (min 255 (u.composer.ladder + 1)) else 0
    AnswersWith (exec c s) fun t =>
      t.store.slot line.slot = ⟨.ready, closed⟩ ∧
      u.store.ready ++ [line.slot] <+: t.store.ready ∧
      (NoneFree u → cut.carried ≠ [] →
        t.composer.phase = .waitSlot (.carry ⟨cut.carried, w.codes, w.marks, w.noHyphenate, gone⟩ (some c)) ∧
        t.store.ready = u.store.ready ++ [line.slot]) ∧
      (∀ j, LowestFree u j → cut.carried ≠ [] →
        carriedTo u ladder cut.carried w gone (u.store.ready ++ [line.slot]) j (some c) t) ∧
      (cut.carried = [] →
        let before := u.store.ready ++ [line.slot]
        let ls : Int := p.left * 10
        (c = .interwordSpace ∨ c = .noBreakSpace → t.composer.phase = .idle ∧ t.store.ready = before) ∧
        (c ≠ .interwordSpace → c ≠ .noBreakSpace → NoneFree u →
          t.composer.phase = .waitSlot (.code c) ∧ t.store.ready = before) ∧
        ∀ j, LowestFree u j →
          (c = .endLine ∨ c = .endPara → carriedTo u ladder [] w gone before j (some c) t) ∧
          (c = .cut ∨ c = .stopDisc → t.composer.phase = .idle ∧ t.store.ready = before ++ [j] ∧
            (t.store.slot j).state = .ready ∧ (t.store.record j).number = u.composer.counter ∧
            (t.store.record j).kind = if c = .cut then .cut else .stop) ∧
          (∀ kind, SetsSpace c kind → kind = .thin ∨ kind = .en ∨ kind = .em →
            (t.store.slot j).state = .filling ∧ t.store.ready = before ∧
            ∃ q l, (t.store.record j).items = [LineItem.space q] ∧ q.kind = kind ∧ q.after = ls * 48 + q.normal ∧
              t.composer.phase = .opened l ∧ l.slot = j ∧ l.x = q.after ∧ l.glyphs = 0))) ∧
  (∀ (s : State) (carry : Carry) (ending : Option Instr) (j : Nat),
    s.composer.phase = .waitSlot (.carry carry ending) → LowestFree s j →
    (∀ q ∈ spacesOf carry.items, q.kind ≠ .interword) →
    AnswersWith (exec .waitSlotResume s) (carriedTo s s.composer.ladder carry.items
      ⟨carry.codes, carry.marks, carry.noHyphenate⟩ carry.gone s.store.ready j ending)) ∧
  ∀ (ls mr : Nat) (carried : List LineItem), (∀ q ∈ spacesOf carried, q.kind ≠ .interword) →
    (spacesOf carried).length ≤ 160 →
    let f := refill ls mr carried
    let isGlyph (i : LineItem) : Bool := match i with
      | .glyph _ => true
      | .space _ => false
    let isNoBreak (i : LineItem) : Bool := match i with
      | .glyph _ => false
      | .space q => decide (q.kind = .noBreak)
    let head := carried.takeWhile fun i => !isGlyph i
    let placed := (head.filter fun i => !isNoBreak i) ++ carried.drop head.length
    let shrinks (l : List LineItem) : Int :=
      ((spacesOf l).map fun q => if q.kind = .noBreak then q.normal - q.minimum else 0).sum
    let stretches (l : List LineItem) : Int :=
      ((spacesOf l).map fun q => if q.kind = .noBreak then q.maximum - q.normal else 0).sum
    f.items.length = placed.length ∧ f.overset = false ∧ f.glyphs = (glyphsOf carried).length ∧
    f.x = positionAfter ls f.items ∧ f.stretch = stretches placed ∧ f.shrink = shrinks placed ∧
    (∀ i q, placed[i]? = some (LineItem.space q) →
      f.items[i]? = some (LineItem.space { q with after := positionAfter ls (f.items.take i) + q.normal })) ∧
    (∀ i g, placed[i]? = some (LineItem.glyph g) →
      let pair := if glyphsOf (placed.take i) = [] then 0 else g.pairPart
      let x1 : Int := max 0 (positionAfter ls (f.items.take i) + (g.manualPart + pair) * g.hs * 5)
      f.items[i]? = some (LineItem.glyph { g with
        pairPart := pair, x := min ((x1 + 24) / 48).toNat mr, after := x1 + g.advance * g.hs * 5
        shrinkAt := shrinks (placed.take i) })) ∧
    (f.overflowed = true ↔ ∃ i g, f.items[i]? = some (LineItem.glyph g) ∧
      ((mr : Int) < (g.after - g.shrinkAt + 24) / 48 ∨ 160 ≤ (glyphsOf (f.items.take (i + 1))).length))

/-- Which break a decision takes (R72 to R74): the last candidate that fits, the candidates rising along the word, with
the hyphen glyph it adds and HYPHEN-ENDED; else the last interword space entry; with none in the line the rightmost
glyph after which a break fits, FORCED; else the first glyph, OVERSET. It loses no glyph but for the interword space it
falls on, adds at most one hyphen glyph, and keeps a hyphen-ended or forced line within its boundary and its 160
glyphs. That the added hyphen has the lens position, the hs and the SIZE SUBSTITUTED mark of the glyph before it is log
entry 13 (DEDUCED). -/
def Obligations.BreakDecisionKeepsEveryGlyphAndFits : Prop :=
  ∀ (t : Tables) (d : List DictEntry) (p : Params) (ladder mr : Nat) (items : List LineItem) (w : Machine.Word)
    (gone : Nat),
    let cut := decideBreak t d p ladder mr items w gone
    let cs := candidates p ladder t d w
    let count (n : Nat) : Nat := (glyphsOf (items.take n)).length
    let fits (g : Glyph) (h : Int) (n : Nat) : Prop := (g.after + h - g.shrinkAt + 24) / 48 ≤ (mr : Int) ∧ n ≤ 160
    let hyphen (g h : Glyph) : Prop := ∃ e, t.entry g.font = some e ∧ (t.widthSlot e.slot).valid = true ∧
      let position := tabGet (t.widthSlot e.slot).info 0 0
      let advance := (((tabGet (t.widthSlot e.slot).widths 0 position : Nat) : Int) + p.track).toNat
      h = { g with
        code := none, role := .addedHyphen, position := position, manualPart := 0, pairPart := 0, advance := advance
        x := min ((max 0 g.after + 24) / 48).toNat mr, after := max 0 g.after + advance * g.hs * 5 }
    let takes (c : Candidate) (kept : List LineItem) (n : Nat) : Prop :=
      gone < c.gap ∧ c.gap < w.codes.length ∧ n = items.length - (w.codes.length - c.gap) ∧
        ∃ g, (items.take n).getLast? = some (LineItem.glyph g) ∧
          if c.addsHyphen = true then
            ∃ h, hyphen g h ∧ fits g (h.advance * h.hs * 5) (count n + 1) ∧ kept = items.take n ++ [.glyph h]
          else fits g 0 (count n) ∧ kept = items.take n
    let none' := ∀ c ∈ cs, ∀ kept n, ¬takes c kept n
    let forced (n : Nat) : Prop := ∃ g, items[n]? = some (LineItem.glyph g) ∧ fits g 0 (count (n + 1))
    let interword (n : Nat) : Prop := ∃ q, items[n]? = some (LineItem.space q) ∧ q.kind = .interword
    (w.marks.Pairwise (· < ·) → cs.Pairwise fun a b => a.gap < b.gap) ∧
    (∀ (i : Nat) c kept n, cs[i]? = some c → takes c kept n →
      (∀ (j : Nat) c' k m, i < j → cs[j]? = some c' → ¬takes c' k m) →
      cut = ⟨kept, items.drop n, true, false, false⟩) ∧
    (none' → ∀ n, interword n → (∀ m, n < m → ¬interword m) →
      cut = ⟨items.take n, items.drop (n + 1), false, false, false⟩) ∧
    (none' → (∀ n, ¬interword n) →
      (∀ n, forced n → (∀ m, n < m → ¬forced m) → cut = ⟨items.take (n + 1), items.drop (n + 1), false, true, false⟩) ∧
      ((∀ n, ¬forced n) → ∀ n g, items[n]? = some (LineItem.glyph g) → count n = 0 →
        cut = ⟨items.take (n + 1), items.drop (n + 1), false, false, true⟩)) ∧
    (∃ kept, glyphsOf items = glyphsOf kept ++ glyphsOf cut.carried ∧
      (cut.kept = kept ∨
        (cut.hyphenEnded = true ∧ ∃ h, cut.kept = kept ++ [.glyph h] ∧ h.role = .addedHyphen ∧ h.code = none))) ∧
    ((∀ g ∈ glyphsOf items, 0 ≤ g.after) → (cut.hyphenEnded = true ∨ cut.forced = true) →
      ∃ g, cut.kept.getLast? = some (LineItem.glyph g) ∧ (g.after - g.shrinkAt + 24) / 48 ≤ (mr : Int) ∧
        (glyphsOf cut.kept).length ≤ 160) ∧
    ((cut.forced = true ∨ cut.overset = true) → ∀ q ∈ spacesOf items, q.kind ≠ .interword) ∧
    (cut.overset = true → (glyphsOf cut.kept).length ≤ 1)

/-- The lens a requested size resolves to: of the nonzero sizes the nearest, the smaller of two as near, the
lowest-numbered position of that size (R62). -/
def Obligations.LensIsTheNearestSize : Prop :=
  ∀ (t : Tables) (h : Nat),
    (t.resolve h = none ↔ ∀ k, k < 12 → tabGet t.lenses 0 k = 0) ∧
    ∀ k hs, t.resolve h = some (k, hs) ↔
      k < 12 ∧ hs = tabGet t.lenses 0 k ∧ hs ≠ 0 ∧
        ∀ j, j < 12 → tabGet t.lenses 0 j ≠ 0 →
          let near (v : Nat) : Nat := ((v : Int) - h).natAbs
          near hs < near (tabGet t.lenses 0 j) ∨
            (near hs = near (tabGet t.lenses 0 j) ∧
              (hs < tabGet t.lenses 0 j ∨ (hs = tabGet t.lenses 0 j ∧ k ≤ j)))

/-- An amount shared among the justifiable spaces of a closed line: floor division, the first r spaces one step more,
the sum exact; the record keeps N, q and r (R79). -/
def Obligations.SharingAmongSpacesIsExact : Prop :=
  ∀ (p : Params) (quad : Quad) (x : Int) (r : LineRecord), glyphsOf (closedItems r.items) ≠ [] →
    let t := closeRecord p quad x r
    let js := (spacesOf t.items).filter fun q => decide (q.kind = .interword ∨ q.kind = .noBreak)
    t.spaces = js.length ∧
    let share : Int := (js.map (·.extra)).sum
    (js ≠ [] →
      t.quotient = share / (t.spaces : Int) ∧ (t.remainder : Int) = share - t.quotient * t.spaces ∧
      t.remainder < t.spaces ∧
      ∀ k q, js[k]? = some q → q.extra = if k < t.remainder then t.quotient + 1 else t.quotient)

/-- What a close does with D, the boundary less the natural length (R77, R78, R80, R81). In justify each glyph gap gets
what D has beyond the spaces' stretch, divided by the gaps, and the letterspace at most; with a justifiable space left the
extras and gaps give the line exactly D, so its right edge is at its boundary, and with none the rest is left at the right;
the line is LOOSE where the spaces take more than their stretch or something is left at the right. Every glyph's final x is
its origin with the extras, gaps and shift before it, within 0..16800. -/
def Obligations.ClosedLineStandsWhereTheQuadPutsIt : Prop :=
  ∀ (p : Params) (quad : Quad) (x : Int) (r : LineRecord), glyphsOf (closedItems r.items) ≠ [] →
    let items := closedItems r.items
    let t := closeRecord p quad x r
    let ln : Int := (x - removedWidth r.items + 24) / 48
    let d : Int := (r.mr : Int) - ln
    let extras (l : List LineItem) : Int := ((spacesOf l).map (·.extra)).sum
    let shift : Int := if d < 0 then 0 else match quad with
      | .right => d
      | .centre => d / 2
      | _ => 0
    let stretch : Int := ((spacesOf items).map fun q =>
      if q.kind = .interword ∨ q.kind = .noBreak then q.maximum - q.normal else 0).sum
    let smax : Int := (stretch + 24) / 48
    let gaps := glyphGaps items
    ((∀ q ∈ spacesOf items, q.extra = 0) →
      (quad = .justify → t.spaces ≠ 0 → ln + extras t.items + t.gap * glyphGaps items = r.mr ∧ t.leftAtRight = 0) ∧
      (quad = .justify →
        t.gap = (if smax < d ∧ gaps ≠ 0 then min p.letterspace ((d - smax) / gaps).toNat else 0) ∧
        (t.spaces = 0 → (t.leftAtRight : Int) = (if smax < d then d - t.gap * gaps else 0) ∧ extras t.items = 0) ∧
        let tooWide := decide (t.leftAtRight ≠ 0 ∨ (t.spaces ≠ 0 ∧ smax < d - t.gap * gaps))
        t.flags = { r.flags with loose := r.flags.loose || tooWide }) ∧
      (quad ≠ .justify → t.gap = 0 ∧ t.leftAtRight = 0 ∧ t.flags = r.flags ∧
        extras t.items = if d < 0 ∧ t.spaces ≠ 0 then d else 0) ∧
      (∀ i g, items[i]? = some (LineItem.glyph g) →
        t.items[i]? = some (LineItem.glyph { g with x :=
          (max 0 (min 16800 ((g.x : Int) + extras (t.items.take i) + t.gap * glyphGaps (items.take (i + 1)) + shift))).toNat
          }))) ∧
    t.items.length = items.length ∧ t.quad = quad ∧ t.filmMove = (p.lead : Int) * 10 + r.adjustment

/-- Whether a word gets candidates, and exactly which (R89 to R100, R105), by the rows of R93 in their order: none with
hyphenation off, at the ladder limit or in a no-hyphenate word; its marks alone where it has any inside; none without a
letter; the hyphen gaps of a compound; none for a capital first letter, a long or a short word; an entry's breaks; else the
gaps the rules score. The last three meet the fragment minimums, counted in letters. Each gap of the hyphenation word is
the gap after one of the word's glyphs, between two of its letters (R91). -/
def Obligations.CandidatesFollowTheOrderOfEligibility : Prop :=
  ∀ (p : Params) (ladder : Nat) (t : Tables) (d : List DictEntry) (w : Machine.Word),
    let cs := candidates p ladder t d w
    let inside := w.marks.filter fun k => decide (1 ≤ k ∧ k < w.codes.length)
    let letter (k : Nat) (e : ClassEntry) : Prop :=
      ∃ c, w.codes[k]? = some (some c) ∧ c ≠ 0x2D ∧ (t.classOf c).cls ≠ 0 ∧ e = t.classOf c
    (p.hyphenation = false ∨ (p.ladderLimit ≠ 0 ∧ p.ladderLimit ≤ ladder) ∨ w.noHyphenate = true → cs = []) ∧
    (p.hyphenation = true → (p.ladderLimit = 0 ∨ ladder < p.ladderLimit) → w.noHyphenate = false →
      (inside ≠ [] → cs = inside.map fun k => ⟨k, .discretionary⟩) ∧
      (inside = [] → (∀ k e, ¬letter k e) → cs = []) ∧
      (inside = [] → (∃ k e, letter k e) → ∃ h, hyphenWord t w.codes = some h ∧
        let n := h.letters.length
        let fits (i : Nat) : Prop := p.leftMin ≤ i ∧ i + p.rightMin ≤ n
        let gap (i : Nat) (hyphen : Bool) (place : Nat) : Prop := 1 ≤ i ∧ h.gaps[i - 1]? = some (hyphen, place)
        let hyphens := ∃ i place, gap i true place
        let capital := p.capitals = false ∧ ∃ e, h.letters.head? = some e ∧ e.upper = true
        let outside := 32 < n ∨ n < p.leftMin + p.rightMin
        let folded := h.letters.map (·.fold)
        let cls (k : Nat) : Nat := if k = 0 then 0 else ((h.letters[k - 1]?).map (·.cls)).getD 0
        let score (i : Nat) : Nat :=
          tabGet t.rules 0 (cls (i - 1) * 125 + cls i * 25 + cls (i + 1) * 5 + cls (i + 2))
        h.gaps.length + 1 = n ∧
        (∀ i hyphen place, gap i hyphen place → ∃ a b, h.letters[i - 1]? = some a ∧ h.letters[i]? = some b ∧
          letter place b ∧ 1 ≤ place ∧
          (if hyphen = true then w.codes[place - 1]? = some (some 0x2D) ∧ 2 ≤ place ∧ letter (place - 2) a
            else letter (place - 1) a)) ∧
        (hyphens → ∀ x, x ∈ cs ↔ ∃ i place, gap i true place ∧ fits i ∧ x = ⟨place, .hyphenCharacter⟩) ∧
        (¬hyphens → capital ∨ outside → cs = []) ∧
        (¬hyphens → ¬capital → ¬outside →
          (∀ e ∈ d, e.word = folded → (∀ f ∈ d, f.word = folded → f = e) →
            ∀ x, x ∈ cs ↔ ∃ i hyphen place, gap i hyphen place ∧ i ∈ e.breaks ∧ fits i ∧ x = ⟨place, .dictionary⟩) ∧
          ((∀ e ∈ d, e.word ≠ folded) →
            ∀ x, x ∈ cs ↔ ∃ i hyphen place, gap i hyphen place ∧ p.threshold ≤ score i ∧ fits i ∧ cls i ≠ 4 ∧
              x = ⟨place, .rule⟩)))) ∧
    (w.marks.Pairwise (· < ·) → cs.Pairwise fun a b => a.gap < b.gap)

/-! ### Commands that set a value -/

/-- ADVANCE, REVERSE and COLUMN MARK change what the next line or CUT record captures (R84); PROOF, LAMP and MASK set
the proof mode and policy, the pending lamp values and the attention mask (R139, R164, R181); the attention line is asserted
exactly while RESET is not and the pending set and the mask have an event in common, so that a MASK asserts or deasserts it
at once (R181); CLEAR-TO-SEND and the service switch are levels the part follows (R51, R186). How many bytes of the head reply record have been begun when
CLEAR-TO-SEND falls, and whether a rise finds a byte still being sent or begins the next at once, comes with the event (log
entry 23, DESIGN CHOICE), and an event that brings no change does nothing
(log entry 33, DESIGN CHOICE). -/
def Obligations.CommandsThatSetAValue : Prop :=
  (∀ (n : Word16) (s u : State) (c : Instr) (steps : Int), Takes c s u →
    ((c = .advance n ∧ steps = min 1440 n.toNat * 10) ∨ (c = .reverse n ∧ steps = -(min 1440 n.toNat * 10 : Nat))) →
    let sum := u.composer.adjust + steps
    exec c s = .next (State.runOut (clampNote (decide (n.toNat ≤ 1440 ∧ -14400 ≤ sum ∧ sum ≤ 14400))
      { u with composer := { u.composer with adjust := max (-14400) (min 14400 sum) } }))) ∧
  (∀ s u : State, Takes .columnMark s u →
    exec .columnMark s = .next (State.runOut { u with composer := { u.composer with columnMark := true } })) ∧
  (∀ (m q : Byte) (s u : State), Takes (.proof m q) s u →
    exec (.proof m q) s = .next (State.runOut (clampNote (decide (m.toNat ≤ 2)) { u with proof := { u.proof with
      mode := if m = 1 then .all else if m = 2 then .flagged else .off
      policy := if q = 0 then .skip else .hold } }))) ∧
  (∀ (w m : Byte) (s u : State), Takes (.lamp w m) s u →
    exec (.lamp w m) s =
      .next (State.runOut (clampNote (decide (4 ≤ w.toNat ∧ w.toNat ≤ 32 ∧ 1 ≤ m.toNat ∧ m.toNat ≤ 8))
        { u with imager := { u.imager with
          pendingLamp := some (max 4 (min 32 w.toNat), max 1 (min 8 m.toNat)) } }))) ∧
  (∀ (set : Word24) (s u : State), Takes (.mask set) s u →
    let t := State.runOut { u with reply := { u.reply with mask := set } }
    exec (.mask set) s = .next t ∧
    (t.attention = true ↔
      u.pins.resetLine = false ∧ ∃ n, u.reply.pending.getLsbD n = true ∧ set.getLsbD n = true)) ∧
  (∀ s : State, s.attention = true ↔
    s.pins.resetLine = false ∧ ∃ n, s.reply.pending.getLsbD n = true ∧ s.reply.mask.getLsbD n = true) ∧
  (∀ (on : Bool) (s : State),
    exec (.serviceSwitchChange on) s = .next { s with pins := { s.pins with serviceSwitch := on } }) ∧
  ∀ (bytes : Byte) (s : State),
    let size := ((s.reply.queue.head?.map Reply.bytes).getD []).length
    let turned (level : Bool) (begun : Nat) : State :=
      { s with pins := { s.pins with cts := level }, reply := { s.reply with begun := begun } }
    exec (.clearToSend s.pins.cts bytes) s = .next s ∧
    (s.pins.cts = true →
      exec (.clearToSend false bytes) s = .next (turned false (max s.reply.begun (min bytes.toNat size)))) ∧
    (s.pins.cts = false →
      (s.reply.begun = 0 → exec (.clearToSend true bytes) s = .next (turned true (min 1 size))) ∧
      (s.reply.begun ≠ 0 → exec (.clearToSend true bytes) s =
        .next (turned true (max s.reply.begun (min bytes.toNat (min (s.reply.begun + 1) size))))))

/-! ### Tables and the dictionary -/

/-- A LOAD block is refused by the first commit check that fails, with its reason and LOAD REFUSED, and writes nothing
(R46 to R48, R50, R55); a lens-table block that passes them is refused while a line is open, and waits while a slot is
READY or IMAGING. -/
def Obligations.LoadIsRefusedByTheFirstFailingCheck : Prop :=
  ∀ (ident dir sum : Byte) (start count : Word16) (s u : State), Takes (.load ident start count dir sum) s u →
    let b : LoadBlock := ⟨ident, start, count, dir, sum⟩
    let n := min count.toNat (512 / if ident = 0x60 then 3 else if ident = 0x62 then 2 else 1)
    let direction : Word24 := if dir = 0 ∨ dir = 1 then 0 else 8
    let refused (why : Reason) : State := { u with
      tables := { u.tables with reason := why }
      reply := { u.reply with pending := u.reply.pending ||| direction ||| 16 } }
    let entries := (tableOf ident).bind Table.entries
    let inside := ∀ i, i < n → ∀ e, entries = some e →
      if dir = 1 then i ≤ start.toNat ∧ start.toNat - i < e else start.toNat + i < e
    let summed := b.total u.tables = 0
    let locked := u.pins.serviceSwitch = false ∧ ∃ tab, tableOf ident = some tab ∧ u.tables.locks.get tab = true
    (entries = none → exec (.load ident start count dir sum) s = .next (State.runOut (refused .unknownTable))) ∧
    (entries.isSome = true → ¬inside →
      exec (.load ident start count dir sum) s = .next (State.runOut (refused .outOfRange))) ∧
    (entries.isSome = true → inside → ¬summed →
      exec (.load ident start count dir sum) s = .next (State.runOut (refused .badSum))) ∧
    (entries.isSome = true → inside → summed → locked →
      exec (.load ident start count dir sum) s = .next (State.runOut (refused .locked))) ∧
    (ident = 0x61 → inside → summed → ¬locked →
      (¬(∀ j, j < 8 → (u.store.slot j).state ≠ .filling) →
        exec (.load ident start count dir sum) s = .next (State.runOut (refused .lineOpen))) ∧
      ((∀ j, j < 8 → (u.store.slot j).state ≠ .filling) → u.store.busyCount ≠ 0 →
        exec (.load ident start count dir sum) s = .next { u with
          tables := { u.tables with waiting := some b }
          reply := { u.reply with pending := u.reply.pending ||| direction } }))

/-- A LOAD block that passes the checks is committed in one step, whichever table it names, a table of widths among them:
entry by entry after the clamps of R53, up or down from its start index, PARAMETER CLAMPED posted once when a clamp
changes a value or the direction byte is neither 00h nor 01h; the code map, the widths or the info of a slot counts as
loaded once an entry of it is written; every other entry of every table stays (R39 to R43, R46, R52, R53). A lens-table
block commits at once with no line open and no slot READY or IMAGING (R50). -/
def Obligations.WidthsBlockWritesItsEntries : Prop :=
  ∀ (ident dir sum : Byte) (start count : Word16) (s u : State) (tab : Table) (entries : Nat),
    Takes (.load ident start count dir sum) s u → tableOf ident = some tab → tab.entries = some entries →
    let b : LoadBlock := ⟨ident, start, count, dir, sum⟩
    let size := if ident = 0x60 then 3 else if ident = 0x62 then 2 else 1
    let n := min count.toNat (512 / size)
    let place (i : Nat) : Nat := if dir = 1 then start.toNat - i else start.toNat + i
    (∀ i, i < n → (dir = 1 → i ≤ start.toNat) ∧ place i < entries) →
    b.total u.tables = 0 → (u.tables.locks.get tab = false ∨ u.pins.serviceSwitch = true) →
    (ident = 0x61 → ∀ j, j < 8 → (u.store.slot j).state = .free ∨ (u.store.slot j).state = .setUndecided ∨
      (u.store.slot j).state = .setAwaiting) →
    let byte (i k : Nat) : Byte := tabGet u.tables.staging 0 (i * size + k)
    let loaded (i : Nat) : Cell × Bool := cellLoaded tab (byte i 0) (byte i 1) (byte i 2)
    let clamped := (dir ≠ 0 ∧ dir ≠ 1) ∨ ∃ i, i < n ∧ (loaded i).2 = true
    AnswersWith (exec (.load ident start count dir sum) s) fun t =>
      (∀ i, i < n → cellAt t.tables tab (place i) = (loaded i).1) ∧
      (∀ j, (∀ i, i < n → place i ≠ j) → cellAt t.tables tab j = cellAt u.tables tab j) ∧
      (∀ other, other ≠ tab → ∀ j, cellAt t.tables other j = cellAt u.tables other j) ∧
      (∀ k, k < 16 →
        let w := u.tables.widthSlot k
        let v := t.tables.widthSlot k
        v.codeMapLoaded = (w.codeMapLoaded || decide (n ≠ 0 ∧ tab = .codeMap k)) ∧
        v.widthsLoaded = (w.widthsLoaded || decide (n ≠ 0 ∧ tab = .widths k)) ∧
        v.infoLoaded = (w.infoLoaded || decide (n ≠ 0 ∧ tab = .info k))) ∧
      (clamped → t.reply = { u.reply with pending := u.reply.pending ||| 8#24 }) ∧ (¬clamped → t.reply = u.reply) ∧
      t.tables.staging = u.tables.staging ∧ t.tables.locks = u.tables.locks ∧ t.tables.waiting = u.tables.waiting ∧
      t.tables.reason = u.tables.reason ∧
      { t with tables := u.tables, reply := u.reply, intake := u.intake } = u

/-- The wait of a lens-table block ends when no slot is READY or IMAGING: the lock is looked at again, and the block is
committed or refused (R50, R53). That the step does nothing while it is not due is the model's choice (log entry 1). -/
def Obligations.LensBlockIsCommittedAfterItsWait : Prop :=
  (∀ (s : State) (b : LoadBlock), s.tables.waiting = some b → s.store.busyCount ≠ 0 →
    exec .lensCommitAfterWait s = .next s) ∧
  (∀ s : State, s.tables.waiting = none → exec .lensCommitAfterWait s = .next s) ∧
  ∀ (s : State) (b : LoadBlock), s.tables.waiting = some b → s.store.busyCount = 0 →
    (s.tables.locks.lenses = true → s.pins.serviceSwitch = false →
      exec .lensCommitAfterWait s = .next (State.runOut (posted .loadRefused
        { s with tables := { s.tables with waiting := none, reason := .locked } }))) ∧
    (s.tables.locks.lenses = false ∨ s.pins.serviceSwitch = true →
      b.ident = 0x61 → b.direction ≠ 1 → b.start.toNat + b.count.toNat ≤ 12 →
      AnswersWith (exec .lensCommitAfterWait s) fun t =>
        t.tables.waiting = none ∧ t.tables.reason = s.tables.reason ∧
        (∀ j, j < 12 → tabGet t.tables.lenses 0 j =
          if b.start.toNat ≤ j ∧ j < b.start.toNat + b.count.toNat then
            let v := (tabGet s.tables.staging 0 (j - b.start.toNat)).toNat
            if v = 0 then 0 else max 8 (min 192 v)
          else tabGet s.tables.lenses 0 j) ∧
        t.reply.pending = (s.reply.pending ||| if ∀ i, i < b.count.toNat →
          let v := (tabGet s.tables.staging 0 i).toNat
          v = 0 ∨ (8 ≤ v ∧ v ≤ 192) then 0 else 8) ∧
        { t with
          tables := { t.tables with lenses := s.tables.lenses, waiting := some b }
          reply := { t.reply with pending := s.reply.pending }
          intake := s.intake } = s)

/-- LOCK sets the flag of a known table, and no other flag, and posts UNKNOWN CODE for any other identifier; no step but
LOCK and RESET changes a flag, and none but RESET clears one; and while the service switch is off a locked table keeps its contents (R49, R51). -/
def Obligations.LockedTablesKeepTheirContents : Prop :=
  (∀ (ident : Byte) (s u : State), Takes (.lock ident) s u →
    (tableOf ident = none → exec (.lock ident) s = .next (State.runOut (posted .unknownCode u))) ∧
    ∀ tab, tableOf ident = some tab → AnswersWith (exec (.lock ident) s) fun t =>
      (∀ other x, tableOf other = some x →
        (t.tables.locks.get x = true ↔ x = tab ∨ u.tables.locks.get x = true)) ∧
      { t with tables := { t.tables with locks := u.tables.locks }, intake := u.intake } = u) ∧
  ∀ (c : Instr) (s t : State), c ≠ .reset → exec c s = .next t →
    (∀ x, s.tables.locks.get x = true → t.tables.locks.get x = true) ∧
    ((∀ ident, c ≠ .lock ident) → t.tables.locks = s.tables.locks) ∧
    (s.pins.serviceSwitch = false →
      (s.tables.locks.directory = true → t.tables.directory = s.tables.directory) ∧
      (s.tables.locks.lenses = true → t.tables.lenses = s.tables.lenses) ∧
      (s.tables.locks.classes = true → t.tables.classes = s.tables.classes) ∧
      (s.tables.locks.rules = true → t.tables.rules = s.tables.rules) ∧
      (s.tables.locks.formats = true → t.formats.descriptors = s.formats.descriptors) ∧
      (s.tables.locks.dictionary = true → t.dict = s.dict) ∧
      ∀ k, k < 16 →
        (s.tables.locks.get (.codeMap k) = true → (t.tables.widthSlot k).codeMap = (s.tables.widthSlot k).codeMap) ∧
        (s.tables.locks.get (.widths k) = true → (t.tables.widthSlot k).widths = (s.tables.widthSlot k).widths) ∧
        (s.tables.locks.get (.kernClasses k) = true →
          (t.tables.widthSlot k).kernClasses = (s.tables.widthSlot k).kernClasses) ∧
        (s.tables.locks.get (.kernPairs k) = true →
          (t.tables.widthSlot k).kernPairs = (s.tables.widthSlot k).kernPairs) ∧
        (s.tables.locks.get (.info k) = true → (t.tables.widthSlot k).info = (s.tables.widthSlot k).info))

/-- The exception dictionary's edits (R106 to R109): the lock, the form, the word folded through the class table, and
the entry put, replaced, refused for want of room, or removed. That a DICT DELETE with a code below 20h, which the letter
class table does not hold, changes nothing is log entry 26 (DEDUCED). -/
def Obligations.DictionaryEdits : Prop :=
  let locked (u : State) : Prop := u.tables.locks.dictionary = true ∧ u.pins.serviceSwitch = false
  (∀ (codes : List Byte) (s u : State), Takes (.dictAdd codes) s u →
    let word := codes.filter (· != 0x04)
    let good := (∀ c ∈ word, 0x21 ≤ c.toNat) ∧ 2 ≤ word.length ∧ word.length ≤ 24 ∧ codes.head? ≠ some 0x04 ∧
      codes.getLast? ≠ some 0x04 ∧ ¬[0x04, 0x04] <:+: codes
    let folded := word.map fun c => (u.tables.classOf c).fold
    let breaks := ((List.range codes.length).filter fun i => codes[i]? == some 0x04).map fun i =>
      ((codes.take i).filter (· != 0x04)).length
    let known := ∃ e ∈ u.dict, e.word = folded
    let room := u.dict.length < 384 ∧ (u.dict.map (·.word.length)).sum + word.length ≤ 4096
    (locked u ∨ ¬good → exec (.dictAdd codes) s = .next (State.runOut (posted .loadRefused u))) ∧
    (¬locked u → good → ¬known → ¬room →
      exec (.dictAdd codes) s = .next (State.runOut (posted .dictionaryFull u))) ∧
    (¬locked u → good → known ∨ room → u.dict.Pairwise (fun a b => wordBefore a.word b.word = true) →
      AnswersWith (exec (.dictAdd codes) s) fun t =>
      (⟨folded, breaks⟩ : DictEntry) ∈ t.dict ∧ t.dict.length = u.dict.length + (if known then 0 else 1) ∧
      (∀ e, e.word ≠ folded → (e ∈ t.dict ↔ e ∈ u.dict)) ∧ { t with dict := u.dict, intake := u.intake } = u)) ∧
  (∀ (codes : List Byte) (s u : State), Takes (.dictDelete codes) s u →
    let word := codes.filter (· != 0x04)
    (locked u → exec (.dictDelete codes) s = .next (State.runOut (posted .loadRefused u))) ∧
    (¬locked u → (∀ c ∈ word, 0x20 ≤ c.toNat) → exec (.dictDelete codes) s = .next (State.runOut { u with
      dict := u.dict.filter fun e => decide (e.word ≠ word.map fun c => (u.tables.classOf c).fold) })) ∧
    (¬locked u → ¬(∀ c ∈ word, 0x20 ≤ c.toNat) → exec (.dictDelete codes) s = .next u.runOut)) ∧
  ∀ s u : State, Takes .dictClear s u →
    (locked u → exec .dictClear s = .next (State.runOut (posted .loadRefused u))) ∧
    (¬locked u → exec .dictClear s = .next (State.runOut { u with dict := [] }))

/-! ### Events, replies and the log -/

/-- EVENTS copies the pending set into an EVENTS reply, appends it and removes every event it reports, so the attention
line falls; a posting taken before it is reported, one taken after it stays pending; with the queue full it is held
with the set untouched, and reports the set as it stands when it is taken (R182). Which of a held EVENTS and a SYNC answer
that waits takes the place a sent record leaves comes with the event (log entry 4, DESIGN CHOICE; that a held item looks
again there is log entry 24, DEDUCED), as does how far a record had been begun (log entry 23, DESIGN CHOICE). -/
def Obligations.EventsReportsAndRemovesThePendingSet : Prop :=
  (∀ s u : State, Takes .events s u →
    let t : State := { u with reply := { u.reply with
      pending := 0
      queue := u.reply.queue ++ [.events u.reply.pending]
      begun := if u.pins.cts = true ∧ u.reply.begun = 0 then 1 else u.reply.begun } }
    (u.reply.queue.length < 8 → exec .events s = .next t.runOut ∧ t.runOut.attention = false ∧
      ∀ e : Event, (posted e t.runOut).reply.pending.getLsbD e.num = true) ∧
    (8 ≤ u.reply.queue.length →
      exec .events s = .next { u with reply := { u.reply with held := some .events } })) ∧
  (∀ (e : Event) (s u : State), Takes .events s u → u.reply.queue.length < 8 →
    AnswersWith (exec .events (posted e s)) fun t =>
      t.reply.pending = 0 ∧ t.reply.queue = u.reply.queue ++ [.events (u.reply.pending ||| (1#24 <<< e.num))]) ∧
  ∀ (heldFirst : Bool) (s : State), s.reply.held = some .events → s.reply.begun ≠ 0 → s.pins.cts = true →
    s.reply.queue.length = 8 → (heldFirst = true ∨ s.reply.markers = []) →
    AnswersWith (exec (.replyRecordSent heldFirst) s) fun t =>
      t.reply.held = none ∧ t.reply.pending = 0 ∧ t.reply.queue = s.reply.queue.tail ++ [.events s.reply.pending]

/-- The pending set is empty after reset; posting puts an event into it, once, whatever the mask, and asserts the attention
line where the mask admits the event and RESET is not asserted (R181); an event leaves it only at a reset or in an EVENTS
reply that reports it; a QUERY shows it and removes nothing (R180). -/
def Obligations.EventsStayPendingUntilReported : Prop :=
  (∀ s : State, AnswersWith (exec .reset s) fun t => t.reply.pending = 0) ∧
  (∀ (e f : Event) (s : State),
    ((posted e s).reply.pending.getLsbD f.num = true ↔ f = e ∨ s.reply.pending.getLsbD f.num = true) ∧
      posted e (posted e s) = posted e s ∧ (posted e s).reply.mask = s.reply.mask ∧ s.post e = posted e s ∧
      (s.pins.resetLine = false → s.reply.mask.getLsbD e.num = true → (posted e s).attention = true)) ∧
  (∀ (c : Instr) (s t : State) (n : Nat), exec c s = .next t → c ≠ .reset →
    s.reply.pending.getLsbD n = true →
    t.reply.pending.getLsbD n = true ∨ ∃ set, Reply.events set ∈ t.reply.queue ∧ set.getLsbD n = true) ∧
  ∀ s u : State, Takes .query s u → u.reply.queue.length < 8 → AnswersWith (exec .query s) fun t =>
    t.reply.pending = u.reply.pending ∧ ∃ x, t.reply.queue = u.reply.queue ++ [.status x] ∧ x.pending = u.reply.pending

/-- QUERY appends a STATUS reply of the state as it stands, every field of the snapshot being that of the block that holds
it (R122, R183); READ LOG appends the oldest unread records and moves the read position on past them; either is held while
the queue is full (R179, R185, R10). -/
def Obligations.QueryAndReadLogReply : Prop :=
  (∀ s u : State, Takes .query s u →
    let shown : Snapshot :=
      { phase :=
          match u.composer.phase with
          | .idle => .idle
          | .opened _ => .opened
          | .overflowed _ => .overflowed
          | .waitSlot _ => .waitSlot
        openNumber :=
          match u.composer.phase with
          | .opened line => (u.store.record line.slot).number
          | .overflowed line => (u.store.record line.slot).number
          | _ => 0
        slots := u.store.slots.toList.map fun x =>
          match x.state with
          | .free => .free
          | .filling => .filling
          | .ready => if x.record.discard = true then .readyDiscard else .ready
          | .imaging => .imaging
          | .setUndecided => .set
          | .setAwaiting => .setAwaiting
        imager := u.imager.state, mounted := u.imager.mounted, turret := u.imager.turret
        f := u.film.f, h := u.film.h, floor := u.film.floor, l := u.film.l
        offline := decide (u.proof.printer ≠ .online), proofCount := u.proof.queue.length, gap := u.proof.gap
        unread := u.log.unread, pending := u.reply.pending, errors := u.intake.errors
        depth := u.intake.sources.length, stack := u.composer.stack.length, reason := u.tables.reason }
    (u.reply.queue.length < 8 →
      exec .query s = .next (State.runOut { u with reply := { u.reply with
        queue := u.reply.queue ++ [.status shown]
        begun := if u.pins.cts = true ∧ u.reply.begun = 0 then 1 else u.reply.begun } })) ∧
    (8 ≤ u.reply.queue.length →
      exec .query s = .next { u with reply := { u.reply with held := some .query } })) ∧
  ∀ (n : Byte) (s u : State), Takes (.readLog n) s u →
    let m := max 1 (min 16 n.toNat)
    let k := min m u.log.unread
    let noted := clampNote (decide (1 ≤ n.toNat ∧ n.toNat ≤ 16)) u
    (u.reply.queue.length < 8 →
      exec (.readLog n) s = .next (State.runOut { noted with
        reply := { noted.reply with
          queue := u.reply.queue ++
            [.log ((List.range k).filterMap fun i => tabGet u.log.ring none ((u.log.read + i) % 64))]
          begun := if u.pins.cts = true ∧ u.reply.begun = 0 then 1 else u.reply.begun }
        log := { u.log with read := (u.log.read + k) % 64, unread := u.log.unread - k } })) ∧
    (8 ≤ u.reply.queue.length →
      exec (.readLog n) s = .next { noted with reply := { noted.reply with held := some (.readLog m) } })

/-- SYNC makes a marker with its token, the number closed last and the count of slots READY or IMAGING, answered at once
when nothing is left to log; it is held while 4 markers are pending (R184). A SYNC answer that waited is appended when
there is room, in the order taken; a record is begun only under CLEAR-TO-SEND, and leaves the queue when its last byte is
sent, which a byte begun before CLEAR-TO-SEND fell may still be (R185, R186). Every log write, and so every imaging end, counts
each marker down by one and answers those that reach 0, in the order taken, as far as the queue has room; a SYNC held for a
marker's place is then taken (R178, R184, R10). How far a record is begun comes with
CLEAR-TO-SEND (log entry 23, DESIGN CHOICE), which of a held item and a waiting answer takes a freed place with the event
(log entries 4, DESIGN CHOICE, and 24, DEDUCED), and a step that is not due does nothing (log entry 1, DESIGN CHOICE). -/
def Obligations.SyncMarkersAndTheReturnLink : Prop :=
  (∀ (token : Word16) (s u : State), Takes (.sync token) s u →
    let m : Marker := ⟨token, u.store.lastClosed, u.store.slots.toList.countP fun x =>
      decide (x.state = .ready ∨ x.state = .imaging)⟩
    (4 ≤ u.reply.markers.length →
      exec (.sync token) s = .next { u with reply := { u.reply with held := some (.sync token) } }) ∧
    (u.reply.markers = [] → m.remaining = 0 → u.reply.queue.length < 8 →
      exec (.sync token) s = .next (State.runOut { u with reply := { u.reply with
        queue := u.reply.queue ++ [.sync token u.store.lastClosed]
        begun := if u.pins.cts = true ∧ u.reply.begun = 0 then 1 else u.reply.begun } })) ∧
    (u.reply.markers.length < 4 →
      (∀ x, u.reply.markers.head? = some x → x.remaining ≠ 0 ∨ 8 ≤ u.reply.queue.length) →
      (u.reply.markers = [] → m.remaining ≠ 0 ∨ 8 ≤ u.reply.queue.length) →
      exec (.sync token) s = .next (State.runOut { u with reply := { u.reply with
        markers := u.reply.markers ++ [m] } }))) ∧
  (∀ (s : State) (m : Marker) (rest : List Marker), s.reply.markers = m :: rest → m.remaining = 0 →
    s.reply.queue.length < 8 → s.reply.held = none →
    exec .syncAnswer s = .next { s with reply := { s.reply with
      markers := rest
      queue := s.reply.queue ++ [.sync m.token m.line]
      begun := if s.pins.cts = true ∧ s.reply.begun = 0 then 1 else s.reply.begun } }) ∧
  (∀ s : State, (∀ m, s.reply.markers.head? = some m → m.remaining ≠ 0) ∨ 8 ≤ s.reply.queue.length →
    exec .syncAnswer s = .next s) ∧
  (let counted (a : ReplyUnit) (cts : Bool) (b : ReplyUnit) : Prop :=
      let left := a.markers.map fun m => { m with remaining := m.remaining - 1 }
      let k := min (left.takeWhile fun m => decide (m.remaining = 0)).length (8 - a.queue.length)
      b.markers = left.drop k ∧ b.queue = a.queue ++ (left.take k).map (fun m => Reply.sync m.token m.line) ∧
        b.begun = (if cts = true ∧ a.begun = 0 ∧ k ≠ 0 then 1 else a.begun) ∧ b.mask = a.mask ∧ b.held = a.held
   (∀ (p : Photo) (x : LogRecord), counted p.reply p.pins.cts (p.writeLog x).reply) ∧
   (∀ (p : Photo) (o : LineOutcome) (tag : Nat) (pr : Progress), p.imager.line = some pr →
      counted p.reply p.pins.cts (p.imagingEnd o tag).reply) ∧
   ∀ (busy : Bool) (s : State) (i : Nat) (rest : List Nat), s.store.ready = i :: rest → i < 8 →
      (s.imager.state = .standby ∨ s.imager.state = .idle) → (∀ j, j < 8 → (s.store.slot j).state ≠ .imaging) →
      (s.store.record i).discard = true →
      (s.reply.held = none →
        AnswersWith (exec (.takeLine busy) s) fun t => counted s.reply s.pins.cts t.reply) ∧
      ∀ token, s.reply.held = some (.sync token) → s.reply.markers.length = 4 →
        s.reply.markers.head?.map (·.remaining) = some 1 → s.reply.queue.length < 8 →
        AnswersWith (exec (.takeLine busy) s) fun t => t.reply.held = none ∧
          ((∃ m ∈ t.reply.markers, m.token = token ∧ m.line = s.store.lastClosed) ∨
            Reply.sync token s.store.lastClosed ∈ t.reply.queue)) ∧
  ∀ (heldFirst : Bool) (s : State),
    let size := ((s.reply.queue.head?.map Reply.bytes).getD []).length
    (s.reply.begun ≠ 0 → s.reply.queue ≠ [] → (s.pins.cts = true ∨ size ≤ s.reply.begun) →
      (s.reply.held = none ∨ (heldFirst = false ∧ s.reply.markers.head?.map (·.remaining) = some 0)) →
      exec (.replyRecordSent heldFirst) s = .next { s with reply := { s.reply with
        queue := s.reply.queue.tail
        begun := if s.pins.cts = true ∧ s.reply.queue.tail ≠ [] then 1 else 0 } }) ∧
    (s.reply.begun = 0 ∨ s.reply.queue = [] ∨ (s.pins.cts = false ∧ s.reply.begun < size) →
      exec (.replyRecordSent heldFirst) s = .next s)

/-- A log write at an imaging end (R178): the record at the write position, and with 64 unread records the oldest lost
and LOG OVERRUN posted, and posted by no other log write. -/
def Obligations.LogKeepsTheNewestRecords : Prop :=
  (∀ (p : Photo) (x : LogRecord), (p.writeLog x).log = (p.log.append x).1 ∧
    (p.writeLog x).reply.pending = p.reply.pending ||| (if 64 ≤ p.log.unread then 0x200000 else 0)) ∧
  (∀ (p : Photo) (o : LineOutcome) (tag : Nat) (pr : Progress), p.imager.line = some pr →
    let q := p.imagingEnd o tag
    let r := p.store.record pr.slot
    (pr.slot < 8 → q.log = (p.log.append ⟨r.number, r.kind, o, r.flags, tag, pr.exposed, pr.dropped, pr.retries,
      pr.deferrals⟩).1) ∧
    q.reply.pending.getLsbD 21 = (p.reply.pending.getLsbD 21 || decide (64 ≤ p.log.unread))) ∧
  (∀ (busy : Bool) (s : State) (i : Nat) (rest : List Nat), HeldSyncLaw s → s.store.ready = i :: rest → i < 8 →
    (s.imager.state = .standby ∨ s.imager.state = .idle) → (∀ j, j < 8 → (s.store.slot j).state ≠ .imaging) →
    (s.store.record i).discard = true →
    AnswersWith (exec (.takeLine busy) s) fun t =>
      t.reply.pending.getLsbD 21 = (s.reply.pending.getLsbD 21 || decide (64 ≤ s.log.unread))) ∧
  ∀ (l : Log) (r : LogRecord), l.write < 64 → l.read < 64 → l.unread ≤ 64 → l.write = (l.read + l.unread) % 64 →
    let w := l.append r
    tabGet w.1.ring none l.write = some r ∧
    (∀ i, i ≠ l.write → tabGet w.1.ring none i = tabGet l.ring none i) ∧
    w.1.write = (l.write + 1) % 64 ∧ w.1.write = (w.1.read + w.1.unread) % 64 ∧
    (l.unread < 64 → w.1.unread = l.unread + 1 ∧ w.1.read = l.read ∧ w.2 = false) ∧
    (l.unread = 64 → w.1.unread = 64 ∧ w.1.read = (l.read + 1) % 64 ∧ w.2 = true) ∧
    (∀ k, k < l.unread → l.unread < 64 → (w.1.oldest (k + 1)) = l.oldest (k + 1))

/-- The bytes of the reply records, every field in its place, and the bits of the return link: each byte in a frame of a
start bit, eight data bits with the least significant first, even parity and a stop bit, and nothing between them (R187,
R188). -/
def Obligations.ReplyRecordsHaveTheirLayouts : Prop :=
  let one (n : Nat) : Byte := BitVec.ofNat 8 n
  let two (n : Nat) : List Byte := [one (n / 256), one n]
  let three (n : Nat) : List Byte := [one (n / 65536), one (n / 256), one n]
  (∀ a b c : Byte, (Reply.events (a ++ b ++ c)).bytes = [0x02, 3, a, b, c]) ∧
  (∀ (a b : Byte) (n : Nat), n < 65536 →
    (Reply.sync (a ++ b) (some n)).bytes =
      [0x04, 5, a, b, 1, BitVec.ofNat 8 (n / 256), BitVec.ofNat 8 (n % 256)] ∧
    (Reply.sync (a ++ b) none).bytes = [0x04, 5, a, b, 0, 0, 0]) ∧
  (∀ d n : Nat, d < 64 → n < 65536 →
    (Reply.mount d n).bytes =
      [0x05, 3, BitVec.ofNat 8 d, BitVec.ofNat 8 (n / 256), BitVec.ofNat 8 (n % 256)]) ∧
  (∀ (x : Snapshot) (a b c : Byte), x.slots.length = 8 → x.pending = a ++ b ++ c →
    let phase : Byte := match x.phase with
      | .idle => 0 | .opened => 1 | .overflowed => 2 | .waitSlot => 3
    let slot (v : SlotView) : Byte := match v with
      | .free => 0 | .filling => 1 | .ready => 2 | .readyDiscard => 3 | .imaging => 4 | .set => 5 | .setAwaiting => 6
    let imager : Byte := match x.imager with
      | .homing => 0 | .standby => 1 | .spinUp => 2 | .idle => 3 | .setting => 4 | .mountWait => 5
      | .suspended => 6 | .halted => 7
    let reason : Byte := match x.reason with
      | .none => 0 | .unknownTable => 1 | .outOfRange => 2 | .badSum => 3 | .locked => 4 | .lineOpen => 5
    let turret : Byte := match x.turret with
      | some k => one k
      | none => 0xFF
    (Reply.status x).bytes.length = 40 ∧
    (Reply.status x).bytes = [0x01, 38, phase] ++ two x.openNumber ++ x.slots.map slot ++ [imager, one x.mounted, turret] ++
      three x.f ++ three x.h ++ three x.floor ++ three x.l ++ [if x.offline = true then 1 else 0, one x.proofCount] ++
      two x.gap ++ [one x.unread, a, b, c, one x.errors, one x.depth, one x.stack, reason]) ∧
  (∀ rs : List LogRecord, rs.length ≤ 16 →
    let kind (k : Kind) : Byte := match k with
      | .text => 0 | .cut => 1 | .stop => 2
    let outcome (o : LineOutcome) : Byte := match o with
      | .set => 0 | .fault => 1 | .discarded => 2
    let flags (f : LineFlags) : Nat :=
      (([f.hyphenEnded, f.loose, f.overset, f.forced, f.sizeSubstituted, f.reject, f.damaged, f.dropped, f.coverOpened,
        f.reverseClamped].zipIdx).map fun b => if b.1 = true then 2 ^ b.2 else 0).sum
    (Reply.log rs).bytes.length = 3 + 14 * rs.length ∧
    (Reply.log rs).bytes = [0x03, one (1 + 14 * rs.length), one rs.length] ++ rs.flatMap fun r =>
      two r.number ++ [kind r.kind, outcome r.outcome] ++ two (flags r.flags) ++ three r.tag ++
        [one r.exposed, one r.dropped, one r.retries] ++ two r.deferrals) ∧
  ∀ r : Reply, ∃ parity : Byte → Bool,
    (∀ b, ((((List.range 8).map fun i => (b.getLsbD i).toNat).sum + (parity b).toNat) % 2 = 0)) ∧
    r.bits = r.bytes.flatMap fun b =>
      [.start, .data (b.getLsbD 0), .data (b.getLsbD 1), .data (b.getLsbD 2), .data (b.getLsbD 3), .data (b.getLsbD 4),
        .data (b.getLsbD 5), .data (b.getLsbD 6), .data (b.getLsbD 7), .parity (parity b), .stop]

/-! ### Proof printing -/

/-- The print lines of a proof record (R172, R173). Every line keeps within the 132 columns and ends in a carriage return
and a line feed; the gap line comes first when lines were not proofed. The header holds the line number and the film tag in
whole points, right-aligned, and the six flag columns; a CUT record has the cut mark after it, an empty TEXT line nothing. A
TEXT record has one character for each item, with a font group before an item whose font differs from the one before it;
characters and groups, a group kept whole, fill 111 columns to a line, in lines that start with 21 spaces after the
first. -/
def Obligations.PrintLinesKeepTheirColumns : Prop :=
  ∀ r : ProofRecord, r.number < 65536 → r.tag / 20 < 10000000 → r.gap ≤ 65535 →
    let gapLines : List (List Byte) := if r.gap = 0 then [] else [gapLine r.gap ++ [0x0D, 0x0A]]
    let column (width n k : Nat) : Byte :=
      let place := width - 1 - k
      if place ≠ 0 ∧ n < 10 ^ place then 0x20 else BitVec.ofNat 8 (0x30 + n / 10 ^ place % 10)
    let field (width n : Nat) : List Byte := (List.range width).map (column width n)
    let flag (on : Bool) (letter : Byte) : Byte := if on = true then letter else 0x2E
    let f := r.flags
    let font (i : ProofItem) : Nat := match i with
      | .code _ n => n
      | .damaged n => n
      | .addedHyphen n => n
      | .space n => n
    let char (i : ProofItem) : Byte := match i with
      | .code c _ => if 0x20 ≤ c.toNat ∧ c.toNat ≤ 0x7E then c else 0x7E
      | .damaged _ => 0x7E
      | .addedHyphen _ => 0x2D
      | .space _ => 0x20
    let group (n : Nat) : List Byte := [0x7B, BitVec.ofNat 8 (0x30 + n / 10), BitVec.ofNat 8 (0x30 + n % 10), 0x7D]
    let printed (k : Nat) (i : ProofItem) : List (List Byte) :=
      (if k ≠ 0 ∧ (r.text[k - 1]?).map font = some (font i) then [] else [group (font i)]) ++ [[char i]]
    let units : List (List Byte) := r.text.zipIdx.flatMap fun i => printed i.2 i.1
    (∀ l ∈ r.printLines, l.length ≤ 134 ∧ l.drop (l.length - 2) = [0x0D, 0x0A]) ∧
    r.header = field 5 r.number ++ [0x20] ++ field 7 (r.tag / 20) ++ [0x20] ++
      [flag f.hyphenEnded 0x48, flag f.loose 0x4C, flag (f.overset || f.forced) 0x4F, flag f.sizeSubstituted 0x53,
        flag (f.dropped || f.damaged || f.reject) 0x44, flag (decide (r.outcome = .fault)) 0x46] ++ [0x20] ∧
    r.header.length = 21 ∧
    (r.gap = 0 → (r.printLines.head?.map fun l => l.take 21) = some r.header) ∧
    (r.gap ≠ 0 → (r.printLines[1]?.map fun l => l.take 21) = some r.header) ∧
    (r.kind ≠ .cut → r.text = [] → r.printLines = gapLines ++ [r.header ++ [0x0D, 0x0A]]) ∧
    (r.kind = .cut →
      r.printLines = gapLines ++ [r.header ++ ascii "---- CUT ----".toList ++ [0x0D, 0x0A]]) ∧
    (r.kind ≠ .cut → (∀ i ∈ r.text, font i ≤ 63) →
      ∃ first rest, ((first :: rest) : List (List (List Byte))).flatten = units ∧
        r.printLines = gapLines ++ ((r.header ++ first.flatten ++ [0x0D, 0x0A]) ::
          rest.map fun l => List.replicate 21 0x20 ++ l.flatten ++ [0x0D, 0x0A]) ∧
        (∀ l ∈ first :: rest, l.flatten.length ≤ 111) ∧
        ∀ k a b, (first :: rest)[k]? = some a → (first :: rest)[k + 1]? = some b →
          ∃ u us, b = u :: us ∧ 111 < a.flatten.length + u.length)

/-- The Proof Spooler's decision on a line that has reached its imaging end (R120, R165 to R168): freed, copied into
the proof queue with the gap count, awaiting a place, or skipped and counted. A record that enters an idle port's queue
begins at once, BUSY being looked at (R171, R174); its contents are those of R166. That a freed slot holds the blank
record is log entry 28 (DEDUCED). -/
def Obligations.ImagingEndDecidesTheProof : Prop :=
  ∀ (p : Photo) (i : Nat), i < 8 → i ∉ p.store.awaiting → p.proof.gap ≤ 65535 →
    let r := p.store.record i
    let flagged := r.outcome = some .fault ∨ r.flags.loose ∨ r.flags.overset ∨ r.flags.forced ∨
      r.flags.sizeSubstituted ∨ r.flags.reject ∨ r.flags.damaged ∨ r.flags.dropped ∨ r.flags.coverOpened ∨
      r.flags.reverseClamped
    let chosen := r.kind ≠ .stop ∧ r.outcome ≠ some .discarded ∧
      (p.proof.mode = .all ∨ (p.proof.mode = .flagged ∧ flagged))
    let freed := p.store.putSlot i ⟨.free, .blank⟩
    (¬chosen → p.decideProof i = { p with store := freed }) ∧
    (chosen → p.proof.printer = .online → p.proof.queue.length < 12 →
      p.decideProof i = { p with
        store := freed
        proof := portLooks
          { p.proof with queue := p.proof.queue ++ [proofOf r p.proof.gap], gap := 0 } p.busy }) ∧
    (chosen → p.proof.printer = .online → 12 ≤ p.proof.queue.length → p.proof.policy = .hold →
      p.decideProof i = { p with store :=
        { p.store.putSlot i ⟨.setAwaiting, r⟩ with awaiting := p.store.awaiting ++ [i] } }) ∧
    (chosen → p.proof.printer ≠ .online ∨ (12 ≤ p.proof.queue.length ∧ p.proof.policy = .skip) →
      p.decideProof i = { p with
        store := freed
        proof := { p.proof with gap := min 65535 (p.proof.gap + 1) }
        reply := { p.reply with pending := p.reply.pending ||| 0x100000 } })

/-- The printer's lines (R169 to R171, R174, R175): SELECT takes the port offline and back, every awaiting slot being
released and counted as not proofed; BUSY holds a byte, ACK accepts it and moves to the next byte, the next print line,
or the end of the record, where the slot that waits longest is copied into the queue; the two timers end a try. That a
timer's expiry with its timer not running, and a switch event without a change, do nothing are log entries 1 and 33
(DESIGN CHOICE). That a freed slot holds the blank record is log entry 28 (DEDUCED). -/
def Obligations.PrinterHandshake : Prop :=
  ∀ s : State, HeldSyncLaw s → s.pins.resetLine = false → s.proof.gap ≤ 65535 →
    let x := s.proof
    let line := ((x.queue.head?.map fun r => (r.printLines[x.printLine]?).getD []).getD [])
    let goesOffline (note : Bool) (pins : Pins) (r : StepResult) : Prop :=
      AnswersWith r fun t =>
        t.pins = pins ∧
        t.proof = { x with
          printer := .offline note, port := .idle, printLine := 0, printByte := 0
          gap := min 65535 (x.gap + s.store.awaiting.length) } ∧
        t.store.awaiting = [] ∧
        (∀ j, j < 8 →
          t.store.slot j = if j ∈ s.store.awaiting then ⟨.free, .blank⟩ else s.store.slot j) ∧
        { t.store with slots := s.store.slots, awaiting := s.store.awaiting } = s.store ∧
        t.reply = { s.reply with pending :=
          s.reply.pending ||| 0x80000 ||| (if s.store.awaiting = [] then 0 else 0x100000) } ∧
        { t with pins := s.pins, proof := x, store := s.store, reply := s.reply } = s
    (s.pins.select = true → x.printer = .online →
      goesOffline true { s.pins with select := false } (exec .selectInactive s)) ∧
    (∀ note, s.pins.select = true → x.printer = .offline note →
      exec .selectInactive s =
        .next { s with pins := { s.pins with select := false }, proof := { x with printer := .offline true } }) ∧
    (s.pins.select = false → exec .selectInactive s = .next s) ∧
    (∀ busy, s.pins.select = true → exec (.selectActive busy) s = .next s) ∧
    (∀ busy, s.pins.select = false →
      let pins := { s.pins with select := true }
      (x.printer = .offline true →
        exec (.selectActive busy) s =
          .next { s with pins := pins, proof := portLooks { x with printer := .online } busy }) ∧
      (x.printer ≠ .offline true → exec (.selectActive busy) s = .next { s with pins := pins })) ∧
    (x.printer = .online → x.port = .waitBusy →
      exec .busyInactive s =
        .next { s with proof := { x with port := .waitAck, data := line.getD x.printByte 0 } }) ∧
    (x.port ≠ .waitBusy → exec .busyInactive s = .next s) ∧
    (x.port = .waitBusy → goesOffline false s.pins (exec .busyTimeout s)) ∧
    (x.port ≠ .waitBusy → exec .busyTimeout s = .next s) ∧
    (x.port = .waitAck → exec .ackTimeout s = .next { s with proof := { x with port := .waitAckRetry } }) ∧
    (x.port = .waitAckRetry → goesOffline false s.pins (exec .ackTimeout s)) ∧
    (x.port = .idle ∨ x.port = .waitBusy → exec .ackTimeout s = .next s) ∧
    (∀ busy, x.port = .idle ∨ x.port = .waitBusy → exec (.ack busy) s = .next s) ∧
    ∀ busy r rest, x.printer = .online → (x.port = .waitAck ∨ x.port = .waitAckRetry) → x.queue = r :: rest →
      let goesOn (y : Proof) : Proof := portLooks { y with port := .idle } busy
      (x.printByte + 1 < line.length →
        exec (.ack busy) s = .next { s with proof := goesOn { x with printByte := x.printByte + 1 } }) ∧
      (line.length ≤ x.printByte + 1 → x.printLine + 1 < r.printLines.length →
        exec (.ack busy) s = .next { s with proof := goesOn { x with
          printLine := x.printLine + 1, printByte := 0 } }) ∧
      (line.length ≤ x.printByte + 1 → r.printLines.length ≤ x.printLine + 1 →
        (s.store.awaiting = [] →
          exec (.ack busy) s = .next { s with proof := goesOn { x with
            queue := rest, printLine := 0, printByte := 0 } }) ∧
        ∀ i waiting, s.store.awaiting = i :: waiting →
          exec (.ack busy) s = .next { s with
            proof := goesOn { x with
              queue := rest ++ [proofOf (s.store.record i) x.gap], gap := 0, printLine := 0, printByte := 0 }
            store := { s.store.putSlot i ⟨.free, .blank⟩ with
              awaiting := s.store.awaiting.filter fun j => decide (j ≠ i) } })

/-! ### The Imager -/

/-- The Imager takes the head of the ready list in STANDBY or IDLE (R116, R119, R130, R132, R145): a line marked for
discard and a STOP record are resolved at once, a line with glyphs starts a STOPPED disc, and the film move is asked
for. Film Transport clamps a reverse at its lowest permitted position (R152), moves, is done at once where the target
is the position it has (R154), and holds the request without film enough, without a cassette or behind another motion
(R153, R160). Otherwise the step does nothing (log entry 1, DESIGN CHOICE). That the film position of a discarded or
STOP record becomes the tag last reported is log entry 15 (DEDUCED). A CUT record whose film move is done at once goes
on to its cut (R144, R156). That a freed slot holds the blank record is log entry 28 (DEDUCED). -/
def Obligations.ImagerTakesTheHeadOfTheReadyList : Prop :=
  (∀ (busy : Bool) (s : State), HeldSyncLaw s →
    (s.store.ready = [] ∨ (s.imager.state ≠ .standby ∧ s.imager.state ≠ .idle)) →
    exec (.takeLine busy) s = .next s) ∧
  ∀ (busy : Bool) (s : State) (i : Nat) (rest : List Nat), HeldSyncLaw s → FilmLaw s → s.store.ready = i :: rest →
    i < 8 → (s.imager.state = .standby ∨ s.imager.state = .idle) →
    (∀ j, j < 8 → (s.store.slot j).state ≠ .imaging) → i ∉ s.store.awaiting →
    let r := s.store.record i
    let x := s.imager
    let y := s.film
    let logged (o : LineOutcome) : Log := (s.log.append ⟨r.number, r.kind, o, r.flags, y.f, 0, 0, 0, 0⟩).1
    let fresh : Progress := ⟨i, .film, 0, false, 0, 0, 0, 0, 0, false, false⟩
    let imaging (q : LineRecord) : Store := { s.store.putSlot i ⟨.imaging, q⟩ with ready := rest }
    let floor := if r.columnMark then y.f else y.floor
    let low := max floor (y.h - 14400)
    let clamped : Bool := decide ((y.f : Int) + r.filmMove < low)
    let target := if clamped then low else ((y.f : Int) + r.filmMove).toNat
    let flagged : LineRecord :=
      if clamped then { r with flags := { r.flags with reverseClamped := true } } else r
    let note : Word24 := if clamped then 0x20000 else 0
    let request : Request := .move r.filmMove r.columnMark
    let needsDisc := r.kind = .text ∧ r.glyphs ≠ []
    let waits (q : LineRecord) (film : Film) (set : Word24) (begun : Imager) : State := { s with
      store := imaging q, film := film, imager := begun
      reply := { s.reply with pending := s.reply.pending ||| set } }
    (r.discard = true → AnswersWith (exec (.takeLine busy) s) fun t =>
      t.store.slot i = ⟨.free, .blank⟩ ∧ t.store.ready = rest ∧ t.log = logged .discarded ∧ t.film = y ∧
        t.imager = { x with line := none, filmTag := y.f } ∧ t.proof = s.proof) ∧
    (r.discard = false → r.kind = .stop → AnswersWith (exec (.takeLine busy) s) fun t =>
      t.store.slot i = ⟨.free, .blank⟩ ∧ t.store.ready = rest ∧ t.log = logged .set ∧ t.film = y ∧
        t.proof = s.proof ∧
        t.imager = { x with
          line := none, filmTag := y.f, state := .standby, disc := .stopped, history := [], stamp := 0
          recheck := false, sectors := none }) ∧
    (r.discard = false → r.kind ≠ .stop → y.transport = .fault → AnswersWith (exec (.takeLine busy) s) fun t =>
      t.imager.state = .halted ∧ t.imager.line = none ∧ t.reply.pending.getLsbD 16 = true ∧
        t.log = (s.log.append ⟨r.number, r.kind, .fault, r.flags, x.filmTag, 0, 0, 0, 0⟩).1) ∧
    (r.discard = false → r.kind ≠ .stop → ∀ begun : Imager,
      (needsDisc → x.disc = .stopped ∧
        begun = { x with line := some fresh, state := .spinUp, disc := .starting, sectors := none }) →
      (¬needsDisc → begun = { x with line := some fresh, state := .setting }) →
      (y.transport = .ready → 0 < y.l → target ≤ y.l → target ≠ y.f →
        exec (.takeLine busy) s = .next
          (waits flagged { y with floor := floor, held := none, transport := .moving target true } note begun)) ∧
      (y.transport = .ready → 0 < y.l → y.l < target →
        exec (.takeLine busy) s = .next
          (waits flagged { y with floor := floor, held := some request, transport := .filmOut } (note ||| 0x8000)
            begun)) ∧
      (y.transport = .ready → 0 < y.l → target = y.f → needsDisc →
        exec (.takeLine busy) s = .next
          (waits flagged { y with floor := floor, held := none } note
            { begun with filmTag := y.f, line := some { fresh with phase := .glyph } })) ∧
      (y.transport = .filmOut ∨ y.transport = .noCassette →
        exec (.takeLine busy) s = .next (waits r { y with held := some request } 0x8000 begun)) ∧
      ((∃ t w, y.transport = .moving t w ∨ y.transport = .cutAdvance t w) ∨ (∃ w, y.transport = .cutStroke w) →
        exec (.takeLine busy) s = .next (waits r { y with held := some request } 0 begun))) ∧
    (r.discard = false → r.kind = .text → r.glyphs = [] → y.transport = .ready → 0 < y.l → target = y.f →
      AnswersWith (exec (.takeLine busy) s) fun t =>
        t.imager = { x with line := none, filmTag := y.f, state := if x.disc = .stopped then .standby else .idle } ∧
        t.film = { y with floor := floor, held := none } ∧
        t.log = (s.log.append ⟨r.number, .text, .set, flagged.flags, y.f, 0, 0, 0, 0⟩).1) ∧
    (r.discard = false → r.kind = .cut → y.transport = .ready → 0 < y.l → target = y.f →
      AnswersWith (exec (.takeLine busy) s) fun t => t.store = imaging flagged ∧
        CutGoesOn s { x with state := .setting, line := some fresh, filmTag := y.f } fresh
          { y with floor := floor, held := none } note t) ∧
    (∀ g, r.discard = false → r.kind = .text → r.glyphs[0]? = some g → x.disc ≠ .stopped → y.transport = .ready →
      0 < y.l → target ≤ y.l → target ≠ y.f → AnswersWith (exec (.takeLine busy) s) fun t =>
        t.film = { y with floor := floor, held := none, transport := .moving target true } ∧
        t.store = imaging flagged ∧ t.log = s.log ∧
        (g.disc = x.mounted → t.imager.state = .setting ∧ t.imager.line = some { fresh with positioning := true } ∧
          t.imager.ring = g.ring ∧
          (x.carriageMove = none → x.carriage ≠ some g.x → t.imager.carriageMove = some g.x)) ∧
        (g.disc ≠ x.mounted → t.imager.state = .mountWait ∧ t.imager.line = some fresh ∧
          t.reply.pending.getLsbD 10 = true))

/-- Turret steps, ring settling and homing (R126, R135, R136): a homing step ends at the detent or in TURRET FAULT after
11 steps; a positioning step moves one lens position the shorter way and checks the detent against it. A step done with no step in flight does nothing,
after a fault as the manual says and in any other state by log entry 1 (DESIGN CHOICE). -/
def Obligations.TurretAndRingMotions : Prop :=
  ∀ (busy : Bool) (s : State), HeldSyncLaw s →
    let x := s.imager
    (x.turretStep = none → ∀ detent, exec (.turretStepDone detent busy) s = .next s) ∧
    (exec .ringSettleExpiry s = .next { s with imager := { x with ringSettling := false } }) ∧
    (∀ way, x.turretStep = some way → x.state = .homing →
      (exec (.turretStepDone true busy) s = .next { s with imager := { x with
        turretStep := none
        turret := some 0
        state := if x.carriageMove = none ∧ x.carriage = some 0 then .standby else .homing } }) ∧
      (x.homingSteps < 11 →
        exec (.turretStepDone false busy) s = .next { s with imager := { x with
          turretStep := some .ascending, homingSteps := x.homingSteps + 1 } }) ∧
      (11 ≤ x.homingSteps → HaltsWith .turretFault [.turret] s (exec (.turretStepDone false busy) s))) ∧
    ∀ way p, x.turretStep = some way → x.turret = some p → x.state ≠ .homing →
      ¬(x.state = .suspended ∧ x.returnState = some .homing) → x.state ≠ .halted →
      let q := if way = .ascending then (p + 1) % 12 else (p + 11) % 12
      (∀ detent : Bool, detent ≠ decide (q = 0) →
        HaltsWith .turretFault [.turret] s (exec (.turretStepDone detent busy) s)) ∧
      (x.line = none ∨ x.state ≠ .setting →
        exec (.turretStepDone (decide (q = 0)) busy) s =
          .next { s with imager := { x with turretStep := none, turret := some q } }) ∧
      ∀ pr g, CurrentGlyph s pr g → x.state = .setting → pr.positioning = true →
        (pr.phase = .film ∨ pr.phase = .glyph) → g.disc = x.mounted → x.ring = g.ring →
        (x.carriageMove.isSome = true ∨ x.carriage = some g.x) →
        let d := (g.lens + 12 - q) % 12
        exec (.turretStepDone (decide (q = 0)) busy) s = .next { s with imager := { x with
          turretStep := if d = 0 then none else if d ≤ 6 then some .ascending else some .descending
          turret := some q } }

/-- The carriage arrives (R126, R137, R143): HOMING ends in STANDBY with the turret at its detent; a line in its return
phase is completed with the outcome SET; a CUT record in its cut phase asks for its cut (R144, R156); in SUSPENDED the
arrival is only recorded, in the return phase too (log entry 10, DEDUCED), and an arrival with no move in flight does
nothing (log entry 1, DESIGN CHOICE). -/
def Obligations.CarriageArrives : Prop :=
  ∀ (busy : Bool) (s : State), HeldSyncLaw s →
    let x := s.imager
    (x.carriageMove = none → exec (.carriageArrival busy) s = .next s) ∧
    ∀ target, x.carriageMove = some target →
      (x.state = .homing →
        exec (.carriageArrival busy) s = .next { s with imager := { x with
          carriage := some target
          carriageMove := none
          state := if target = 0 ∧ x.turretStep = none ∧ x.turret = some 0 then .standby else .homing } }) ∧
      (x.state ≠ .homing → x.state ≠ .setting →
        exec (.carriageArrival busy) s =
          .next { s with imager := { x with carriage := some target, carriageMove := none } }) ∧
      (∀ pr g, CurrentGlyph s pr g → x.state = .setting → pr.positioning = true →
        (pr.phase = .film ∨ pr.phase = .glyph) → g.disc = x.mounted → x.ring = g.ring →
        (x.turretStep.isSome = true ∨ x.turret = some g.lens) → g.lens < 12 →
        exec (.carriageArrival busy) s = .next { s with imager := { x with
          carriage := some target
          carriageMove := if target = g.x then none else some g.x } }) ∧
      (∀ pr, x.line = some pr → x.state = .setting → pr.phase = .cut → pr.cutAsked = false → pr.cutDone = false →
        AnswersWith (exec (.carriageArrival busy) s)
          (CutGoesOn s { x with carriage := some target, carriageMove := none } pr s.film 0)) ∧
      ∀ pr, x.line = some pr → x.state = .setting → pr.phase = .back → target = 0 →
        let r := s.store.record pr.slot
        AnswersWith (exec (.carriageArrival busy) s) fun t =>
          t.imager = { x with
            carriage := some 0, carriageMove := none, line := none
            state := if x.disc = .stopped then .standby else .idle } ∧
          t.log = (s.log.append ⟨r.number, r.kind, .set, r.flags, x.filmTag, pr.exposed, pr.dropped, pr.retries,
            pr.deferrals⟩).1 ∧
          t.film = s.film ∧ t.composer = s.composer

/-- The five timers of the photo unit (R127, R128, R136, R137, R147, R148): each expiry halts the Imager with its
fault; in HALTED an expiry that the halting fault came together with only posts its event. That such an expiry may come
at any time until the Imager leaves HALTED, and that an expiry with its timer neither running nor so cancelled does
nothing, are the model's choices (log entries 36 and 1). That the sector-gap timer runs exactly while the disc is
RUNNING is log entry 8 (DEDUCED). -/
def Obligations.PhotoUnitTimersHaltTheImager : Prop :=
  ∀ (busy : Bool) (s : State), HeldSyncLaw s →
    let x := s.imager
    let expiry (timer : ImagerTimer) : Instr :=
      match timer with
      | .turret => .turretStepTimeout busy
      | .carriage => .carriageTimeout busy
      | .spinUp => .spinUpTimeout busy
      | .sectorGap => .sectorGapTimeout busy
      | .recheck => .recheckTimeout busy
    let fault (timer : ImagerTimer) : Event :=
      match timer with
      | .turret => .turretFault
      | .carriage => .carriageFault
      | .spinUp => .discStall
      | .sectorGap => .discStall
      | .recheck => .discStall
    let runs (timer : ImagerTimer) : Prop :=
      match timer with
      | .turret => x.turretStep ≠ none
      | .carriage => x.carriageMove ≠ none
      | .spinUp => x.disc = .starting
      | .sectorGap => x.disc = .running
      | .recheck => x.recheck = true
    ∀ timer : ImagerTimer,
      (runs timer → x.state ≠ .halted → HaltsWith (fault timer) [timer] s (exec (expiry timer) s)) ∧
      (¬runs timer → x.state = .halted → timer ∈ x.cancelled →
        exec (expiry timer) s = .next (posted (fault timer)
          { s with imager := { x with cancelled := x.cancelled.filter fun other => decide (other ≠ timer) } })) ∧
      (¬runs timer → ¬(x.state = .halted ∧ timer ∈ x.cancelled) → exec (expiry timer) s = .next s)

/-- A sector event (R127, R128, R138 to R142): the stamp count, the history and the pending lamp values; the current
glyph in place at its sector fires within the budget and is deferred outside it; a confirm window still open is a
misfire, the second of a glyph drops it, the third drop of a line halts with LAMP FAULT. After a drop in SETTING the
next glyph is begun, or the return phase after the last; a next glyph that is in place fires at this very sector event
where it is due (R140; that the window is dealt with before the firing is judged is log entry 20, DEDUCED). That the
ages of firings are differences of stamp counts modulo 2^32, that a line's count of deferrals stays at 65535, and that
a ring-settle timer still running is waited for though the ring does not change, are log entries 30, 29 and 19
(DEDUCED). -/
def Obligations.SectorEventFiresDefersOrDrops : Prop :=
  ∀ (n : BitVec 7) (busy : Bool) (s : State), HeldSyncLaw s →
    let x := s.imager
    (x.disc = .stopped → exec (.sectorEvent n busy) s = .next s) ∧
    (x.disc ≠ .stopped →
      let now := (x.stamp + 1) % 4294967296
      let lamp := x.pendingLamp.getD (x.window, x.most)
      let kept := x.history.filter fun h => decide ((now + 4294967296 - h) % 4294967296 < 32)
      let recent := kept.countP fun h => decide ((now + 4294967296 - h) % 4294967296 < lamp.1)
      let turned : Imager := { x with
        stamp := now, history := kept, sectors := x.sectors.map (· + 1), window := lamp.1, most := lamp.2
        pendingLamp := none }
      (x.line = none → x.confirmWindow = false →
        exec (.sectorEvent n busy) s = .next { s with imager := turned }) ∧
      (∀ pr g, CurrentGlyph s pr g →
        let due := x.state = .setting ∧ x.disc = .running ∧ pr.phase = .glyph ∧ pr.positioning = true ∧ InPlace x g ∧
          n.toNat = g.position
        (x.confirmWindow = false → ¬due → exec (.sectorEvent n busy) s = .next { s with imager := turned }) ∧
        (x.confirmWindow = false → due → recent < lamp.2 →
          exec (.sectorEvent n busy) s = .next { s with imager := { turned with
            history := (if 8 ≤ kept.length then kept.tail else kept) ++ [now]
            confirmWindow := true
            line := some { pr with retries := if pr.misfires = 0 then pr.retries else pr.retries + 1 } } }) ∧
        (pr.deferrals ≤ 65535 → x.confirmWindow = false → due → lamp.2 ≤ recent →
          exec (.sectorEvent n busy) s = .next { s with imager := { turned with
            line := some { pr with deferrals := min 65535 (pr.deferrals + 1) } } }) ∧
        (x.confirmWindow = true → pr.misfires = 0 → ¬due →
          exec (.sectorEvent n busy) s = .next { s with imager := { turned with
            confirmWindow := false, line := some { pr with misfires := 1 } } })) ∧
      ∀ pr, x.line = some pr → x.confirmWindow = true → pr.misfires ≠ 0 → pr.dropped < 2 → x.state = .suspended →
        let r := s.store.record pr.slot
        AnswersWith (exec (.sectorEvent n busy) s) fun t =>
          t.imager = { turned with
            confirmWindow := false
            line := some { pr with
              dropped := pr.dropped + 1, glyph := pr.glyph + 1, misfires := 0, positioning := false
              phase := if pr.glyph + 1 < r.glyphs.length then pr.phase else .back } } ∧
          t.reply.pending = s.reply.pending ||| 0x400000 ∧
          (pr.slot < 8 → (t.store.record pr.slot).flags = { r.flags with dropped := true }) ∧
          t.film = s.film ∧ t.log = s.log) ∧
    (x.disc ≠ .stopped → ∀ pr, x.line = some pr → x.confirmWindow = true → pr.misfires ≠ 0 → pr.dropped < 2 →
      x.state = .setting → pr.slot < 8 →
      let now := (x.stamp + 1) % 4294967296
      let lamp := x.pendingLamp.getD (x.window, x.most)
      let kept := x.history.filter fun h => decide ((now + 4294967296 - h) % 4294967296 < 32)
      let closed : Imager := { x with
        stamp := now, history := kept, sectors := x.sectors.map (· + 1), window := lamp.1, most := lamp.2
        pendingLamp := none, confirmWindow := false }
      let r := s.store.record pr.slot
      let flagged : LineRecord := { r with flags := { r.flags with dropped := true } }
      let next : Progress := { pr with
        dropped := pr.dropped + 1, glyph := pr.glyph + 1, misfires := 0, positioning := false }
      (∀ g, r.glyphs[pr.glyph + 1]? = some g → (pr.phase = .film ∨ pr.phase = .glyph) →
        (n.toNat ≠ g.position → AnswersWith (exec (.sectorEvent n busy) s) fun t =>
          GlyphBegins s closed next g 0x400000 t ∧ t.store = s.store.putRecord pr.slot flagged ∧ t.log = s.log) ∧
        (n.toNat = g.position → pr.phase = .glyph → g.disc = x.mounted → x.disc = .running → InPlace x g →
          (kept.countP fun h => decide ((now + 4294967296 - h) % 4294967296 < lamp.1)) < lamp.2 →
          AnswersWith (exec (.sectorEvent n busy) s) fun t =>
            t.imager.line = some { next with positioning := true } ∧ t.imager.confirmWindow = true ∧
              t.imager.history = (if 8 ≤ kept.length then kept.tail else kept) ++ [now])) ∧
      (r.glyphs.length = pr.glyph + 1 → AnswersWith (exec (.sectorEvent n busy) s) fun t =>
        GoesHome s closed next flagged t ∧ t.reply.pending.getLsbD 22 = true ∧ t.film = s.film)) ∧
    ∀ pr, x.disc ≠ .stopped → x.line = some pr → x.confirmWindow = true → pr.misfires ≠ 0 → 2 ≤ pr.dropped →
      x.state ≠ .halted →
      AnswersWith (exec (.sectorEvent n busy) s) fun t =>
        t.imager.state = .halted ∧ t.imager.line = none ∧ t.reply.pending.getLsbD 11 = true ∧
          t.reply.pending.getLsbD 22 = true

/-- An index event (R127, R128, R133, R134, R147): a whole turn at speed ends spin-up with the identity mounted; a
short or long turn of a RUNNING disc is a stall; a MOUNT WAIT ends at the wanted disc, and a recheck at its index,
where the stamp count runs on (log entry 35, DESIGN CHOICE) and a line in hand resumes in the phase where it stood.
That a whole turn counts 112 sector events from one index event to the next, the sector event 0 taken before its index
event, is log entry 7, and that a ring-settle timer still running is waited for is log entry 19 (both DEDUCED). -/
def Obligations.IndexEventByDiscState : Prop :=
  ∀ (d : BitVec 6) (busy : Bool) (s : State), HeldSyncLaw s →
    let x := s.imager
    (x.disc = .stopped → exec (.indexEvent d busy) s = .next s) ∧
    ((x.disc = .starting ∧ x.sectors ≠ some 112) ∨ (x.disc = .unconfirmed ∧ x.recheck = false) →
      exec (.indexEvent d busy) s = .next { s with imager := { x with sectors := some 0 } }) ∧
    (x.disc = .running → x.sectors ≠ some 112 → x.state ≠ .halted →
      HaltsWith .discStall [] s (exec (.indexEvent d busy) s)) ∧
    (x.disc = .running → x.sectors = some 112 → x.state ≠ .mountWait →
      exec (.indexEvent d busy) s = .next { s with imager := { x with sectors := some 0 } }) ∧
    (x.disc = .starting → x.sectors = some 112 → s.pins.coverOpen = true →
      exec (.indexEvent d busy) s = .next { s with imager := { x with sectors := some 0, disc := .unconfirmed } }) ∧
    (x.disc = .unconfirmed → x.recheck = true → x.returnState = some .idle →
      exec (.indexEvent d busy) s = .next { s with imager := { x with
        sectors := some 0, disc := .running, mounted := d.toNat, recheck := false, state := .idle
        returnState := none } }) ∧
    (x.disc = .unconfirmed → x.recheck = true →
      (x.returnState = some .spinUp ∨ x.returnState = some .setting ∨ x.returnState = some .mountWait) →
      ∀ pr, x.line = some pr →
      let r := s.store.record pr.slot
      let z : Imager := { x with
        sectors := some 0, disc := .running, mounted := d.toNat, recheck := false, state := .setting
        returnState := none }
      (pr.phase = .film ∨ pr.phase = .glyph →
        (∀ g, CurrentGlyph s pr g → AnswersWith (exec (.indexEvent d busy) s) (GlyphBegins s z pr g 0)) ∧
        (r.glyphs[pr.glyph]? = none → exec (.indexEvent d busy) s = .next { s with imager := z })) ∧
      (pr.phase = .back →
        (r.glyphs ≠ [] → AnswersWith (exec (.indexEvent d busy) s) (GoesHome s z pr r)) ∧
        (r.glyphs = [] → AnswersWith (exec (.indexEvent d busy) s) (CompletesLine s z pr r))) ∧
      (pr.phase = .cut →
        (pr.cutAsked = false → pr.cutDone = false →
          AnswersWith (exec (.indexEvent d busy) s) (CutGoesOn s z pr s.film 0)) ∧
        (pr.cutAsked = true → pr.cutDone = false → exec (.indexEvent d busy) s = .next { s with imager := z }) ∧
        (pr.cutDone = true → AnswersWith (exec (.indexEvent d busy) s) (CompletesLine s z pr r)))) ∧
    ∀ pr g, CurrentGlyph s pr g → (pr.phase = .film ∨ pr.phase = .glyph) →
      ((x.disc = .starting ∧ x.sectors = some 112 ∧ s.pins.coverOpen = false ∧ x.state = .spinUp) →
        (g.disc = d.toNat → AnswersWith (exec (.indexEvent d busy) s) fun t =>
          t.imager.state = .setting ∧ t.imager.disc = .running ∧ t.imager.mounted = d.toNat ∧ t.imager.stamp = 0 ∧
            t.imager.sectors = some 0 ∧ t.imager.ring = g.ring ∧
            (x.carriageMove = none → x.carriage ≠ some g.x → t.imager.carriageMove = some g.x) ∧
            t.imager.line = some { pr with positioning := true } ∧ t.store = s.store ∧ t.film = s.film) ∧
        (g.disc ≠ d.toNat → AnswersWith (exec (.indexEvent d busy) s) fun t =>
          t.imager = { x with
            state := .mountWait, returnState := none, disc := .running, mounted := d.toNat, stamp := 0
            sectors := some 0, line := some { pr with positioning := false } } ∧
          t.reply.pending = s.reply.pending ||| 0x400 ∧
          (s.reply.queue.length < 8 →
            t.reply.queue = s.reply.queue ++ [.mount g.disc (s.store.record pr.slot).number]) ∧
          (8 ≤ s.reply.queue.length → t.reply.queue = s.reply.queue))) ∧
      (x.disc = .running → x.sectors = some 112 → x.state = .mountWait →
        (g.disc ≠ d.toNat → exec (.indexEvent d busy) s = .next { s with imager := { x with sectors := some 0 } }) ∧
        (g.disc = d.toNat → AnswersWith (exec (.indexEvent d busy) s) fun t =>
          t.imager.state = .setting ∧ t.imager.mounted = d.toNat ∧
            t.imager.line = some { pr with positioning := true }))

/-- A flash confirm in a confirm window exposes the glyph and goes on to the next, or to the return phase after the
last; with no window open it is disregarded (R140, R143). That the last confirm of a line taken in SUSPENDED only
records the return phase, which begins when the Imager resumes, is log entry 10 (DEDUCED). -/
def Obligations.FlashConfirmExposesTheGlyph : Prop :=
  ∀ (busy : Bool) (s : State), HeldSyncLaw s →
    let x := s.imager
    (x.confirmWindow = false → exec (.flashConfirm busy) s = .next s) ∧
    ∀ pr, x.line = some pr → x.confirmWindow = true →
      let r := s.store.record pr.slot
      let next : Progress := { pr with
        exposed := pr.exposed + 1, glyph := pr.glyph + 1, misfires := 0, positioning := false }
      (x.state = .suspended →
        exec (.flashConfirm busy) s = .next { s with imager := { x with
          confirmWindow := false
          line := some { next with phase := if pr.glyph + 1 < r.glyphs.length then pr.phase else .back } } }) ∧
      (x.state = .setting → r.glyphs.length = pr.glyph + 1 → x.carriageMove = none → x.carriage ≠ some 0 →
        exec (.flashConfirm busy) s = .next { s with imager := { x with
          confirmWindow := false, carriageMove := some 0, line := some { next with phase := .back } } }) ∧
      ∀ g, x.state = .setting → (pr.phase = .film ∨ pr.phase = .glyph) → r.glyphs[pr.glyph + 1]? = some g →
        (g.disc = x.mounted → AnswersWith (exec (.flashConfirm busy) s) fun t =>
          t.imager.line = some { next with positioning := true } ∧ t.imager.confirmWindow = false ∧
            t.imager.ring = g.ring ∧ (x.ring ≠ g.ring → t.imager.ringSettling = true) ∧
            (x.carriageMove = none → x.carriage ≠ some g.x → t.imager.carriageMove = some g.x)) ∧
        (g.disc ≠ x.mounted → AnswersWith (exec (.flashConfirm busy) s) fun t =>
          t.imager.state = .mountWait ∧ t.imager.line = some next ∧ t.reply.pending.getLsbD 10 = true)

/-- The cover (R146, R147, R149): opening suspends the Imager with COVER OPEN, a RUNNING disc left UNCONFIRMED and a
line flagged; closing returns it, through a recheck where the disc is UNCONFIRMED, or begins HOMING, out of HALTED or
again from the start, with Film Transport leaving FAULT at the homing notice (R126, R161). That a switch event without
a change does nothing, that an opening ends a recheck, that a HOMING begun again keeps the carriage move and the turret
step still in flight, and that a turret found at its detent is in position at once, are the model's choices (log
entries 33, 9 and 18). That the phase of a line which ended while SUSPENDED goes on when the Imager resumes is log
entry 10 (DEDUCED). -/
def Obligations.CoverSuspendsAndReturns : Prop :=
  ∀ (busy : Bool) (s : State), HeldSyncLaw s → s.pins.resetLine = false →
    let x := s.imager
    let opened := { s.pins with coverOpen := true }
    let closed := { s.pins with coverOpen := false }
    (s.pins.coverOpen = true → exec .coverOpens s = .next s) ∧
    (s.pins.coverOpen = false →
      (x.state = .halted →
        exec .coverOpens s = .next { s with pins := opened, imager := { x with coverNote := true } }) ∧
      (x.state = .suspended →
        exec .coverOpens s = .next { s with pins := opened, imager := { x with recheck := false } }) ∧
      (x.state ≠ .halted → x.state ≠ .suspended → AnswersWith (exec .coverOpens s) fun t =>
        t.pins = opened ∧ t.reply.pending = s.reply.pending ||| 0x40000 ∧
        t.imager = { x with
          state := .suspended
          returnState := some x.state
          disc := if x.disc = .running then .unconfirmed else x.disc } ∧
        (x.line = none → t.store = s.store) ∧
        (∀ pr, x.line = some pr → pr.slot < 8 →
          t.store.record pr.slot = { s.store.record pr.slot with
            flags := { (s.store.record pr.slot).flags with coverOpened := true } }) ∧
        { t with pins := s.pins, imager := x, store := s.store, reply := s.reply } = s)) ∧
    (∀ detent, s.pins.coverOpen = false → exec (.coverCloses detent busy) s = .next s) ∧
    ∀ detent, s.pins.coverOpen = true →
      (x.state ≠ .halted → x.state ≠ .suspended → exec (.coverCloses detent busy) s = .next { s with pins := closed }) ∧
      (x.state = .suspended →
        (x.returnState = some .standby → exec (.coverCloses detent busy) s =
          .next { s with pins := closed, imager := { x with state := .standby, returnState := none } }) ∧
        (x.returnState = some .spinUp → x.disc ≠ .unconfirmed → exec (.coverCloses detent busy) s =
          .next { s with pins := closed, imager := { x with state := .spinUp, returnState := none } }) ∧
        (x.returnState = some .idle ∨
            (x.disc = .unconfirmed ∧
              (x.returnState = some .spinUp ∨ x.returnState = some .setting ∨ x.returnState = some .mountWait)) →
          exec (.coverCloses detent busy) s = .next { s with pins := closed, imager := { x with recheck := true } })) ∧
      ((x.state = .halted ∧ x.coverNote = true) ∨ (x.state = .suspended ∧ x.returnState = some .homing) →
        let home := x.carriageMove = none ∧ x.carriage = some 0
        exec (.coverCloses detent busy) s = .next { s with
          pins := closed
          imager := { x with
            state := if home ∧ x.turretStep = none ∧ detent = true then .standby else .homing
            returnState := none, coverNote := false, disc := .stopped, history := [], stamp := 0
            recheck := false, sectors := none, cancelled := []
            carriageMove := if home then none else some (x.carriageMove.getD 0)
            turret := if x.turretStep = none ∧ detent = true then some 0 else none
            turretStep := if x.turretStep = none then (if detent = true then none else some .ascending) else x.turretStep
            homingSteps := if x.turretStep = none ∧ detent = true then 0 else 1 }
          film := { s.film with transport :=
            if s.film.transport = .fault then (if s.film.l = 0 then .filmOut else .ready) else s.film.transport } }) ∧
      (x.state = .suspended → x.returnState = some .setting → x.disc ≠ .unconfirmed → ∀ pr, x.line = some pr →
        let r := s.store.record pr.slot
        (((pr.phase = .film ∨ pr.phase = .glyph) ∧ r.glyphs = []) ∨
            (pr.phase = .cut ∧ pr.cutAsked = true ∧ pr.cutDone = false) →
          exec (.coverCloses detent busy) s = .next { s with
            pins := closed, imager := { x with state := .setting, returnState := none } }) ∧
        (pr.phase = .cut → pr.cutAsked = false → pr.cutDone = false →
          AnswersWith (exec (.coverCloses detent busy) s)
            (CutGoesOn s { x with state := .setting, returnState := none } pr s.film 0)) ∧
        ((pr.phase = .cut ∧ pr.cutDone = true) ∨ (pr.phase = .back ∧ r.glyphs = []) →
          AnswersWith (exec (.coverCloses detent busy) s) fun t =>
            t.imager = { x with
              line := none, returnState := none, state := if x.disc = .stopped then .standby else .idle } ∧
            t.log = (s.log.append ⟨r.number, r.kind, .set, r.flags, x.filmTag, pr.exposed, pr.dropped, pr.retries,
              pr.deferrals⟩).1)) ∧
      (x.state = .halted → x.coverNote = false →
        exec (.coverCloses detent busy) s = .next { s with pins := closed })

/-! ### The film -/

/-- Film moves and cuts end (R132, R144, R151, R154 to R156, R160): F and H follow the target; a cut allowance goes on
to the stroke, a stroke sets the floor and completes the CUT record; a timer's expiry leaves FAULT with FILM FAULT, and
the Imager that waits for the result halts, or whose request is held behind it. A CASSETTE deferred to the end of the
motion is applied there (R159). A CUT record goes on from its film move to the carriage's way home and its cut (R144),
and a TEXT line without glyphs is completed there (R143); outside SETTING the end of the move is only recorded (R146).
A held request is served once a motion that nobody waits for has ended (R160). That an end or expiry with no motion
under way does nothing, and that the failure of a motion that no line waits for is not told to the Imager, are the
model's readings (log entries 1 and 16); so is that a CASSETTE deferred to the end of a move is applied before the
Imager acts on the move's report, so that a CUT record's cut is asked for on the new cassette (log entry 17, DEDUCED).
That an end outside SETTING is recorded until the line resumes is log entry 10 (DEDUCED). -/
def Obligations.FilmMovesAndCutsEnd : Prop :=
  ∀ (busy : Bool) (s : State), HeldSyncLaw s →
    let y := s.film
    let x := s.imager
    let arrived (target : Nat) : Film := { y with f := target, h := max y.h target, transport := .ready }
    let reloaded : Film := { y with
      l := y.a, f := 0, h := 0, floor := 0, deferred := false, transport := if y.a = 0 then .filmOut else .ready }
    let outNote : Word24 := if y.a = 0 then 0x8000 else 0
    let failedFilm : Film := { (if y.deferred then reloaded else y) with transport := .fault, held := none }
    let failed : State := { s with
      film := failedFilm
      reply := { s.reply with pending := s.reply.pending ||| 0x10000 } }
    (∀ target, y.transport = .moving target false → y.held = none → y.deferred = false →
      exec (.filmArrival busy) s =
        .next { s with film := { y with f := target, h := max y.h target, transport := .ready } }) ∧
    (∀ target pr, y.transport = .moving target true → y.held = none → y.deferred = false → x.line = some pr →
      (s.store.record pr.slot).kind = .text → (s.store.record pr.slot).glyphs ≠ [] →
      exec (.filmArrival busy) s = .next { s with
        film := { y with f := target, h := max y.h target, transport := .ready }
        imager := { x with filmTag := target, line := some { pr with phase := .glyph } } }) ∧
    (∀ target pr, y.transport = .moving target true → y.held = none → x.line = some pr →
      let r := s.store.record pr.slot
      let z : Imager := { x with filmTag := target }
      let film := if y.deferred then reloaded else arrived target
      let note : Word24 := if y.deferred then outNote else 0
      let recorded (phase : LinePhase) : State := { s with
        film := film
        reply := { s.reply with pending := s.reply.pending ||| note }
        imager := { z with line := some { pr with phase := phase } } }
      (r.kind = .cut →
        (x.state ≠ .setting → exec (.filmArrival busy) s = .next (recorded .cut)) ∧
        (x.state = .setting → pr.cutAsked = false → pr.cutDone = false →
          AnswersWith (exec (.filmArrival busy) s) (CutGoesOn s z pr film note))) ∧
      (r.kind = .text → r.glyphs = [] →
        (x.state ≠ .setting → exec (.filmArrival busy) s = .next (recorded .back)) ∧
        (x.state = .setting → AnswersWith (exec (.filmArrival busy) s) fun t =>
          CompletesLine s z pr r t ∧ t.film = film))) ∧
    (y.held = none → y.deferred = true →
      (∀ target, y.transport = .moving target false → exec (.filmArrival busy) s = .next { s with
        film := reloaded, reply := { s.reply with pending := s.reply.pending ||| outNote } }) ∧
      (∀ target pr, y.transport = .moving target true → x.line = some pr → (s.store.record pr.slot).kind = .text →
        (s.store.record pr.slot).glyphs ≠ [] → exec (.filmArrival busy) s = .next { s with
          film := reloaded
          reply := { s.reply with pending := s.reply.pending ||| outNote }
          imager := { x with filmTag := target, line := some { pr with phase := .glyph } } }) ∧
      (y.transport = .cutStroke false → exec (.cutterDone busy) s = .next { s with
        film := reloaded, reply := { s.reply with pending := s.reply.pending ||| outNote } })) ∧
    (∀ target v, y.transport = .moving target false → y.held = some (.move v false) → y.deferred = false → y.l ≠ 0 →
      v ≠ 0 → ((max y.floor (max y.h target - 14400) : Nat) : Int) ≤ target + v → (target : Int) + v ≤ y.l →
      exec (.filmArrival busy) s = .next { s with film := { arrived target with
        held := none, transport := .moving ((target : Int) + v).toNat true } }) ∧
    (x.state ≠ .halted → y.held ≠ none →
      (∀ target, y.transport = .moving target false ∨ y.transport = .cutAdvance target false →
        HaltsWith .filmFault [] s (exec (.filmMoveTimeout busy) s)) ∧
      (y.transport = .cutStroke false → HaltsWith .filmFault [] s (exec (.cutterTimeout busy) s))) ∧
    (∀ target awaited, y.transport = .cutAdvance target awaited →
      exec (.filmArrival busy) s =
        .next { s with film := { y with f := target, h := max y.h target, transport := .cutStroke awaited } }) ∧
    (y.transport = .cutStroke false → y.held = none → y.deferred = false →
      exec (.cutterDone busy) s = .next { s with film := { y with floor := y.f, transport := .ready } }) ∧
    (∀ pr, y.transport = .cutStroke true → y.held = none → x.line = some pr →
      pr.phase = .cut → x.state = .setting →
      let r := s.store.record pr.slot
      AnswersWith (exec (.cutterDone busy) s) fun t =>
        t.film = (if y.deferred then reloaded else { y with floor := y.f, transport := .ready }) ∧
        (y.deferred = true → y.a = 0 → t.reply.pending.getLsbD 15 = true) ∧ t.imager.line = none ∧
        t.imager.state = (if x.disc = .stopped then .standby else .idle) ∧
        t.log = (s.log.append ⟨r.number, r.kind, .set, r.flags, x.filmTag, pr.exposed, pr.dropped, pr.retries,
          pr.deferrals⟩).1) ∧
    (y.held = none →
      (∀ target, y.transport = .moving target false ∨ y.transport = .cutAdvance target false →
        exec (.filmMoveTimeout busy) s = .next failed) ∧
      (y.transport = .cutStroke false → exec (.cutterTimeout busy) s = .next failed)) ∧
    (∀ target awaited, y.transport = .moving target awaited ∨ y.transport = .cutAdvance target awaited →
      AnswersWith (exec (.filmMoveTimeout busy) s) fun t => t.film = failedFilm) ∧
    (∀ awaited, y.transport = .cutStroke awaited →
      AnswersWith (exec (.cutterTimeout busy) s) fun t => t.film = failedFilm) ∧
    (x.state ≠ .halted →
      (∀ target, y.transport = .moving target true ∨ y.transport = .cutAdvance target true →
        HaltsWith .filmFault [] s (exec (.filmMoveTimeout busy) s)) ∧
      (y.transport = .cutStroke true → HaltsWith .filmFault [] s (exec (.cutterTimeout busy) s))) ∧
    ((∀ target awaited, y.transport ≠ .moving target awaited ∧ y.transport ≠ .cutAdvance target awaited) →
      exec (.filmArrival busy) s = .next s ∧ exec (.filmMoveTimeout busy) s = .next s) ∧
    ((∀ awaited, y.transport ≠ .cutStroke awaited) →
      exec (.cutterDone busy) s = .next s ∧ exec (.cutterTimeout busy) s = .next s)

/-- CASSETTE sets A in points of 20 steps: at once with the film at rest, by a mark that its end applies (R159) in a
motion under way, and A alone with no cassette in; an insertion takes A as the length (R158). A request held for want
of film is served then, its move clamped at position 0, or held again where the film does not reach (R152, R153, R156);
a move that ends at 0 is done at once, and its line goes on (R132, R143, R144). A removal loses the film, and in a
motion or a stroke it is a FILM FAULT that halts the Imager (R157, R148). That a move held again for want of any film
length is held without a clamp, whatever its sign, is log entry 34 (DEDUCED); that a switch event without a change does
nothing is log entry 33 (DESIGN CHOICE). That what ends outside SETTING is recorded until the line resumes is log entry
10 (DEDUCED). -/
def Obligations.CassetteAndItsSwitch : Prop :=
  let loaded (y : Film) (a : Nat) (tr : Transport) : Film :=
    { y with a := a, l := a, f := 0, h := 0, floor := 0, deferred := false, transport := tr }
  let withFilm (u : State) (y : Film) (set : Word24) : State :=
    { u with film := y, reply := { u.reply with pending := u.reply.pending ||| set } }
  let refilled (u : State) (a : Nat) (result : StepResult) (ends : State → State) : Prop :=
    let y := u.film
    let x := u.imager
    let answers (t : State) : Prop := result = .next (ends t)
    (y.held = none → a ≠ 0 → answers (withFilm u (loaded y a .ready) 0)) ∧
    (y.held = none → a = 0 → answers (withFilm u (loaded y 0 .filmOut) 0x8000)) ∧
    (∀ v mark, y.held = some (.move v mark) →
      (a = 0 ∨ (a : Int) < v → answers (withFilm u (loaded y a .filmOut) 0x8000)) ∧
      (0 < v → v ≤ a → answers (withFilm u { loaded y a (.moving v.toNat true) with held := none } 0)) ∧
      (∀ pr, v ≤ 0 → a ≠ 0 → x.line = some pr → pr.slot < 8 →
        let r := u.store.record pr.slot
        let flagged : LineRecord :=
          if v < 0 then { r with flags := { r.flags with reverseClamped := true } } else r
        let note : Word24 := if v < 0 then 0x20000 else 0
        let film : Film := { loaded y a .ready with held := none }
        let z : Imager := { x with filmTag := 0 }
        let goesOn (phase : LinePhase) : State := { withFilm u film note with
          store := if v < 0 then u.store.putRecord pr.slot flagged else u.store
          imager := { z with line := some { pr with phase := phase } } }
        (r.kind = .text → r.glyphs ≠ [] → answers (goesOn .glyph)) ∧
        (r.kind = .text → r.glyphs = [] →
          (x.state ≠ .setting → answers (goesOn .back)) ∧
          (x.state = .setting → AnswersWith result fun t => CompletesLine u z pr flagged t ∧ t.film = film)) ∧
        (r.kind = .cut →
          (x.state ≠ .setting → answers (goesOn .cut)) ∧
          (x.state = .setting → pr.cutAsked = false → pr.cutDone = false →
            AnswersWith result (CutGoesOn u z pr film note))))) ∧
    (y.held = some .cut →
      (a < 480 → answers (withFilm u (loaded y a .filmOut) 0x8000)) ∧
      (480 ≤ a → answers (withFilm u { loaded y a (.cutAdvance 480 true) with held := none } 0)))
  (∀ (n : Word24) (busy : Bool) (s u : State), Takes (.cassette n false) s u →
    let a := min 100000 n.toNat * 20
    let noted := clampNote (decide (n.toNat ≤ 100000)) u
    let y := u.film
    (y.transport = .noCassette →
      exec (.cassette n busy) s = .next (State.runOut { noted with film := { y with a := a } })) ∧
    (y.transport = .fault →
      exec (.cassette n busy) s = .next (State.runOut { noted with film := loaded y a .fault })) ∧
    (y.transport = .ready ∨ y.transport = .filmOut →
      refilled noted a (exec (.cassette n busy) s) State.runOut) ∧
    (((∃ target w, y.transport = .moving target w ∨ y.transport = .cutAdvance target w) ∨
        ∃ w, y.transport = .cutStroke w) →
      exec (.cassette n busy) s = .next (State.runOut { noted with film := { y with a := a, deferred := true } }))) ∧
  ∀ (busy : Bool) (s : State), HeldSyncLaw s → s.pins.resetLine = false →
    let y := s.film
    let out : State := { s with pins := { s.pins with cassetteIn := false } }
    let gone : Film := { y with
      l := 0, f := 0, h := 0, floor := 0, deferred := false, transport := .noCassette }
    (s.pins.cassetteIn = true →
      ((y.transport = .ready ∨ y.transport = .filmOut ∨ y.transport = .noCassette ∨ y.transport = .fault) →
        exec (.cassetteRemoved busy) s = .next { out with film := gone }) ∧
      ((∃ target w, y.transport = .moving target w ∨ y.transport = .cutAdvance target w) ∨
          (∃ w, y.transport = .cutStroke w) →
        (s.imager.state = .halted → exec (.cassetteRemoved busy) s = .next (withFilm out gone 0x10000)) ∧
        (s.imager.state ≠ .halted →
          HaltsWith .filmFault [] out (exec (.cassetteRemoved busy) s) ∧
          AnswersWith (exec (.cassetteRemoved busy) s) fun t => { t.film with held := y.held } = gone))) ∧
    (s.pins.cassetteIn = false → exec (.cassetteRemoved busy) s = .next s) ∧
    (s.pins.cassetteIn = true → exec (.cassetteInserted busy) s = .next s) ∧
    (s.pins.cassetteIn = false →
      refilled { s with pins := { s.pins with cassetteIn := true } } y.a (exec (.cassetteInserted busy) s) id)

/-! ### Laws of the device -/

/-- Film positions stay in order, and a target in flight within its bounds (R150, R152 to R159). -/
def Obligations.EveryStepKeepsTheFilmLaw : Prop :=
  ∀ s t : State, FilmLaw s → step s = .next t → FilmLaw t

/-- No store of the part ever holds more than its capacity: FIFO, formats, stack, word buffer, the glyph and space
entries of every line record, proof queue, log, reply queue, markers, flash history; and the counts that stay at a
limit or wrap keep their ranges: input errors, ladder, film adjustment, gaps, deferrals, stamps, line numbers. That the
Imager's own count of deferrals stays at 65535 is log entry 29, and that the stamp count is 32 bits wide is log entry
30 (both DEDUCED). -/
def Obligations.EveryStepKeepsTheCapacities : Prop :=
  ∀ s t : State, CapacityLaw s → step s = .next t → CapacityLaw t

/-- The parameters and the stacked ones stay in their ranges and relations; the dictionary stays in order within its
capacities (R22 to R24, R33 to R35, R104). -/
def Obligations.EveryStepKeepsParametersAndDictionary : Prop :=
  ∀ s t : State, step s = .next t →
    (ParameterLaw s → ParameterLaw t) ∧ (DictionaryLaw s → DictionaryLaw t)

/-- Slots and what names them stay in step: the ready and awaiting lists, the open line, the line in hand, and no slot
left undecided (R111 to R120). -/
def Obligations.EveryStepKeepsTheSlotLaw : Prop :=
  ∀ s t : State, SlotLaw s → step s = .next t → SlotLaw t

/-- The disc and the line in hand follow the Imager's state; a return state and a recheck belong to SUSPENDED alone, and
cancelled timers to HALTED; the lamp values and the turret position keep their ranges
(R125, R129, R138, R139, R146 to R149). That a recheck runs only with the cover closed, an opening ending it, is log entry 9,
and that the timers a fault cancels are kept, in HALTED alone, is log entry 36 (both DESIGN CHOICE). -/
def Obligations.EveryStepKeepsTheImagerLaws : Prop :=
  ∀ s t : State, step s = .next t → (ResetLaw s → ImagerLaw s → ImagerLaw t) ∧ (LampLaw s → LampLaw t)

/-- Slots await proof only while the proof queue is full and the printer ONLINE (R167, R169, R170), and a SYNC is held
only while 4 markers are pending (R10, R184). -/
def Obligations.EveryStepKeepsTheHolds : Prop :=
  ∀ s t : State, step s = .next t →
    (ResetLaw s → CapacityLaw s → AwaitingLaw s → AwaitingLaw t) ∧ (HeldSyncLaw s → HeldSyncLaw t)

/-- Every law of the device holds in the reset state, with any input levels. State.reset is that state with RESET
asserted and the input levels of log entry 3 (DESIGN CHOICE). -/
def Obligations.ResetMeetsEveryLaw : Prop :=
  ∀ pins : Pins, pins.resetLine = true →
    let s := State.resetWith pins
    FilmLaw s ∧ CapacityLaw s ∧ ParameterLaw s ∧ DictionaryLaw s ∧ SlotLaw s ∧ ImagerLaw s ∧ LampLaw s ∧
      AwaitingLaw s ∧ HeldSyncLaw s ∧ ResetLaw s ∧ State.reset = State.resetWith State.reset.pins ∧
      State.reset.pins.resetLine = true

/-- The lamp never fires beyond its budget: when a step opens a confirm window, a sector event that finds one open and
closes it (R140) among them, fewer firings than the maximum in force lie within the window in force before it, and the
firing joins the history (R138). That an age is a difference of stamp counts modulo 2^32 is log entry 30 (DEDUCED). -/
def Obligations.FiringsKeepTheBudget : Prop :=
  ∀ s t : State, LampLaw s → step s = .next t → t.imager.confirmWindow = true →
    (s.imager.confirmWindow = false ∨
      (s.imager.disc ≠ .stopped ∧ ∃ n busy rest, s.pending = .sectorEvent n busy :: rest)) →
    (s.imager.history.countP fun h => decide (stampGap t.imager.stamp h < t.imager.window)) < t.imager.most ∧
    t.imager.stamp ∈ t.imager.history
end

