-- ==== Sys2Proof/Laws/State.lean ====
section
/-! SUPPORT. What each writer of State leaves in each field: one lemma per field and writer, true by definition. -/

namespace Sys2Proof.Machine

variable (s : State)

/-! ### withPins -/

@[simp] theorem State.withPins_pins (x : Pins) : (s.withPins x).pins = x := rfl
@[simp] theorem State.withPins_intake (x : Pins) : (s.withPins x).intake = s.intake := rfl
@[simp] theorem State.withPins_formats (x : Pins) : (s.withPins x).formats = s.formats := rfl
@[simp] theorem State.withPins_composer (x : Pins) : (s.withPins x).composer = s.composer := rfl
@[simp] theorem State.withPins_dict (x : Pins) : (s.withPins x).dict = s.dict := rfl
@[simp] theorem State.withPins_tables (x : Pins) : (s.withPins x).tables = s.tables := rfl
@[simp] theorem State.withPins_store (x : Pins) : (s.withPins x).store = s.store := rfl
@[simp] theorem State.withPins_imager (x : Pins) : (s.withPins x).imager = s.imager := rfl
@[simp] theorem State.withPins_film (x : Pins) : (s.withPins x).film = s.film := rfl
@[simp] theorem State.withPins_proof (x : Pins) : (s.withPins x).proof = s.proof := rfl
@[simp] theorem State.withPins_log (x : Pins) : (s.withPins x).log = s.log := rfl
@[simp] theorem State.withPins_reply (x : Pins) : (s.withPins x).reply = s.reply := rfl
@[simp] theorem State.withPins_pending (x : Pins) : (s.withPins x).pending = s.pending := rfl

/-! ### withIntake -/

@[simp] theorem State.withIntake_pins (x : Intake) : (s.withIntake x).pins = s.pins := rfl
@[simp] theorem State.withIntake_intake (x : Intake) : (s.withIntake x).intake = x := rfl
@[simp] theorem State.withIntake_formats (x : Intake) : (s.withIntake x).formats = s.formats := rfl
@[simp] theorem State.withIntake_composer (x : Intake) : (s.withIntake x).composer = s.composer := rfl
@[simp] theorem State.withIntake_dict (x : Intake) : (s.withIntake x).dict = s.dict := rfl
@[simp] theorem State.withIntake_tables (x : Intake) : (s.withIntake x).tables = s.tables := rfl
@[simp] theorem State.withIntake_store (x : Intake) : (s.withIntake x).store = s.store := rfl
@[simp] theorem State.withIntake_imager (x : Intake) : (s.withIntake x).imager = s.imager := rfl
@[simp] theorem State.withIntake_film (x : Intake) : (s.withIntake x).film = s.film := rfl
@[simp] theorem State.withIntake_proof (x : Intake) : (s.withIntake x).proof = s.proof := rfl
@[simp] theorem State.withIntake_log (x : Intake) : (s.withIntake x).log = s.log := rfl
@[simp] theorem State.withIntake_reply (x : Intake) : (s.withIntake x).reply = s.reply := rfl
@[simp] theorem State.withIntake_pending (x : Intake) : (s.withIntake x).pending = s.pending := rfl

/-! ### withFormats -/

@[simp] theorem State.withFormats_pins (x : FormatStore) : (s.withFormats x).pins = s.pins := rfl
@[simp] theorem State.withFormats_intake (x : FormatStore) : (s.withFormats x).intake = s.intake := rfl
@[simp] theorem State.withFormats_formats (x : FormatStore) : (s.withFormats x).formats = x := rfl
@[simp] theorem State.withFormats_composer (x : FormatStore) : (s.withFormats x).composer = s.composer := rfl
@[simp] theorem State.withFormats_dict (x : FormatStore) : (s.withFormats x).dict = s.dict := rfl
@[simp] theorem State.withFormats_tables (x : FormatStore) : (s.withFormats x).tables = s.tables := rfl
@[simp] theorem State.withFormats_store (x : FormatStore) : (s.withFormats x).store = s.store := rfl
@[simp] theorem State.withFormats_imager (x : FormatStore) : (s.withFormats x).imager = s.imager := rfl
@[simp] theorem State.withFormats_film (x : FormatStore) : (s.withFormats x).film = s.film := rfl
@[simp] theorem State.withFormats_proof (x : FormatStore) : (s.withFormats x).proof = s.proof := rfl
@[simp] theorem State.withFormats_log (x : FormatStore) : (s.withFormats x).log = s.log := rfl
@[simp] theorem State.withFormats_reply (x : FormatStore) : (s.withFormats x).reply = s.reply := rfl
@[simp] theorem State.withFormats_pending (x : FormatStore) : (s.withFormats x).pending = s.pending := rfl

/-! ### withComposer -/

@[simp] theorem State.withComposer_pins (x : Composer) : (s.withComposer x).pins = s.pins := rfl
@[simp] theorem State.withComposer_intake (x : Composer) : (s.withComposer x).intake = s.intake := rfl
@[simp] theorem State.withComposer_formats (x : Composer) : (s.withComposer x).formats = s.formats := rfl
@[simp] theorem State.withComposer_composer (x : Composer) : (s.withComposer x).composer = x := rfl
@[simp] theorem State.withComposer_dict (x : Composer) : (s.withComposer x).dict = s.dict := rfl
@[simp] theorem State.withComposer_tables (x : Composer) : (s.withComposer x).tables = s.tables := rfl
@[simp] theorem State.withComposer_store (x : Composer) : (s.withComposer x).store = s.store := rfl
@[simp] theorem State.withComposer_imager (x : Composer) : (s.withComposer x).imager = s.imager := rfl
@[simp] theorem State.withComposer_film (x : Composer) : (s.withComposer x).film = s.film := rfl
@[simp] theorem State.withComposer_proof (x : Composer) : (s.withComposer x).proof = s.proof := rfl
@[simp] theorem State.withComposer_log (x : Composer) : (s.withComposer x).log = s.log := rfl
@[simp] theorem State.withComposer_reply (x : Composer) : (s.withComposer x).reply = s.reply := rfl
@[simp] theorem State.withComposer_pending (x : Composer) : (s.withComposer x).pending = s.pending := rfl

/-! ### withDict -/

@[simp] theorem State.withDict_pins (x : List DictEntry) : (s.withDict x).pins = s.pins := rfl
@[simp] theorem State.withDict_intake (x : List DictEntry) : (s.withDict x).intake = s.intake := rfl
@[simp] theorem State.withDict_formats (x : List DictEntry) : (s.withDict x).formats = s.formats := rfl
@[simp] theorem State.withDict_composer (x : List DictEntry) : (s.withDict x).composer = s.composer := rfl
@[simp] theorem State.withDict_dict (x : List DictEntry) : (s.withDict x).dict = x := rfl
@[simp] theorem State.withDict_tables (x : List DictEntry) : (s.withDict x).tables = s.tables := rfl
@[simp] theorem State.withDict_store (x : List DictEntry) : (s.withDict x).store = s.store := rfl
@[simp] theorem State.withDict_imager (x : List DictEntry) : (s.withDict x).imager = s.imager := rfl
@[simp] theorem State.withDict_film (x : List DictEntry) : (s.withDict x).film = s.film := rfl
@[simp] theorem State.withDict_proof (x : List DictEntry) : (s.withDict x).proof = s.proof := rfl
@[simp] theorem State.withDict_log (x : List DictEntry) : (s.withDict x).log = s.log := rfl
@[simp] theorem State.withDict_reply (x : List DictEntry) : (s.withDict x).reply = s.reply := rfl
@[simp] theorem State.withDict_pending (x : List DictEntry) : (s.withDict x).pending = s.pending := rfl

/-! ### withTables -/

@[simp] theorem State.withTables_pins (x : Tables) : (s.withTables x).pins = s.pins := rfl
@[simp] theorem State.withTables_intake (x : Tables) : (s.withTables x).intake = s.intake := rfl
@[simp] theorem State.withTables_formats (x : Tables) : (s.withTables x).formats = s.formats := rfl
@[simp] theorem State.withTables_composer (x : Tables) : (s.withTables x).composer = s.composer := rfl
@[simp] theorem State.withTables_dict (x : Tables) : (s.withTables x).dict = s.dict := rfl
@[simp] theorem State.withTables_tables (x : Tables) : (s.withTables x).tables = x := rfl
@[simp] theorem State.withTables_store (x : Tables) : (s.withTables x).store = s.store := rfl
@[simp] theorem State.withTables_imager (x : Tables) : (s.withTables x).imager = s.imager := rfl
@[simp] theorem State.withTables_film (x : Tables) : (s.withTables x).film = s.film := rfl
@[simp] theorem State.withTables_proof (x : Tables) : (s.withTables x).proof = s.proof := rfl
@[simp] theorem State.withTables_log (x : Tables) : (s.withTables x).log = s.log := rfl
@[simp] theorem State.withTables_reply (x : Tables) : (s.withTables x).reply = s.reply := rfl
@[simp] theorem State.withTables_pending (x : Tables) : (s.withTables x).pending = s.pending := rfl

/-! ### withStore -/

@[simp] theorem State.withStore_pins (x : Store) : (s.withStore x).pins = s.pins := rfl
@[simp] theorem State.withStore_intake (x : Store) : (s.withStore x).intake = s.intake := rfl
@[simp] theorem State.withStore_formats (x : Store) : (s.withStore x).formats = s.formats := rfl
@[simp] theorem State.withStore_composer (x : Store) : (s.withStore x).composer = s.composer := rfl
@[simp] theorem State.withStore_dict (x : Store) : (s.withStore x).dict = s.dict := rfl
@[simp] theorem State.withStore_tables (x : Store) : (s.withStore x).tables = s.tables := rfl
@[simp] theorem State.withStore_store (x : Store) : (s.withStore x).store = x := rfl
@[simp] theorem State.withStore_imager (x : Store) : (s.withStore x).imager = s.imager := rfl
@[simp] theorem State.withStore_film (x : Store) : (s.withStore x).film = s.film := rfl
@[simp] theorem State.withStore_proof (x : Store) : (s.withStore x).proof = s.proof := rfl
@[simp] theorem State.withStore_log (x : Store) : (s.withStore x).log = s.log := rfl
@[simp] theorem State.withStore_reply (x : Store) : (s.withStore x).reply = s.reply := rfl
@[simp] theorem State.withStore_pending (x : Store) : (s.withStore x).pending = s.pending := rfl

/-! ### withImager -/

@[simp] theorem State.withImager_pins (x : Imager) : (s.withImager x).pins = s.pins := rfl
@[simp] theorem State.withImager_intake (x : Imager) : (s.withImager x).intake = s.intake := rfl
@[simp] theorem State.withImager_formats (x : Imager) : (s.withImager x).formats = s.formats := rfl
@[simp] theorem State.withImager_composer (x : Imager) : (s.withImager x).composer = s.composer := rfl
@[simp] theorem State.withImager_dict (x : Imager) : (s.withImager x).dict = s.dict := rfl
@[simp] theorem State.withImager_tables (x : Imager) : (s.withImager x).tables = s.tables := rfl
@[simp] theorem State.withImager_store (x : Imager) : (s.withImager x).store = s.store := rfl
@[simp] theorem State.withImager_imager (x : Imager) : (s.withImager x).imager = x := rfl
@[simp] theorem State.withImager_film (x : Imager) : (s.withImager x).film = s.film := rfl
@[simp] theorem State.withImager_proof (x : Imager) : (s.withImager x).proof = s.proof := rfl
@[simp] theorem State.withImager_log (x : Imager) : (s.withImager x).log = s.log := rfl
@[simp] theorem State.withImager_reply (x : Imager) : (s.withImager x).reply = s.reply := rfl
@[simp] theorem State.withImager_pending (x : Imager) : (s.withImager x).pending = s.pending := rfl

/-! ### withFilm -/

@[simp] theorem State.withFilm_pins (x : Film) : (s.withFilm x).pins = s.pins := rfl
@[simp] theorem State.withFilm_intake (x : Film) : (s.withFilm x).intake = s.intake := rfl
@[simp] theorem State.withFilm_formats (x : Film) : (s.withFilm x).formats = s.formats := rfl
@[simp] theorem State.withFilm_composer (x : Film) : (s.withFilm x).composer = s.composer := rfl
@[simp] theorem State.withFilm_dict (x : Film) : (s.withFilm x).dict = s.dict := rfl
@[simp] theorem State.withFilm_tables (x : Film) : (s.withFilm x).tables = s.tables := rfl
@[simp] theorem State.withFilm_store (x : Film) : (s.withFilm x).store = s.store := rfl
@[simp] theorem State.withFilm_imager (x : Film) : (s.withFilm x).imager = s.imager := rfl
@[simp] theorem State.withFilm_film (x : Film) : (s.withFilm x).film = x := rfl
@[simp] theorem State.withFilm_proof (x : Film) : (s.withFilm x).proof = s.proof := rfl
@[simp] theorem State.withFilm_log (x : Film) : (s.withFilm x).log = s.log := rfl
@[simp] theorem State.withFilm_reply (x : Film) : (s.withFilm x).reply = s.reply := rfl
@[simp] theorem State.withFilm_pending (x : Film) : (s.withFilm x).pending = s.pending := rfl

/-! ### withProof -/

@[simp] theorem State.withProof_pins (x : Proof) : (s.withProof x).pins = s.pins := rfl
@[simp] theorem State.withProof_intake (x : Proof) : (s.withProof x).intake = s.intake := rfl
@[simp] theorem State.withProof_formats (x : Proof) : (s.withProof x).formats = s.formats := rfl
@[simp] theorem State.withProof_composer (x : Proof) : (s.withProof x).composer = s.composer := rfl
@[simp] theorem State.withProof_dict (x : Proof) : (s.withProof x).dict = s.dict := rfl
@[simp] theorem State.withProof_tables (x : Proof) : (s.withProof x).tables = s.tables := rfl
@[simp] theorem State.withProof_store (x : Proof) : (s.withProof x).store = s.store := rfl
@[simp] theorem State.withProof_imager (x : Proof) : (s.withProof x).imager = s.imager := rfl
@[simp] theorem State.withProof_film (x : Proof) : (s.withProof x).film = s.film := rfl
@[simp] theorem State.withProof_proof (x : Proof) : (s.withProof x).proof = x := rfl
@[simp] theorem State.withProof_log (x : Proof) : (s.withProof x).log = s.log := rfl
@[simp] theorem State.withProof_reply (x : Proof) : (s.withProof x).reply = s.reply := rfl
@[simp] theorem State.withProof_pending (x : Proof) : (s.withProof x).pending = s.pending := rfl

/-! ### withLog -/

@[simp] theorem State.withLog_pins (x : Log) : (s.withLog x).pins = s.pins := rfl
@[simp] theorem State.withLog_intake (x : Log) : (s.withLog x).intake = s.intake := rfl
@[simp] theorem State.withLog_formats (x : Log) : (s.withLog x).formats = s.formats := rfl
@[simp] theorem State.withLog_composer (x : Log) : (s.withLog x).composer = s.composer := rfl
@[simp] theorem State.withLog_dict (x : Log) : (s.withLog x).dict = s.dict := rfl
@[simp] theorem State.withLog_tables (x : Log) : (s.withLog x).tables = s.tables := rfl
@[simp] theorem State.withLog_store (x : Log) : (s.withLog x).store = s.store := rfl
@[simp] theorem State.withLog_imager (x : Log) : (s.withLog x).imager = s.imager := rfl
@[simp] theorem State.withLog_film (x : Log) : (s.withLog x).film = s.film := rfl
@[simp] theorem State.withLog_proof (x : Log) : (s.withLog x).proof = s.proof := rfl
@[simp] theorem State.withLog_log (x : Log) : (s.withLog x).log = x := rfl
@[simp] theorem State.withLog_reply (x : Log) : (s.withLog x).reply = s.reply := rfl
@[simp] theorem State.withLog_pending (x : Log) : (s.withLog x).pending = s.pending := rfl

/-! ### withReply -/

@[simp] theorem State.withReply_pins (x : ReplyUnit) : (s.withReply x).pins = s.pins := rfl
@[simp] theorem State.withReply_intake (x : ReplyUnit) : (s.withReply x).intake = s.intake := rfl
@[simp] theorem State.withReply_formats (x : ReplyUnit) : (s.withReply x).formats = s.formats := rfl
@[simp] theorem State.withReply_composer (x : ReplyUnit) : (s.withReply x).composer = s.composer := rfl
@[simp] theorem State.withReply_dict (x : ReplyUnit) : (s.withReply x).dict = s.dict := rfl
@[simp] theorem State.withReply_tables (x : ReplyUnit) : (s.withReply x).tables = s.tables := rfl
@[simp] theorem State.withReply_store (x : ReplyUnit) : (s.withReply x).store = s.store := rfl
@[simp] theorem State.withReply_imager (x : ReplyUnit) : (s.withReply x).imager = s.imager := rfl
@[simp] theorem State.withReply_film (x : ReplyUnit) : (s.withReply x).film = s.film := rfl
@[simp] theorem State.withReply_proof (x : ReplyUnit) : (s.withReply x).proof = s.proof := rfl
@[simp] theorem State.withReply_log (x : ReplyUnit) : (s.withReply x).log = s.log := rfl
@[simp] theorem State.withReply_reply (x : ReplyUnit) : (s.withReply x).reply = x := rfl
@[simp] theorem State.withReply_pending (x : ReplyUnit) : (s.withReply x).pending = s.pending := rfl

/-! ### withQueue -/

@[simp] theorem State.withQueue_pins (x : List Instr) : (s.withQueue x).pins = s.pins := rfl
@[simp] theorem State.withQueue_intake (x : List Instr) : (s.withQueue x).intake = s.intake := rfl
@[simp] theorem State.withQueue_formats (x : List Instr) : (s.withQueue x).formats = s.formats := rfl
@[simp] theorem State.withQueue_composer (x : List Instr) : (s.withQueue x).composer = s.composer := rfl
@[simp] theorem State.withQueue_dict (x : List Instr) : (s.withQueue x).dict = s.dict := rfl
@[simp] theorem State.withQueue_tables (x : List Instr) : (s.withQueue x).tables = s.tables := rfl
@[simp] theorem State.withQueue_store (x : List Instr) : (s.withQueue x).store = s.store := rfl
@[simp] theorem State.withQueue_imager (x : List Instr) : (s.withQueue x).imager = s.imager := rfl
@[simp] theorem State.withQueue_film (x : List Instr) : (s.withQueue x).film = s.film := rfl
@[simp] theorem State.withQueue_proof (x : List Instr) : (s.withQueue x).proof = s.proof := rfl
@[simp] theorem State.withQueue_log (x : List Instr) : (s.withQueue x).log = s.log := rfl
@[simp] theorem State.withQueue_reply (x : List Instr) : (s.withQueue x).reply = s.reply := rfl
@[simp] theorem State.withQueue_pending (x : List Instr) : (s.withQueue x).pending = x := rfl

/-! ### withParams -/

@[simp] theorem State.withParams_pins (p : Params) : (s.withParams p).pins = s.pins := rfl
@[simp] theorem State.withParams_intake (p : Params) : (s.withParams p).intake = s.intake := rfl
@[simp] theorem State.withParams_formats (p : Params) : (s.withParams p).formats = s.formats := rfl
@[simp] theorem State.withParams_composer (p : Params) : (s.withParams p).composer = { s.composer with params := p } := rfl
@[simp] theorem State.withParams_dict (p : Params) : (s.withParams p).dict = s.dict := rfl
@[simp] theorem State.withParams_tables (p : Params) : (s.withParams p).tables = s.tables := rfl
@[simp] theorem State.withParams_store (p : Params) : (s.withParams p).store = s.store := rfl
@[simp] theorem State.withParams_imager (p : Params) : (s.withParams p).imager = s.imager := rfl
@[simp] theorem State.withParams_film (p : Params) : (s.withParams p).film = s.film := rfl
@[simp] theorem State.withParams_proof (p : Params) : (s.withParams p).proof = s.proof := rfl
@[simp] theorem State.withParams_log (p : Params) : (s.withParams p).log = s.log := rfl
@[simp] theorem State.withParams_reply (p : Params) : (s.withParams p).reply = s.reply := rfl
@[simp] theorem State.withParams_pending (p : Params) : (s.withParams p).pending = s.pending := rfl

/-! ### withEvents -/

@[simp] theorem State.withEvents_pins (x : Word24) : (s.withEvents x).pins = s.pins := rfl
@[simp] theorem State.withEvents_intake (x : Word24) : (s.withEvents x).intake = s.intake := rfl
@[simp] theorem State.withEvents_formats (x : Word24) : (s.withEvents x).formats = s.formats := rfl
@[simp] theorem State.withEvents_composer (x : Word24) : (s.withEvents x).composer = s.composer := rfl
@[simp] theorem State.withEvents_dict (x : Word24) : (s.withEvents x).dict = s.dict := rfl
@[simp] theorem State.withEvents_tables (x : Word24) : (s.withEvents x).tables = s.tables := rfl
@[simp] theorem State.withEvents_store (x : Word24) : (s.withEvents x).store = s.store := rfl
@[simp] theorem State.withEvents_imager (x : Word24) : (s.withEvents x).imager = s.imager := rfl
@[simp] theorem State.withEvents_film (x : Word24) : (s.withEvents x).film = s.film := rfl
@[simp] theorem State.withEvents_proof (x : Word24) : (s.withEvents x).proof = s.proof := rfl
@[simp] theorem State.withEvents_log (x : Word24) : (s.withEvents x).log = s.log := rfl
@[simp] theorem State.withEvents_reply (x : Word24) : (s.withEvents x).reply = { s.reply with pending := x } := rfl
@[simp] theorem State.withEvents_pending (x : Word24) : (s.withEvents x).pending = s.pending := rfl

/-! ### post -/

@[simp] theorem State.post_pins (e : Event) : (s.post e).pins = s.pins := rfl
@[simp] theorem State.post_intake (e : Event) : (s.post e).intake = s.intake := rfl
@[simp] theorem State.post_formats (e : Event) : (s.post e).formats = s.formats := rfl
@[simp] theorem State.post_composer (e : Event) : (s.post e).composer = s.composer := rfl
@[simp] theorem State.post_dict (e : Event) : (s.post e).dict = s.dict := rfl
@[simp] theorem State.post_tables (e : Event) : (s.post e).tables = s.tables := rfl
@[simp] theorem State.post_store (e : Event) : (s.post e).store = s.store := rfl
@[simp] theorem State.post_imager (e : Event) : (s.post e).imager = s.imager := rfl
@[simp] theorem State.post_film (e : Event) : (s.post e).film = s.film := rfl
@[simp] theorem State.post_proof (e : Event) : (s.post e).proof = s.proof := rfl
@[simp] theorem State.post_log (e : Event) : (s.post e).log = s.log := rfl
@[simp] theorem State.post_reply (e : Event) : (s.post e).reply = { s.reply with pending := postTo s.reply.pending e } := rfl
@[simp] theorem State.post_pending (e : Event) : (s.post e).pending = s.pending := rfl

/-! ### withFront -/

@[simp] theorem State.withFront_pins (f : Front) : (s.withFront f).pins = s.pins := rfl
@[simp] theorem State.withFront_intake (f : Front) : (s.withFront f).intake = f.intake := rfl
@[simp] theorem State.withFront_formats (f : Front) : (s.withFront f).formats = f.formats := rfl
@[simp] theorem State.withFront_composer (f : Front) : (s.withFront f).composer = s.composer := rfl
@[simp] theorem State.withFront_dict (f : Front) : (s.withFront f).dict = s.dict := rfl
@[simp] theorem State.withFront_tables (f : Front) : (s.withFront f).tables = { s.tables with staging := f.staging } := rfl
@[simp] theorem State.withFront_store (f : Front) : (s.withFront f).store = s.store := rfl
@[simp] theorem State.withFront_imager (f : Front) : (s.withFront f).imager = s.imager := rfl
@[simp] theorem State.withFront_film (f : Front) : (s.withFront f).film = s.film := rfl
@[simp] theorem State.withFront_proof (f : Front) : (s.withFront f).proof = s.proof := rfl
@[simp] theorem State.withFront_log (f : Front) : (s.withFront f).log = s.log := rfl
@[simp] theorem State.withFront_reply (f : Front) : (s.withFront f).reply = { s.reply with pending := f.events } := rfl
@[simp] theorem State.withFront_pending (f : Front) : (s.withFront f).pending = s.pending := rfl

/-! ### withDesk -/

@[simp] theorem State.withDesk_pins (d : Desk) : (s.withDesk d).pins = s.pins := rfl
@[simp] theorem State.withDesk_intake (d : Desk) : (s.withDesk d).intake = s.intake := rfl
@[simp] theorem State.withDesk_formats (d : Desk) : (s.withDesk d).formats = s.formats := rfl
@[simp] theorem State.withDesk_composer (d : Desk) : (s.withDesk d).composer = d.composer := rfl
@[simp] theorem State.withDesk_dict (d : Desk) : (s.withDesk d).dict = s.dict := rfl
@[simp] theorem State.withDesk_tables (d : Desk) : (s.withDesk d).tables = s.tables := rfl
@[simp] theorem State.withDesk_store (d : Desk) : (s.withDesk d).store = d.store := rfl
@[simp] theorem State.withDesk_imager (d : Desk) : (s.withDesk d).imager = s.imager := rfl
@[simp] theorem State.withDesk_film (d : Desk) : (s.withDesk d).film = s.film := rfl
@[simp] theorem State.withDesk_proof (d : Desk) : (s.withDesk d).proof = s.proof := rfl
@[simp] theorem State.withDesk_log (d : Desk) : (s.withDesk d).log = s.log := rfl
@[simp] theorem State.withDesk_reply (d : Desk) : (s.withDesk d).reply = { s.reply with pending := d.events } := rfl
@[simp] theorem State.withDesk_pending (d : Desk) : (s.withDesk d).pending = s.pending := rfl

/-! ### withPhoto -/

@[simp] theorem State.withPhoto_pins (p : Photo) : (s.withPhoto p).pins = s.pins := rfl
@[simp] theorem State.withPhoto_intake (p : Photo) : (s.withPhoto p).intake = s.intake := rfl
@[simp] theorem State.withPhoto_formats (p : Photo) : (s.withPhoto p).formats = s.formats := rfl
@[simp] theorem State.withPhoto_composer (p : Photo) : (s.withPhoto p).composer = s.composer := rfl
@[simp] theorem State.withPhoto_dict (p : Photo) : (s.withPhoto p).dict = s.dict := rfl
@[simp] theorem State.withPhoto_tables (p : Photo) : (s.withPhoto p).tables = s.tables := rfl
@[simp] theorem State.withPhoto_store (p : Photo) : (s.withPhoto p).store = p.store := rfl
@[simp] theorem State.withPhoto_imager (p : Photo) : (s.withPhoto p).imager = p.imager := rfl
@[simp] theorem State.withPhoto_film (p : Photo) : (s.withPhoto p).film = p.film := rfl
@[simp] theorem State.withPhoto_proof (p : Photo) : (s.withPhoto p).proof = p.proof := rfl
@[simp] theorem State.withPhoto_log (p : Photo) : (s.withPhoto p).log = p.log := rfl
@[simp] theorem State.withPhoto_reply (p : Photo) : (s.withPhoto p).reply = p.reply := rfl
@[simp] theorem State.withPhoto_pending (p : Photo) : (s.withPhoto p).pending = s.pending := rfl

/-! ### The views -/

@[simp] theorem State.withFront_front : s.withFront s.front = s := rfl
@[simp] theorem State.withDesk_desk : s.withDesk s.desk = s := rfl
@[simp] theorem State.withPhoto_photo (busy : Bool) : s.withPhoto (s.photo busy) = s := rfl
@[simp] theorem State.front_withFront (f : Front) : (s.withFront f).front = f := rfl
@[simp] theorem State.desk_withDesk (d : Desk) : (s.withDesk d).desk = d := rfl

end Sys2Proof.Machine
end

