-- ==== Sys2Proof/Laws/Photo.lean ====
section
/-! SUPPORT. The photo unit's side: what each small writer of `Photo` leaves in each field, and for the shared operations
of the Imager, Film Transport, Proof Spooler and Line Log what they leave alone; what the answers of markers and the changes
of CLEAR-TO-SEND come to. -/

namespace Sys2Proof.Machine

variable (p : Photo)

/-! ### withProof -/

@[simp] theorem Photo.withProof_pins (x : Proof) : (p.withProof x).pins = p.pins := rfl
@[simp] theorem Photo.withProof_busy (x : Proof) : (p.withProof x).busy = p.busy := rfl
@[simp] theorem Photo.withProof_store (x : Proof) : (p.withProof x).store = p.store := rfl
@[simp] theorem Photo.withProof_imager (x : Proof) : (p.withProof x).imager = p.imager := rfl
@[simp] theorem Photo.withProof_film (x : Proof) : (p.withProof x).film = p.film := rfl
@[simp] theorem Photo.withProof_proof (x : Proof) : (p.withProof x).proof = x := rfl
@[simp] theorem Photo.withProof_log (x : Proof) : (p.withProof x).log = p.log := rfl
@[simp] theorem Photo.withProof_reply (x : Proof) : (p.withProof x).reply = p.reply := rfl

/-! ### withStore -/

@[simp] theorem Photo.withStore_pins (x : Store) : (p.withStore x).pins = p.pins := rfl
@[simp] theorem Photo.withStore_busy (x : Store) : (p.withStore x).busy = p.busy := rfl
@[simp] theorem Photo.withStore_store (x : Store) : (p.withStore x).store = x := rfl
@[simp] theorem Photo.withStore_imager (x : Store) : (p.withStore x).imager = p.imager := rfl
@[simp] theorem Photo.withStore_film (x : Store) : (p.withStore x).film = p.film := rfl
@[simp] theorem Photo.withStore_proof (x : Store) : (p.withStore x).proof = p.proof := rfl
@[simp] theorem Photo.withStore_log (x : Store) : (p.withStore x).log = p.log := rfl
@[simp] theorem Photo.withStore_reply (x : Store) : (p.withStore x).reply = p.reply := rfl

/-! ### withImager -/

@[simp] theorem Photo.withImager_pins (x : Imager) : (p.withImager x).pins = p.pins := rfl
@[simp] theorem Photo.withImager_busy (x : Imager) : (p.withImager x).busy = p.busy := rfl
@[simp] theorem Photo.withImager_store (x : Imager) : (p.withImager x).store = p.store := rfl
@[simp] theorem Photo.withImager_imager (x : Imager) : (p.withImager x).imager = x := rfl
@[simp] theorem Photo.withImager_film (x : Imager) : (p.withImager x).film = p.film := rfl
@[simp] theorem Photo.withImager_proof (x : Imager) : (p.withImager x).proof = p.proof := rfl
@[simp] theorem Photo.withImager_log (x : Imager) : (p.withImager x).log = p.log := rfl
@[simp] theorem Photo.withImager_reply (x : Imager) : (p.withImager x).reply = p.reply := rfl

/-! ### withReply -/

@[simp] theorem Photo.withReply_pins (x : ReplyUnit) : (p.withReply x).pins = p.pins := rfl
@[simp] theorem Photo.withReply_busy (x : ReplyUnit) : (p.withReply x).busy = p.busy := rfl
@[simp] theorem Photo.withReply_store (x : ReplyUnit) : (p.withReply x).store = p.store := rfl
@[simp] theorem Photo.withReply_imager (x : ReplyUnit) : (p.withReply x).imager = p.imager := rfl
@[simp] theorem Photo.withReply_film (x : ReplyUnit) : (p.withReply x).film = p.film := rfl
@[simp] theorem Photo.withReply_proof (x : ReplyUnit) : (p.withReply x).proof = p.proof := rfl
@[simp] theorem Photo.withReply_log (x : ReplyUnit) : (p.withReply x).log = p.log := rfl
@[simp] theorem Photo.withReply_reply (x : ReplyUnit) : (p.withReply x).reply = x := rfl

/-! ### enter -/

@[simp] theorem Photo.enter_pins (x : ImagerState) : (p.enter x).pins = p.pins := rfl
@[simp] theorem Photo.enter_busy (x : ImagerState) : (p.enter x).busy = p.busy := rfl
@[simp] theorem Photo.enter_store (x : ImagerState) : (p.enter x).store = p.store := rfl
@[simp] theorem Photo.enter_imager (x : ImagerState) : (p.enter x).imager = { p.imager with state := x } := rfl
@[simp] theorem Photo.enter_film (x : ImagerState) : (p.enter x).film = p.film := rfl
@[simp] theorem Photo.enter_proof (x : ImagerState) : (p.enter x).proof = p.proof := rfl
@[simp] theorem Photo.enter_log (x : ImagerState) : (p.enter x).log = p.log := rfl
@[simp] theorem Photo.enter_reply (x : ImagerState) : (p.enter x).reply = p.reply := rfl

/-! ### withLine -/

@[simp] theorem Photo.withLine_pins (x : Progress) : (p.withLine x).pins = p.pins := rfl
@[simp] theorem Photo.withLine_busy (x : Progress) : (p.withLine x).busy = p.busy := rfl
@[simp] theorem Photo.withLine_store (x : Progress) : (p.withLine x).store = p.store := rfl
@[simp] theorem Photo.withLine_imager (x : Progress) : (p.withLine x).imager = { p.imager with line := some x } := rfl
@[simp] theorem Photo.withLine_film (x : Progress) : (p.withLine x).film = p.film := rfl
@[simp] theorem Photo.withLine_proof (x : Progress) : (p.withLine x).proof = p.proof := rfl
@[simp] theorem Photo.withLine_log (x : Progress) : (p.withLine x).log = p.log := rfl
@[simp] theorem Photo.withLine_reply (x : Progress) : (p.withLine x).reply = p.reply := rfl

/-! ### post -/

@[simp] theorem Photo.post_pins (e : Event) : (p.post e).pins = p.pins := rfl
@[simp] theorem Photo.post_busy (e : Event) : (p.post e).busy = p.busy := rfl
@[simp] theorem Photo.post_store (e : Event) : (p.post e).store = p.store := rfl
@[simp] theorem Photo.post_imager (e : Event) : (p.post e).imager = p.imager := rfl
@[simp] theorem Photo.post_film (e : Event) : (p.post e).film = p.film := rfl
@[simp] theorem Photo.post_proof (e : Event) : (p.post e).proof = p.proof := rfl
@[simp] theorem Photo.post_log (e : Event) : (p.post e).log = p.log := rfl
@[simp] theorem Photo.post_reply (e : Event) : (p.post e).reply = { p.reply with pending := postTo p.reply.pending e } := rfl

/-! ### skipLine -/

@[simp] theorem Photo.skipLine_pins (i : Nat) : (p.skipLine i).pins = p.pins := rfl
@[simp] theorem Photo.skipLine_busy (i : Nat) : (p.skipLine i).busy = p.busy := rfl
@[simp] theorem Photo.skipLine_store (i : Nat) : (p.skipLine i).store = p.store.release i := rfl
@[simp] theorem Photo.skipLine_imager (i : Nat) : (p.skipLine i).imager = p.imager := rfl
@[simp] theorem Photo.skipLine_film (i : Nat) : (p.skipLine i).film = p.film := rfl
@[simp] theorem Photo.skipLine_proof (i : Nat) : (p.skipLine i).proof = p.proof.skip := rfl
@[simp] theorem Photo.skipLine_log (i : Nat) : (p.skipLine i).log = p.log := rfl
@[simp] theorem Photo.skipLine_reply (i : Nat) : (p.skipLine i).reply = { p.reply with pending := postTo p.reply.pending .proofSkipped } := rfl

/-! ### copyLine -/

@[simp] theorem Photo.copyLine_pins (i : Nat) : (p.copyLine i).pins = p.pins := rfl
@[simp] theorem Photo.copyLine_busy (i : Nat) : (p.copyLine i).busy = p.busy := rfl
@[simp] theorem Photo.copyLine_store (i : Nat) : (p.copyLine i).store = p.store.release i := rfl
@[simp] theorem Photo.copyLine_imager (i : Nat) : (p.copyLine i).imager = p.imager := rfl
@[simp] theorem Photo.copyLine_film (i : Nat) : (p.copyLine i).film = p.film := rfl
@[simp] theorem Photo.copyLine_proof (i : Nat) : (p.copyLine i).proof = p.proof.enqueue (p.store.record i) := rfl
@[simp] theorem Photo.copyLine_log (i : Nat) : (p.copyLine i).log = p.log := rfl
@[simp] theorem Photo.copyLine_reply (i : Nat) : (p.copyLine i).reply = p.reply := rfl

/-! ### Flags of the record being imaged -/

/-- Flagging the record being imaged touches the Line Store alone. -/
theorem Photo.flagLine_frame (f : LineFlags → LineFlags) : ∃ st, p.flagLine f = { p with store := st } := by
  unfold Photo.flagLine
  cases p.imager.line with
  | none => exact ⟨p.store, rfl⟩
  | some pr => exact ⟨_, rfl⟩

/-! ### The log and the markers -/

/-- A log write touches the log and the Reply Unit alone. -/
theorem Photo.writeLog_frame (x : LogRecord) :
    ∃ r, p.writeLog x = { p with log := (p.log.append x).1, reply := r } := by
  unfold Photo.writeLog
  by_cases h : (p.log.append x).2 = true
  · exact ⟨_, by simp only [h]; rfl⟩
  · exact ⟨_, by simp only [h]; rfl⟩

/-- Beginning a waiting head record touches its progress alone. -/
theorem ReplyUnit.link_frame (r : ReplyUnit) (cts : Bool) : ∃ n, r.link cts = { r with begun := n } := by
  unfold ReplyUnit.link
  split
  · exact ⟨1, rfl⟩
  · exact ⟨r.begun, rfl⟩

/-- Appending a reply record touches the queue and the head record's progress alone. -/
theorem ReplyUnit.append_frame (r : ReplyUnit) (cts : Bool) (x : Reply) :
    ∃ n, r.append cts x = { r with queue := r.queue ++ [x], begun := n } :=
  ReplyUnit.link_frame _ cts

/-- Answering markers touches the queue, the markers and the head record's progress alone. -/
theorem ReplyUnit.answerOne_frame (r : ReplyUnit) (cts : Bool) :
    (r.answerOne cts).pending = r.pending ∧ (r.answerOne cts).mask = r.mask ∧ (r.answerOne cts).held = r.held := by
  unfold ReplyUnit.answerOne
  cases r.markers with
  | nil => exact ⟨rfl, rfl, rfl⟩
  | cons m rest =>
    obtain ⟨n, hn⟩ := ReplyUnit.append_frame { r with markers := rest } cts (.sync m.token m.line)
    dsimp only
    split
    · rw [hn]; exact ⟨rfl, rfl, rfl⟩
    · exact ⟨rfl, rfl, rfl⟩

theorem ReplyUnit.answer_frame (cts : Bool) (n : Nat) (r : ReplyUnit) :
    (r.answer cts n).pending = r.pending ∧ (r.answer cts n).mask = r.mask ∧ (r.answer cts n).held = r.held := by
  induction n generalizing r with
  | zero => exact ⟨rfl, rfl, rfl⟩
  | succ n ih =>
    have h := ReplyUnit.answerOne_frame r cts
    have k := ih (r.answerOne cts)
    exact ⟨k.1.trans h.1, k.2.1.trans h.2.1, k.2.2.trans h.2.2⟩

/-- What answering markers comes to: at most `n` of them, those at the head that are due, as far as the queue has room,
leave the markers and join the queue in the order taken; a waiting head record is begun with the first (R184, R186). -/
theorem ReplyUnit.answer_spec (cts : Bool) (n : Nat) (r : ReplyUnit) :
    let k := min n (min (r.markers.takeWhile fun m => decide (m.remaining = 0)).length (8 - r.queue.length))
    r.answer cts n = { r with
      markers := r.markers.drop k
      queue := r.queue ++ (r.markers.take k).map fun m => Reply.sync m.token m.line
      begun := if cts = true ∧ r.begun = 0 ∧ k ≠ 0 then 1 else r.begun } := by
  induction n generalizing r with
  | zero => simp [ReplyUnit.answer]
  | succ n ih =>
    simp only [ReplyUnit.answer]
    rw [ih]
    clear ih
    obtain ⟨pending, mask, queue, markers, held, begun⟩ := r
    cases markers with
    | nil => simp [ReplyUnit.answerOne]
    | cons m rest =>
      by_cases hm : m.remaining = 0
      · by_cases hq : queue.length < 8
        · obtain ⟨j, hj⟩ : ∃ j, 8 - queue.length = j + 1 := ⟨7 - queue.length, by omega⟩
          have hj' : 8 - (queue.length + 1) = j := by omega
          cases cts <;> by_cases hb : begun = 0 <;>
            simp_all [ReplyUnit.answerOne, ReplyUnit.append, ReplyUnit.link, Config.replyQueue]
        · have h0 : 8 - queue.length = 0 := by omega
          simp [ReplyUnit.answerOne, Config.replyQueue, hm, hq, h0]
      · simp [ReplyUnit.answerOne, hm]

/-! ### CLEAR-TO-SEND (R186) -/

/-- A rise begins one byte at most, of a record whose bytes are not all begun. -/
theorem ReplyUnit.goOn_spec (r : ReplyUnit) (bytes : Nat) :
    ∃ n, r.goOn bytes = { r with begun := n } ∧ r.begun ≤ n ∧ n ≤ r.begun + 1 ∧ n ≤ max r.begun r.head.length := by
  refine ⟨_, rfl, ?_⟩
  split <;> omega

/-- A fall finds at least the bytes begun before, and no more than the record has. -/
theorem ReplyUnit.halt_spec (r : ReplyUnit) (bytes : Nat) :
    ∃ n, r.halt bytes = { r with begun := n } ∧ r.begun ≤ n ∧ n ≤ max r.begun r.head.length :=
  ⟨_, rfl, by omega⟩

/-! ### The proof decision and the imaging end (R117, R120) -/

/-- The decision touches the Line Store, the Proof Spooler and the Reply Unit alone. -/
theorem Photo.decideProof_frame (i : Nat) :
    ∃ st x r, p.decideProof i = { p with store := st, proof := x, reply := r } := by
  unfold Photo.decideProof
  split
  · split
    · exact ⟨_, _, _, rfl⟩
    · split
      · exact ⟨_, _, _, rfl⟩
      · split
        · exact ⟨_, _, _, rfl⟩
        · exact ⟨_, _, _, rfl⟩
  · exact ⟨_, _, _, rfl⟩

/-- The imaging end of a line in hand: the line leaves the Imager, its record is logged, and Film Transport is left
alone. -/
theorem Photo.imagingEnd_frame (o : LineOutcome) (tag : Nat) (pr : Progress) (h : p.imager.line = some pr) :
    ∃ st x r, p.imagingEnd o tag =
      { p with
        store := st
        imager := { p.imager with line := none }
        proof := x
        log := (p.log.append (logRecord { p.store.record pr.slot with outcome := some o, tag := tag } o tag pr)).1
        reply := r } := by
  unfold Photo.imagingEnd
  simp only [h]
  obtain ⟨r1, h1⟩ := Photo.writeLog_frame
    ((p.withStore (p.store.putSlot pr.slot
      ⟨.setUndecided, { p.store.record pr.slot with outcome := some o, tag := tag }⟩)).withImager
        { p.imager with line := none })
    (logRecord { p.store.record pr.slot with outcome := some o, tag := tag } o tag pr)
  obtain ⟨st, x, r, h2⟩ := Photo.decideProof_frame
    (Photo.writeLog
      ((p.withStore (p.store.putSlot pr.slot
        ⟨.setUndecided, { p.store.record pr.slot with outcome := some o, tag := tag }⟩)).withImager
          { p.imager with line := none })
      (logRecord { p.store.record pr.slot with outcome := some o, tag := tag } o tag pr)) pr.slot
  refine ⟨st, x, r, ?_⟩
  refine h2.trans ?_
  rw [h1]
  rfl

/-- With no line in hand there is no imaging end. -/
theorem Photo.imagingEnd_none (o : LineOutcome) (tag : Nat) (h : p.imager.line = none) : p.imagingEnd o tag = p := by
  simp [Photo.imagingEnd, h]

/-! ### Halting (R148) -/

/-- A fault always leaves the Imager HALTED. -/
theorem Photo.haltNow_state : p.haltNow.imager.state = .halted := by
  unfold Photo.haltNow
  by_cases h : p.imager.state = .halted
  · simp [h]
  · simp [h, Imager.halted]

/-- What the expiry of a timer can come to: the halt, the event alone, or nothing. -/
theorem Photo.expire_cases (timer : ImagerTimer) (e : Event) :
    (p.imager.runs timer = true ∧ p.expire timer e = (p.halt e).spend timer) ∨
      (p.imager.runs timer = false ∧ p.imager.state = .halted ∧ timer ∈ p.imager.cancelled ∧
        p.expire timer e = (p.post e).spend timer) ∨
      (p.imager.runs timer = false ∧ ¬(p.imager.state = .halted ∧ timer ∈ p.imager.cancelled) ∧
        p.expire timer e = p) := by
  unfold Photo.expire
  cases p.imager.runs timer with
  | true => exact .inl ⟨rfl, rfl⟩
  | false =>
    by_cases h : p.imager.state = .halted ∧ timer ∈ p.imager.cancelled
    · exact .inr (.inl ⟨rfl, h.1, h.2, by simp [h]⟩)
    · exact .inr (.inr ⟨rfl, h, by simp only [Bool.false_eq_true, if_false]; exact if_neg h⟩)

/-- The timers that run. -/
@[simp] theorem Imager.mem_running (x : Imager) (timer : ImagerTimer) :
    timer ∈ x.running ↔ x.runs timer = true := by
  unfold Imager.running
  cases timer <;> simp

/-! ### Film Transport's operations -/

/-- An operation of Film Transport, its report apart, touches the film, the Line Store's flags and the pending set
alone. -/
theorem Photo.applyFilm_frame (y : FilmResult) :
    ∃ st r, p.applyFilm y = { p with film := y.film, store := st, reply := r } := by
  have posts : ∀ (l : List Event) (q : Photo), ∃ r, l.foldl Photo.post q = { q with reply := r } := by
    intro l
    induction l with
    | nil => exact fun q => ⟨q.reply, rfl⟩
    | cons e l ih =>
      intro q
      obtain ⟨r, hr⟩ := ih (q.post e)
      exact ⟨r, by rw [List.foldl_cons, hr]; rfl⟩
  obtain ⟨r, hr⟩ := posts y.posts { p with film := y.film }
  unfold Photo.applyFilm
  simp only [hr]
  by_cases h : y.clamped = true
  · simp only [h, if_true]
    obtain ⟨st, hst⟩ :=
      Photo.flagLine_frame { p with film := y.film, reply := r } fun f => { f with reverseClamped := true }
    exact ⟨st, r, hst⟩
  · exact ⟨p.store, r, by simp [h]⟩

end Sys2Proof.Machine
end

