-- ==== Sys2Proof/Laws/Shared.lean ====
section
/-! SUPPORT. For each operation that many meanings share, what it can do: posting, the delivery of an item, the end of
formats, the Composer's and the photo unit's steps in the whole part, the held items, and the line slots. -/

namespace Sys2Proof.Machine

open Sys2Proof Sys2Proof.Safety

/-! ### Posting (R180) -/

theorem post_eq_posted (s : State) (e : Event) : s.post e = posted e s := rfl

theorem postWhen_true (s : State) (e : Event) : s.postWhen true e = posted e s := rfl

theorem postWhen_false (s : State) (e : Event) : s.postWhen false e = s := rfl

/-- PARAMETER CLAMPED posted unless every value is in its range, as the statements say it (R11). -/
theorem postWhen_clamped (s : State) (inside : Bool) :
    s.postWhen (!inside) .parameterClamped = clampNote inside s := by
  cases inside <;> rfl

/-! ### Delivery (R10, R19) -/

/-- An item whose owner can take it is delivered: the owner acts, then formats that have run out end. -/
theorem deliver_of_takes {c : Instr} {s u : State} (h : Takes c s u) (owner : State → State) :
    deliver c owner s = .next (owner u).runOut := by
  unfold Takes at h
  simp [deliver, h]

/-- Delivery always answers, and what it answers is the state itself or what the owner leaves. -/
theorem deliver_cases (c : Instr) (owner : State → State) (s : State) :
    deliver c owner s = .next s ∨ ∃ u, Takes c s u ∧ deliver c owner s = .next (owner u).runOut := by
  unfold deliver Takes
  cases h : s.offer with
  | nothing => exact .inl rfl
  | quiet f => exact .inl rfl
  | item j t =>
    by_cases hj : j = c
    · subst hj
      exact .inr ⟨t, rfl, by simp⟩
    · exact .inl (by simp [hj])

/-- The parser's take of an item touches the Intake, format memory, the staging buffer and the pending set alone. -/
theorem takes_frame {c : Instr} {s u : State} (h : Takes c s u) :
    s.holding = false ∧ ∃ f : Front, s.front.take = .item c f ∧ u = s.withFront f := by
  unfold Takes State.offer at h
  by_cases hold : s.holding = true
  · simp [hold] at h
  · simp only [hold] at h
    cases ht : s.front.take with
    | nothing => simp [ht] at h
    | quiet f => simp [ht] at h
    | item i f =>
      simp only [ht] at h
      injection h with hi hu
      subst hi
      exact ⟨by simpa using hold, f, rfl, hu.symm⟩

/-- An item is offered only while no owner holds one, and the offer leaves it so (R10). -/
theorem takes_not_holding {c : Instr} {s u : State} (h : Takes c s u) : u.holding = false := by
  obtain ⟨hold, f, -, rfl⟩ := takes_frame h
  exact hold

/-! ### The end of formats (R19) -/

/-- The end of formats changes the parser's mode and source stack alone. -/
theorem runOut_frame (s : State) :
    ∃ mode sources, s.runOut = { s with intake := { s.intake with mode := mode, sources := sources } } := by
  unfold State.runOut
  by_cases hold : s.holding = true
  · exact ⟨s.intake.mode, s.intake.sources, by simp [hold]⟩
  · simp only [hold]
    unfold Front.runOut
    cases hp : s.front.intake.position with
    | ground => exact ⟨_, _, rfl⟩
    | number => exact ⟨s.intake.mode, s.intake.sources, rfl⟩
    | parameter num taken toCome => exact ⟨s.intake.mode, s.intake.sources, rfl⟩

/-- Nothing ends while an owner holds an item. -/
theorem runOut_of_holding {s : State} (h : s.holding = true) : s.runOut = s := by
  simp [State.runOut, h]

/-- The source stack only shrinks. -/
theorem popEnded_length (fs : FormatStore) (mode : Mode) (sources : List Source) :
    (popEnded fs mode sources).2.length ≤ sources.length := by
  induction sources generalizing mode with
  | nil => simp [popEnded]
  | cons top below ih =>
    unfold popEnded
    split
    · exact Nat.le_succ_of_le (ih _)
    · simp

/-- The mode after the end of formats is the mode before it, or EXECUTE. -/
theorem popEnded_mode (fs : FormatStore) (mode : Mode) (sources : List Source) :
    (popEnded fs mode sources).1 = mode ∨ (popEnded fs mode sources).1 = .execute := by
  induction sources generalizing mode with
  | nil => exact .inl rfl
  | cons top below ih =>
    unfold popEnded
    split
    · by_cases h : mode = .defineDiscard
      · rcases ih .execute with h' | h'
        · exact .inr (by simpa [h] using h')
        · exact .inr (by simpa [h] using h')
      · simpa [h] using ih mode
    · exact .inl rfl

/-- Every entry at the top of the stack whose format has run out is removed, down to one that has not; a DEFINE DISCARD
mode ends with the first of them. -/
theorem popEnded_spec (fs : FormatStore) (mode : Mode) (ended below : List Source)
    (out : ∀ x ∈ ended, (fs.bytes x.format).length ≤ x.offset)
    (on : ∀ x, below.head? = some x → x.offset < (fs.bytes x.format).length) :
    popEnded fs mode (ended ++ below) =
      (if ended ≠ [] ∧ mode = .defineDiscard then .execute else mode, below) := by
  induction ended generalizing mode with
  | nil =>
    cases below with
    | nil => simp [popEnded]
    | cons top rest => simp [popEnded, Nat.not_le.mpr (on top rfl)]
  | cons top rest ih =>
    simp only [List.cons_append, popEnded, out top (by simp), if_true]
    rw [ih _ fun x hx => out x (by simp [hx])]
    by_cases h : mode = .defineDiscard <;> simp [h]

/-! ### Steps of one side (views) -/

/-- A Composer step touches the Composer, the Line Store and the pending set alone. -/
theorem onDesk_frame (s : State) (f : Tables → List DictEntry → Desk → Desk) :
    { s.onDesk f with composer := s.composer, store := s.store, reply := s.reply } = s := rfl

/-- A held SYNC is not retried while 4 markers are pending (R184). -/
theorem retrySync_of_law {s : State} (h : HeldSyncLaw s) : s.retrySync = s := by
  unfold State.retrySync
  cases hh : s.reply.held with
  | none => rfl
  | some x =>
    cases x with
    | sync token =>
      have h4 : ¬s.reply.markers.length < Config.syncMarkers := Nat.not_lt.mpr (h token hh)
      simp [State.retryHeld, hh, ReplyUnit.canTake, h4]
    | query => rfl
    | events => rfl
    | readLog n => rfl

/-- A photo unit's step that leaves the held item and the markers alone is the step by itself. -/
theorem onPhoto_of_law {s : State} {busy : Bool} (h : HeldSyncLaw s) {f : Photo → Photo}
    (hheld : (f (s.photo busy)).reply.held = s.reply.held)
    (hmarkers : (f (s.photo busy)).reply.markers = s.reply.markers) :
    s.onPhoto busy f = s.withPhoto (f (s.photo busy)) := by
  unfold State.onPhoto
  apply retrySync_of_law
  intro token ht
  simp only [State.withPhoto_reply, hheld, hmarkers] at ht ⊢
  exact h token ht

/-! ### Fixed tables and slots (chapter 6) -/

theorem tabGet_tabPut_same {α : Type} {n : Nat} (v : Vector α n) (d x : α) {i : Nat} (h : i < n) :
    tabGet (tabPut v i x) d i = x := by
  simp [tabGet, tabPut, h]

theorem tabGet_tabPut_ne {α : Type} {n : Nat} (v : Vector α n) (d x : α) {i j : Nat} (h : i ≠ j) :
    tabGet (tabPut v i x) d j = tabGet v d j := by
  simp [tabGet, tabPut, Vector.getElem?_setIfInBounds_ne, h]

theorem slot_putSlot_same (st : Store) (x : LineSlot) {i : Nat} (h : i < 8) : (st.putSlot i x).slot i = x :=
  tabGet_tabPut_same _ _ _ h

theorem slot_putSlot_ne (st : Store) (x : LineSlot) {i j : Nat} (h : i ≠ j) :
    (st.putSlot i x).slot j = st.slot j :=
  tabGet_tabPut_ne _ _ _ h

@[simp] theorem putSlot_ready (st : Store) (i : Nat) (x : LineSlot) : (st.putSlot i x).ready = st.ready := rfl

@[simp] theorem putSlot_awaiting (st : Store) (i : Nat) (x : LineSlot) :
    (st.putSlot i x).awaiting = st.awaiting := rfl

@[simp] theorem putSlot_lastClosed (st : Store) (i : Nat) (x : LineSlot) :
    (st.putSlot i x).lastClosed = st.lastClosed := rfl

/-- The lowest-numbered FREE slot is FREE, and every lower one is not (R112). -/
theorem lowestFree_spec {st : Store} {i : Nat} (h : st.lowestFree = some i) :
    i < 8 ∧ (st.slot i).state = .free ∧ ∀ j, j < i → (st.slot j).state ≠ .free := by
  unfold Store.lowestFree at h
  have hm := List.mem_of_find?_eq_some h
  have hp := List.find?_some h
  refine ⟨by simpa using hm, by simpa using hp, ?_⟩
  intro j hj
  have := List.find?_range_eq_some.mp h
  simpa using this.2.2 j hj

/-- No slot is offered exactly when none is FREE. -/
theorem lowestFree_none_iff (st : Store) :
    st.lowestFree = none ↔ ∀ j, j < 8 → (st.slot j).state ≠ .free := by
  unfold Store.lowestFree
  simp [List.find?_eq_none]

end Sys2Proof.Machine
end

