-- ==== Sys2Proof/WellFormed.lean ====
section
/-! DEFINITION. Which commands are well formed: the operands the part can be given. A text code is 21h..FFh (R5), a
dictionary edit has the at most 255 codes its length byte can announce (R7), and a sector number is 0..111
(chapter 7.1). Every other operand admits every value of its width. -/

namespace Sys2Proof

def Instr.wellFormed : Instr → Bool
  | .textCode c => decide (0x21 ≤ c.toNat)
  | .dictAdd codes => decide (codes.length ≤ 255)
  | .dictDelete codes => decide (codes.length ≤ 255)
  | .sectorEvent n _ => decide (n.toNat < 112)
  | .reset => true
  | .resetEnd _ => true
  | .frameReceived _ _ _ => true
  | .parserTake => true
  | .interwordSpace => true
  | .damagedCode => true
  | .thinSpace => true
  | .enSpace => true
  | .emSpace => true
  | .discretionaryHyphen => true
  | .noHyphenate => true
  | .noBreakSpace => true
  | .killLine => true
  | .endLine => true
  | .endPara => true
  | .font _ => true
  | .size _ => true
  | .lead _ => true
  | .measure _ => true
  | .indent _ _ => true
  | .quad _ _ => true
  | .spaceband _ _ _ => true
  | .track _ => true
  | .letterspace _ => true
  | .kerning _ => true
  | .manualKern _ => true
  | .hyphenation _ _ => true
  | .hyphenLimits _ _ _ _ => true
  | .advance _ => true
  | .reverse _ => true
  | .columnMark => true
  | .cut => true
  | .cassette _ _ => true
  | .stopDisc => true
  | .save _ => true
  | .restore _ => true
  | .define _ _ => true
  | .endDefine => true
  | .call _ => true
  | .load _ _ _ _ _ => true
  | .lock _ => true
  | .dictClear => true
  | .proof _ _ => true
  | .lamp _ _ => true
  | .query => true
  | .events => true
  | .mask _ => true
  | .readLog _ => true
  | .sync _ => true
  | .clear => true
  | .waitSlotResume => true
  | .lensCommitAfterWait => true
  | .takeLine _ => true
  | .turretStepDone _ _ => true
  | .turretStepTimeout _ => true
  | .carriageArrival _ => true
  | .carriageTimeout _ => true
  | .ringSettleExpiry => true
  | .indexEvent _ _ => true
  | .spinUpTimeout _ => true
  | .sectorGapTimeout _ => true
  | .recheckTimeout _ => true
  | .flashConfirm _ => true
  | .coverOpens => true
  | .coverCloses _ _ => true
  | .filmArrival _ => true
  | .filmMoveTimeout _ => true
  | .cutterDone _ => true
  | .cutterTimeout _ => true
  | .cassetteRemoved _ => true
  | .cassetteInserted _ => true
  | .selectInactive => true
  | .selectActive _ => true
  | .busyInactive => true
  | .busyTimeout => true
  | .ack _ => true
  | .ackTimeout => true
  | .clearToSend _ _ => true
  | .replyRecordSent _ => true
  | .syncAnswer => true
  | .serviceSwitchChange _ => true

end Sys2Proof
end

