-- ==== Sys2Proof/Tests/Slice0.lean ====
section
/-! SUPPORT. Tests: the smoke of WellFormed, single steps whose results the manual's worked examples give, and for each
statement with hypotheses a witness `test_meets_…` that some state and operands meet them, clause by clause. -/

namespace Sys2Proof.Tests

-- One theorem at a time: the small evaluations below, all at once, would want a thread and its stack each.
set_option Elab.async false

open Sys2Proof Sys2Proof.Machine Sys2Proof.Safety

/-! ### Small states -/

/-- A glyph of the line in hand: disc 17, ring 1, lens position 0, at `x`, flashed at sector `position`. -/
def glyphAt (position x : Nat) : Glyph :=
  { code := some 0x61, font := 3, disc := 17, ring := 1, position := position, lens := 0, hs := 20, x := x
    role := .letter, substituted := false, manualPart := 0, pairPart := 0, advance := 32, after := x * 48 + 3200
    shrinkAt := 0 }

/-- Font 3 on disc 17, ring 1, width slot 0: code 61h at position 5, 32 units wide; one lens of 20 half-points. -/
def tables3 : Tables :=
  { Tables.reset with
    directory := Tables.reset.directory.setIfInBounds 3 (some ⟨17, 1, 0⟩)
    slots := Tables.reset.slots.setIfInBounds 0
      { WidthSlot.reset with
        codeMap := WidthSlot.reset.codeMap.setIfInBounds 0x41 (some 5)
        widths := WidthSlot.reset.widths.setIfInBounds 5 32
        codeMapLoaded := true, widthsLoaded := true, infoLoaded := true }
    lenses := Tables.reset.lenses.setIfInBounds 0 20 }

def pinsUp : Pins := ⟨false, false, true, false, true, true⟩

/-- RESET released, font 3 in force, the Imager in STANDBY, 40000 steps of film, the printer ONLINE. -/
def calm : State :=
  { State.reset with
    pins := pinsUp
    intake := { Intake.reset with ready := true }
    composer := { Composer.reset with params := { Params.reset with font := some 3 } }
    tables := tables3
    imager := { Imager.reset with state := .standby, turret := some 0, carriage := some 0 }
    film := { Film.reset pinsUp with l := 40000, a := 40000, transport := .ready }
    proof := { Proof.reset pinsUp with printer := .online } }

/-- The parser about to take the last byte of an item. -/
def item (s : State) (bytes : List Byte) : State :=
  let set (p : Position) (b : Byte) : State :=
    { s with intake := { s.intake with position := p, fifo := [.plain b] } }
  match bytes with
  | [] => s
  | [b] => set .ground b
  | [_, n] => set .number n
  | _ :: n :: ps => set (.parameter n ps.dropLast 1) (ps.getLastD 0)

def offers (c : Instr) (s : State) : Bool :=
  match s.offer with
  | .item j _ => decide (j = c)
  | _ => false

/-- The part after the take that completes the item. -/
def taken (s : State) : State :=
  match s.offer with
  | .item _ u => u
  | _ => s

theorem takes_of_offers {c : Instr} {s : State} (h : offers c s = true) : Takes c s (taken s) := by
  unfold offers at h
  unfold Takes taken
  cases ho : s.offer with
  | nothing => simp [ho] at h
  | quiet f => simp [ho] at h
  | item j u =>
    simp only [ho] at h
    rw [of_decide_eq_true h]

/-- Item `c` is about to be delivered in `s`, and the part after the take meets `p`. -/
def Meets (c : Instr) (s : State) (p : State → Prop) : Prop := Takes c s (taken s) ∧ p (taken s)

theorem heldLaw_of_none {s : State} (h : s.reply.held = none) : HeldSyncLaw s := by
  intro token ht
  rw [h] at ht
  cases ht

/-- A state with the Composer in a phase. -/
def inPhase (s : State) (p : Phase) : State := { s with composer := { s.composer with phase := p } }

/-- A line open in slot 0, with three glyphs' room behind it. -/
def openLine0 : OpenLine := ⟨0, 3200, 0, 0, 1⟩

def opened : State :=
  inPhase
    { calm with
      store := calm.store.putSlot 0
        ⟨.filling, { LineRecord.blank with mr := 840, items := [.glyph (glyphAt 5 0)], number := 7 }⟩ }
    (.opened openLine0)

/-- Every slot READY. -/
def full : State :=
  { calm with store := { calm.store with
      slots := Vector.replicate 8 ⟨.ready, .blank⟩, ready := [0, 1, 2, 3, 4, 5, 6, 7] } }

/-- The line in hand in slot 0, its first glyph in place on a RUNNING disc. -/
def shot : State :=
  { calm with
    store := calm.store.putSlot 0
      ⟨.imaging, { LineRecord.blank with number := 7, items := [.glyph (glyphAt 5 30), .glyph (glyphAt 6 60)] }⟩
    imager := { calm.imager with
      state := .setting, disc := .running, mounted := 17, ring := 1, carriage := some 30, sectors := some 112
      line := some ⟨0, .glyph, 0, true, 0, 0, 0, 0, 0, false, false⟩ } }

/-- The Imager changed. -/
def imager (s : State) (f : Imager → Imager) : State := { s with imager := f s.imager }

/-- The line in hand changed. -/
def progress (s : State) (f : Progress → Progress) : State := imager s fun x => { x with line := x.line.map f }

/-! ### WellFormed -/

theorem test_wellFormed_textCode : Instr.wellFormed (.textCode 0x20) = false := by decide
theorem test_wellFormed_dictAdd : Instr.wellFormed (.dictAdd (List.replicate 256 0x61)) = false := by decide +kernel
theorem test_wellFormed_dictDelete : Instr.wellFormed (.dictDelete (List.replicate 256 0x61)) = false := by
  decide +kernel
theorem test_wellFormed_sectorEvent : Instr.wellFormed (.sectorEvent 112 false) = false := by decide
theorem test_wellFormed_accepts :
    Instr.wellFormed (.textCode 0x21) = true ∧ Instr.wellFormed (.sectorEvent 111 true) = true ∧
      Instr.wellFormed (.dictAdd (List.replicate 255 0x61)) = true := by decide +kernel

/-- No row of the table has bits. -/
theorem test_decode_none : decodeTableWord 8 0 = none := by decide

/-! ### Witnesses: intake, formats, parameters -/

theorem test_meets_ResetEndBeginsHoming :
    State.reset.pins.resetLine = true ∧ State.reset.imager = Imager.reset ∧ State.reset.pins.coverOpen = false ∧
      State.reset.film.transport ≠ .fault := by decide +kernel

theorem test_meets_ResetEndBeginsHoming_coverOpen :
    let s := State.resetWith { Pins.powerOn with coverOpen := true }
    s.pins.resetLine = true ∧ s.imager = Imager.reset ∧ s.pins.coverOpen = true := by decide +kernel

theorem test_meets_StepsUnderResetKeepTheResetState :
    ResetLaw State.reset ∧ exec (.serviceSwitchChange true) State.reset =
      .next { State.reset with pins := { State.reset.pins with serviceSwitch := true } } := ⟨fun _ => rfl, rfl⟩

theorem test_meets_FrameIsOfferedToTheFifo :
    let at64 : State := { calm with intake := { calm.intake with fifo := List.replicate 64 (.plain 0) } }
    let at47 : State := { calm with intake := { calm.intake with fifo := List.replicate 47 (.plain 0) } }
    let at46 : State := { calm with intake := { calm.intake with fifo := List.replicate 46 (.plain 0) } }
    (calm.pins.resetLine = false ∧ calm.intake.fifo.length < 64) ∧
      (at64.pins.resetLine = false ∧ 64 ≤ at64.intake.fifo.length) ∧
      (at47.pins.resetLine = false ∧ 47 ≤ at47.intake.fifo.length ∧ at47.intake.fifo.length < 64) ∧
      (at46.pins.resetLine = false ∧ 16 ≤ at46.intake.fifo.length ∧ at46.intake.fifo.length < 47) := by
  decide +kernel

/-- One entry in the FIFO, the parser at a position and in a mode; and the part with the entry taken. -/
def fed (p : Position) (m : Mode) (e : Entry) : State :=
  { calm with intake := { calm.intake with position := p, mode := m, fifo := [e] } }

def fedTaken (p : Position) (m : Mode) : State :=
  { calm with intake := { calm.intake with position := p, mode := m } }

theorem fed_next (p : Position) (m : Mode) (e : Entry) : NextEntry (fed p m e) e (fedTaken p m) :=
  ⟨rfl, .inl ⟨rfl, [], rfl, rfl⟩⟩

/-- Formats 62 and 63 of one and two bytes, format 63 being carried out. -/
def formats2 : FormatStore :=
  { descriptors := (FormatStore.reset.descriptors.setIfInBounds 62 (some ⟨0, 1, true⟩)).setIfInBounds 63
      (some ⟨1, 2, false⟩)
    memory := [0x61, 0x0D, 0x62] }

def inFormat : State :=
  { calm with formats := formats2, intake := { calm.intake with sources := [⟨63, 0⟩] } }

theorem test_meets_ParserTakesOneEntry :
    NextEntry inFormat (.plain 0x0D) { inFormat with intake := { inFormat.intake with sources := [⟨63, 1⟩] } } ∧
      (∀ c, ¬SingleItem 0x1F c) ∧ SingleItem 0x20 .interwordSpace ∧
      (∃ t, SetAside (fedTaken .ground (.define 63 false 0)) false [0x20] t) ∧
      (∃ t, SetAside (fedTaken .ground .defineDiscard) false [0x20] t) ∧
      (∀ n, ((0xFF : Byte), n) ∉ catalogue) ∧ ((0x04 : Byte), 2) ∈ catalogue ∧ ((0x13 : Byte), 0) ∈ catalogue ∧
      (∃ t, SetAside (fedTaken .number (.define 63 false 0)) false [0x1C, 0x13] t) ∧
      (∃ t, SetAside { inFormat with intake := { inFormat.intake with position := .number } } true [0x1C, 0x35] t) ∧
      (∃ c, CommandOf 0x02 [192] c) ∧ (∃ c, CommandOf 0x20 [0x61, 0, 0, 0, 1, 0, 20, 0x6A] c) ∧
      (fedTaken .number .execute).intake.position ≠ .ground ∧
      (fedTaken .ground .defineDiscard).intake.mode ≠ .execute := by
  refine ⟨⟨rfl, .inr ⟨⟨63, 0⟩, [], ⟨1, 2, false⟩, 0x0D, rfl, rfl, by decide, rfl, rfl, rfl⟩⟩, ?_, .inl ⟨rfl, rfl⟩,
    ⟨_, .inl ⟨63, false, 0, rfl, rfl⟩⟩, ⟨_, .inr (.inl ⟨rfl, rfl⟩)⟩, ?_, by decide, by decide,
    ⟨_, .inl ⟨63, false, 0, rfl, rfl⟩⟩, ⟨_, .inr (.inr ⟨rfl, nofun, rfl, rfl⟩)⟩,
    ⟨.size 192, .inl ⟨192, rfl, by simp⟩⟩,
    ⟨_, .inr (.inr (.inr (.inr (.inr ⟨0x61, 0, 0, 0, 1, 0, [20], 0x6A, rfl, rfl, rfl⟩))))⟩, nofun, nofun⟩
  · intro c h
    simp [SingleItem] at h
  · intro n h
    simp [catalogue] at h

/-- R8, R15: a LOAD of 513 entries takes 512 bytes and its sum byte in DEFINE too, and posts nothing there. -/
theorem test_loadCountClamped :
    let header (m : Mode) : State := fed (.parameter 0x20 [0x20, 0, 0, 2, 1] 1) m (.plain 0)
    let t (m : Mode) : State := match exec .parserTake (header m) with
      | .next t => t
      | _ => header m
    (t .execute).intake.position = .parameter 0x20 [0x20, 0, 0, 2, 1, 0] 513 ∧ (t .execute).reply.pending = 8 ∧
      (t (.define 1 false 0)).intake.position = .parameter 0x20 [0x20, 0, 0, 2, 1, 0] 513 ∧
      (t (.define 1 false 0)).reply.pending = 0 := by decide +kernel

theorem test_meets_ParserDeliversInStreamOrder :
    (NextEntry (fed .ground .execute (.plain 0x21)) (.plain 0x21) (fedTaken .ground .execute) ∧
        SingleItem 0x21 (.textCode 0x21) ∧ SingleItem 0x0D .endLine ∧
        (fedTaken .ground .execute).intake.mode = .execute) ∧
      (BareCommand 0x13 .cut ∧ (0x13 : Byte) ≠ 0x24 ∧ (0x13 : Byte) ≠ 0x35) ∧
      (BareCommand 0x35 .clear ∧ (fedTaken .number .execute).intake.sources = []) ∧
      (CommandOf 0x05 ([0, 24, 0] ++ [30]) (.indent 24 30) ∧ (0x05 : Byte) ∉ [0x20#8, 0x21, 0x22, 0x23]) ∧
      CommandOf 0x22 ([] ++ [0]) (.dictAdd []) ∧ CommandOf 0x23 ([2, 0x61] ++ [0x62]) (.dictDelete [0x61, 0x62]) ∧
      CommandOf 0x20 ([0x61, 0, 0, 0, 1, 0, 20] ++ [0x6A]) (.load 0x61 0 1 0 0x6A) ∧
      State.holding { calm with reply := { calm.reply with held := some .query } } = true := by
  refine ⟨⟨fed_next _ _ _, .inr (.inl ⟨by decide, rfl⟩), .inr (.inr (by simp)), rfl⟩, ⟨by simp [BareCommand], by decide⟩,
    ⟨by simp [BareCommand], rfl⟩, ⟨.inr (.inr (.inr (.inl ⟨0, 24, 0, 30, rfl, by decide⟩))), by decide⟩,
    .inr (.inr (.inr (.inr (.inl ⟨0, [], rfl, by simp⟩)))),
    .inr (.inr (.inr (.inr (.inl ⟨2, [0x61, 0x62], rfl, by simp⟩)))),
    .inr (.inr (.inr (.inr (.inr ⟨0x61, 0, 0, 0, 1, 0, [20], 0x6A, rfl, rfl, by decide⟩)))), rfl⟩

theorem test_meets_StoredFormatsAreDefinedAndCalled :
    let defining : State := { calm with
      intake := { calm.intake with mode := .define 1 true 1 }
      formats := { calm.formats with memory := [0x61] } }
    let locked : State := { defining with tables := { tables3 with locks := { Locks.reset with formats := true } } }
    let present : State := { calm with formats :=
      { descriptors := calm.formats.descriptors.setIfInBounds 63 (some ⟨0, 1, true⟩), memory := [0x61] } }
    let discarding : State := { calm with intake := { calm.intake with mode := .defineDiscard } }
    let inside : State := { present with intake := { present.intake with sources := [⟨63, 1⟩] } }
    Meets (.define 63 0) (item calm [0x1C, 0x1A, 63, 0]) (fun u => u.intake.sources = [] ∧
        u.tables.locks.formats = false) ∧
      Meets (.define 64 0) (item calm [0x1C, 0x1A, 64, 0]) (fun _ => ¬(64 : Byte).toNat ≤ 63) ∧
      Meets .endDefine (item calm [0x1C, 0x1B]) (fun u => u.intake.mode = .execute) ∧
      Meets .endDefine (item discarding [0x1C, 0x1B]) (fun u => u.intake.mode = .defineDiscard) ∧
      Meets .endDefine (item defining [0x1C, 0x1B]) (fun u => u.intake.mode = .define 1 true 1 ∧
        u.tables.locks.formats = false) ∧
      Meets .endDefine (item locked [0x1C, 0x1B]) (fun u => u.intake.mode = .define 1 true 1 ∧
        u.tables.locks.formats = true ∧ u.pins.serviceSwitch = false) ∧
      Meets (.call 63) (item present [0x1C, 0x1D, 63]) (fun u => u.formats.format 63 = some ⟨0, 1, true⟩ ∧
        u.intake.sources = []) ∧
      Meets (.call 62) (item present [0x1C, 0x1D, 62]) (fun u => u.formats.format 62 = none) ∧
      (inside.holding = false ∧ inside.intake.position = .ground ∧ inside.intake.sources = [⟨63, 1⟩] ∧
        (inside.formats.bytes 63).length ≤ 1 ∧ 0 < (inside.formats.bytes 63).length) ∧
      (formats2.format 61 = none ∧ formats2.format 62 = some ⟨0, 1, true⟩ ∧ 0 + 1 ≤ formats2.memory.length ∧
        formats2.format 63 = some ⟨1, 2, false⟩ ∧ (formats2.free 62).bytes 63 = [0x0D, 0x62]) := by
  refine ⟨⟨takes_of_offers ?_, ?_⟩, ⟨takes_of_offers ?_, ?_⟩, ⟨takes_of_offers ?_, ?_⟩, ⟨takes_of_offers ?_, ?_⟩,
    ⟨takes_of_offers ?_, ?_⟩, ⟨takes_of_offers ?_, ?_⟩, ⟨takes_of_offers ?_, ?_⟩, ⟨takes_of_offers ?_, ?_⟩, ?_, ?_⟩ <;>
    decide +kernel

/-- Two formats of length 0 have run out above one that goes on, in DEFINE DISCARD; and an item half taken. -/
theorem test_meets_StoredFormatsAreDefinedAndCalled_ends :
    let ended : List Source := [⟨2, 0⟩, ⟨3, 0⟩]
    let s : State := { calm with
      formats := { calm.formats with
        descriptors := calm.formats.descriptors.setIfInBounds 1 (some ⟨0, 1, true⟩), memory := [0x61] }
      intake := { calm.intake with mode := .defineDiscard, sources := ended ++ [⟨1, 0⟩] } }
    (s.holding = false ∧ s.intake.position = .ground ∧ s.intake.mode = .defineDiscard ∧
        (∀ x ∈ ended, (s.formats.bytes x.format).length ≤ x.offset) ∧ 0 < (s.formats.bytes 1).length) ∧
      (item s [0x1C, 0x08]).intake.position ≠ .ground := by decide +kernel

theorem test_meets_TypographicCommandsSetTheirParameters :
    Meets (.size 192) (item calm [0x1C, 0x02, 192]) (fun _ => True) ∧
      Meets (.lead 401) (item calm [0x1C, 0x03, 1, 145]) (fun _ => True) ∧
      Meets (.letterspace 20) (item calm [0x1C, 0x09, 20]) (fun _ => True) ∧
      Meets (.track 0xF0) (item calm [0x1C, 0x08, 0xF0]) (fun _ => True) ∧
      Meets (.manualKern 0xD0) (item calm [0x1C, 0x0B, 0xD0]) (fun _ => True) ∧
      Meets (.kerning 0) (item calm [0x1C, 0x0A, 0]) (fun _ => True) ∧
      Meets (.hyphenation 1 3) (item calm [0x1C, 0x0C, 1, 3]) (fun _ => True) ∧
      Meets (.hyphenLimits 7 7 0 0) (item calm [0x1C, 0x0D, 7, 7, 0, 0]) (fun _ => True) ∧
      Meets (.quad 3 4) (item calm [0x1C, 0x06, 3, 4]) (fun _ => 3 < (4 : Byte).toNat) := by
  refine ⟨⟨takes_of_offers ?_, ?_⟩, ⟨takes_of_offers ?_, ?_⟩, ⟨takes_of_offers ?_, ?_⟩, ⟨takes_of_offers ?_, ?_⟩,
    ⟨takes_of_offers ?_, ?_⟩, ⟨takes_of_offers ?_, ?_⟩, ⟨takes_of_offers ?_, ?_⟩, ⟨takes_of_offers ?_, ?_⟩,
    ⟨takes_of_offers ?_, ?_⟩⟩ <;> decide +kernel

theorem test_meets_RelatedParametersAreBroughtIntoRelation :
    Meets (.measure 24) (item calm [0x1C, 0x04, 0, 24]) (fun _ => True) ∧
      Meets (.indent 552 0) (item calm [0x1C, 0x05, 2, 40, 0, 0]) (fun u => 24 ≤ u.composer.params.measure) ∧
      Meets (.spaceband 40 20 30) (item calm [0x1C, 0x07, 40, 20, 30]) (fun _ => True) := by
  refine ⟨⟨takes_of_offers ?_, ?_⟩, ⟨takes_of_offers ?_, ?_⟩, ⟨takes_of_offers ?_, ?_⟩⟩ <;> decide +kernel

theorem test_meets_FontIsSelectedOnlyWhenSettable :
    Meets (.font 3) (item calm [0x1C, 0x01, 3]) (fun u => u.tables.settable 3 = true) ∧
      Meets (.font 63) (item calm [0x1C, 0x01, 63]) (fun u => u.tables.settable 63 = false) := by
  refine ⟨⟨takes_of_offers ?_, ?_⟩, ⟨takes_of_offers ?_, ?_⟩⟩ <;> decide +kernel

/-- `n` frames on the stack. -/
def stacked (n : Nat) : State :=
  { calm with composer := { calm.composer with stack := List.replicate n (Params.reset.frame 0) } }

theorem test_meets_SaveAndRestore :
    Meets (.save 255) (item (stacked 7) [0x1C, 0x18, 255]) (fun u => u.composer.stack.length < 8) ∧
      Meets (.save 255) (item (stacked 8) [0x1C, 0x18, 255]) (fun u => 8 ≤ u.composer.stack.length) ∧
      Meets (.restore 255) (item (stacked 1) [0x1C, 0x19, 255]) (fun u =>
        u.composer.stack = [Params.reset.frame 0]) ∧
      Meets (.restore 1) (item calm [0x1C, 0x19, 1]) (fun u => u.composer.stack = []) := by
  refine ⟨⟨takes_of_offers ?_, ?_⟩, ⟨takes_of_offers ?_, ?_⟩, ⟨takes_of_offers ?_, ?_⟩, ⟨takes_of_offers ?_, ?_⟩⟩ <;>
    decide +kernel


/-! ### Witnesses: setting a line -/

theorem takes_iff (c : Instr) (s : State) : Takes c s (taken s) ↔ offers c s = true := by
  refine ⟨fun h => ?_, takes_of_offers⟩
  unfold Takes at h
  simp [offers, h]

/-- `CanSet` as a check. -/
def canSetB (s : State) : Bool :=
  match s.composer.params.font with
  | some f =>
    match s.tables.entry f with
    | some e => (s.tables.widthSlot e.slot).valid && (List.range 12).any fun k => tabGet s.tables.lenses 0 k != 0
    | none => false
  | none => false

theorem canSet_iff (s : State) : CanSet s ↔ canSetB s = true := by
  unfold CanSet canSetB
  cases s.composer.params.font with
  | none => simp
  | some f =>
    cases hf : s.tables.entry f with
    | none => simp [hf]
    | some e =>
      simp only [hf, Bool.and_eq_true, List.any_eq_true, List.mem_range, bne_iff_ne]
      constructor
      · rintro ⟨f', e', hf', he', hv, k, hk⟩
        cases hf'
        rw [hf] at he'
        cases he'
        refine ⟨hv, k, ?_, hk⟩
        by_contra h
        exact hk (by simp [tabGet, h])
      · rintro ⟨hv, k, -, hk⟩
        exact ⟨f, e, rfl, hf, hv, k, hk⟩

/-- No font in force. -/
def noFont : State := { calm with composer := .reset }

/-- A damaged code at the head of the FIFO. -/
def damaged (s : State) : State := { s with intake := { s.intake with fifo := [.damaged] } }

theorem test_meets_CodesThatSetAreCheckedAtTheTake :
    (SetsGlyph (.textCode 0x61) (some 0x61) ∧ SetsGlyph .damagedCode none ∧ SetsSpace .emSpace .em) ∧
      Meets (.textCode 0x61) (item noFont [0x61]) (fun u => ¬CanSet u) ∧
      Meets .damagedCode (damaged noFont) (fun u => ¬CanSet u) ∧
      Meets .emSpace (item noFont [0x03]) (fun u => ¬CanSet u) ∧
      Meets .discretionaryHyphen (item noFont [0x04]) (fun u =>
        u.composer.phase = .idle ∧ u.composer.word.glyphs = []) ∧
      Meets .killLine (item noFont [0x08]) (fun u => u.composer.phase = .idle) ∧
      Meets .endLine (item noFont [0x0D]) (fun u => LowestFree u 0) := by
  refine ⟨⟨.inr ⟨_, rfl, rfl⟩, .inl ⟨rfl, rfl⟩, by simp [SetsSpace]⟩, ?_⟩
  simp only [Meets, takes_iff, canSet_iff, LowestFree]
  decide +kernel

/-- What `CharacterSetsAGlyphOnTheOpenLine` asks of the part, for font 3 of `tables3`. -/
def SetsHere (u : State) (line : OpenLine) (lens hs : Nat) : Prop :=
  u.composer.phase = .opened line ∧ u.composer.params.font = some 3 ∧ u.tables.entry 3 = some ⟨17, 1, 0⟩ ∧
    (u.tables.widthSlot 0).valid = true ∧ u.tables.resolve u.composer.params.size = some (lens, hs) ∧
    u.composer.word.glyphs.length < 47

/-- 47 glyphs in the word buffer. -/
def long (s : State) : State :=
  { s with composer := { s.composer with word := ⟨List.replicate 47 (glyphAt 5 0), [], false⟩ } }

theorem test_meets_CharacterSetsAGlyphOnTheOpenLine :
    let near : OpenLine := { openLine0 with x := 40000, shrink := 48, glyphs := 159 }
    Meets (.textCode 0x61) (item opened [0x61]) (fun u => SetsHere u openLine0 0 20) ∧
      Meets (.textCode 0x62) (item opened [0x62]) (fun u => SetsHere u openLine0 0 20) ∧
      Meets .damagedCode (damaged opened) (fun u => SetsHere u openLine0 0 20) ∧
      Meets (.textCode 0x61) (item (inPhase opened (.opened near)) [0x61]) (fun u => SetsHere u near 0 20) ∧
      Meets (.textCode 0x61) (item (inPhase opened (.overflowed openLine0)) [0x61]) (fun u =>
        u.composer.phase = .overflowed openLine0 ∧ u.composer.word.glyphs.length < 47) ∧
      Meets (.textCode 0x61) (item (long opened) [0x61]) (fun u => u.composer.phase = .opened openLine0 ∧
        u.composer.word.glyphs.length = 47 ∧ openLine0.slot < 8 ∧ openLine0.glyphs + 1 < 160 ∧
        ¬(u.store.record 0).mr < (openLine0.x + 32 * 20 * 5 + 24) / 48) ∧
      Meets (.textCode 0x61) (item (long (inPhase opened (.opened near))) [0x61]) (fun u =>
        u.composer.word.glyphs.length = 47 ∧ 160 ≤ near.glyphs + 1) := by
  simp only [Meets, takes_iff, SetsHere]
  decide +kernel

theorem test_meets_CharacterOpensALine :
    let waiting (s : State) : State := inPhase s (.waitSlot (.code (.textCode 0x61)))
    Meets (.textCode 0x61) (item calm [0x61]) (fun u =>
        u.composer.phase = .idle ∧ u.composer.word.glyphs = [] ∧ CanSet u ∧ LowestFree u 0) ∧
      Meets (.textCode 0x61) (item full [0x61]) (fun u =>
        u.composer.phase = .idle ∧ u.composer.word.glyphs = [] ∧ CanSet u ∧ NoneFree u) ∧
      (CanSet (waiting calm) ∧ LowestFree (waiting calm) 0 ∧
        (waiting calm).composer.phase = .waitSlot (.code (.textCode 0x61)) ∧
        (waiting calm).composer.word.glyphs = []) ∧
      CanSet (waiting full) ∧ NoneFree (waiting full) := by
  simp only [Meets, takes_iff, canSet_iff, LowestFree, NoneFree]
  decide +kernel

/-- A space of the line in hand. -/
def spaceOf (kind : SpaceKind) : Space :=
  { kind := kind, font := 3, lens := 0, hs := 20, minimum := 1600, normal := 2400, maximum := 4000, extra := 0
    after := 5600 }

/-- The open line's items and glyph count replaced. -/
def holding (line : OpenLine) (items : List LineItem) : State :=
  { inPhase opened (.opened line) with
    store := opened.store.putRecord 0 { opened.store.record 0 with items := items } }

theorem test_meets_SpaceJoinsTheOpenLine :
    let here (u : State) (line : OpenLine) (n : Nat) : Prop :=
      u.composer.phase = .opened line ∧ line.slot < 8 ∧ CanSet u ∧ u.composer.params.font = some 3 ∧
        u.tables.resolve u.composer.params.size = some (0, 20) ∧ (spacesOf (u.store.record 0).items).length = n
    Meets .interwordSpace (item opened [0x20]) (fun u => here u openLine0 0) ∧
      Meets .noBreakSpace (item (holding { openLine0 with glyphs := 0 } []) [0x06]) (fun u =>
        here u { openLine0 with glyphs := 0 } 0) ∧
      Meets .interwordSpace (item (holding openLine0 [.glyph (glyphAt 5 0), .space (spaceOf .interword)]) [0x20])
        (fun u => here u openLine0 1) ∧
      Meets .thinSpace (item (holding openLine0 (List.replicate 159 (.space (spaceOf .thin)))) [0x01])
        (fun u => here u openLine0 159) ∧
      Meets .emSpace (item (holding openLine0 (List.replicate 160 (.space (spaceOf .thin)))) [0x03])
        (fun u => here u openLine0 160) ∧
      Meets .enSpace (item opened [0x02]) (fun u => here u openLine0 0) ∧
      Meets .discretionaryHyphen (item opened [0x04]) (fun u => u.composer.word.glyphs = []) ∧
      Meets .noHyphenate (item opened [0x05]) (fun _ => True) := by
  simp only [Meets, takes_iff, canSet_iff]
  decide +kernel

/-- Spaces with no line open, and a fixed space held in WAIT SLOT. -/
theorem test_meets_SpaceJoinsTheOpenLine_idle :
    let idle (u : State) : Prop := u.composer.phase = .idle ∧ CanSet u ∧ u.composer.params.font = some 3 ∧
      u.tables.resolve u.composer.params.size = some (0, 20)
    let waits : State := inPhase calm (.waitSlot (.code .emSpace))
    Meets .interwordSpace (item calm [0x20]) idle ∧ Meets .noBreakSpace (item calm [0x06]) idle ∧
      Meets .thinSpace (item calm [0x01]) (fun u => idle u ∧ LowestFree u 0) ∧
      Meets .enSpace (item full [0x02]) (fun u => idle u ∧ NoneFree u) ∧
      (CanSet waits ∧ LowestFree waits 0 ∧ waits.composer.phase = .waitSlot (.code .emSpace)) ∧
      SetsSpace .emSpace .em := by
  refine ⟨?_, ?_, ?_, ?_, ?_, by simp [SetsSpace]⟩ <;> simp only [Meets, takes_iff, canSet_iff, LowestFree, NoneFree] <;>
    decide +kernel

/-- `CapacityLaw` as a check, for a state with no code held in WAIT SLOT. -/
def capacityB (s : State) : Bool :=
  decide (s.intake.fifo.length ≤ 64 ∧ s.intake.errors ≤ 255 ∧ s.intake.sources.length ≤ 4 ∧
    s.formats.memory.length ≤ 4096 ∧ s.composer.stack.length ≤ 8 ∧ s.composer.word.glyphs.length ≤ 48 ∧
    s.composer.ladder ≤ 255 ∧ -14400 ≤ s.composer.adjust ∧ s.composer.adjust ≤ 14400 ∧
    s.imager.history.length ≤ 8 ∧ s.imager.stamp < 4294967296 ∧ s.proof.queue.length ≤ 12 ∧ s.proof.gap ≤ 65535 ∧
    s.log.unread ≤ 64 ∧ s.log.write < 64 ∧ s.log.read < 64 ∧ s.reply.queue.length ≤ 8 ∧ s.reply.markers.length ≤ 4 ∧
    s.composer.counter < 65536) &&
  ((s.imager.line.map (·.deferrals)).getD 0 ≤ 65535 : Bool) &&
  (List.range 8).all (fun i => (s.store.record i).number < 65536 ∧ (glyphsOf (s.store.record i).items).length ≤ 160 ∧
      (spacesOf (s.store.record i).items).length ≤ 160) &&
  match s.composer.phase with
  | .idle => decide (s.composer.word.glyphs = [])
  | .opened line =>
    decide ((glyphsOf (s.store.record line.slot).items).length + s.composer.word.glyphs.length ≤ line.glyphs ∧
      line.glyphs < 160)
  | _ => false

theorem capacity_of_check {s : State} (h : capacityB s = true) : CapacityLaw s := by
  unfold capacityB at h
  simp only [Bool.and_eq_true, decide_eq_true_eq, List.all_eq_true, List.mem_range] at h
  obtain ⟨⟨⟨⟨h1, h2, h3, h4, h5, h6, h7, h8, h9, h10, h11, h12, h13, h14, h15, h16, h17, h18, h19⟩, hd⟩, hr⟩, hp⟩ := h
  refine ⟨h1, h2, h3, h4, h5, h6, h7, h8, h9, h10, h11, h12, h13, h14, h15, h16, h17, h18, h19, ?_, fun i => ?_, ?_⟩
  · intro pr hl
    rw [hl] at hd
    exact hd
  · by_cases hi : i < 8
    · exact hr i hi
    · have : s.store.record i = .blank := by simp [Store.record, Store.slot, tabGet, hi]
      rw [this]
      decide
  · revert hp
    cases s.composer.phase <;> simp

theorem test_meets_EndOfLineClosesTheLine :
    Meets .endLine (item opened [0x0D]) (fun u => CapacityLaw u ∧ u.composer.phase = .opened openLine0) ∧
      Meets .endPara (item opened [0x0A]) (fun u => CapacityLaw u ∧ u.composer.phase = .opened openLine0) ∧
      Meets .endLine (item calm [0x0D]) (fun u => CapacityLaw u ∧ u.composer.phase = .idle ∧ LowestFree u 0) ∧
      Meets .endPara (item full [0x0A]) (fun u => CapacityLaw u ∧ u.composer.phase = .idle ∧ NoneFree u) := by
  refine ⟨⟨takes_of_offers ?_, capacity_of_check ?_, ?_⟩, ⟨takes_of_offers ?_, capacity_of_check ?_, ?_⟩,
    ⟨takes_of_offers ?_, capacity_of_check ?_, ?_⟩, ⟨takes_of_offers ?_, capacity_of_check ?_, ?_⟩⟩ <;>
    first | (unfold LowestFree; decide +kernel) | (unfold NoneFree; decide +kernel) | decide +kernel

theorem test_meets_CutAndStopOpenAndCloseARecord :
    Meets .cut (item calm [0x1C, 0x13]) (fun u => u.composer.phase = .idle ∧ LowestFree u 0) ∧
      Meets .stopDisc (item calm [0x1C, 0x15]) (fun u => u.composer.phase = .idle ∧ LowestFree u 0) ∧
      Meets .cut (item full [0x1C, 0x13]) (fun u => u.composer.phase = .idle ∧ NoneFree u) ∧
      Meets .stopDisc (item opened [0x1C, 0x15]) (fun u => u.composer.phase = .opened openLine0 ∧
        LowestFree u 1 ∧ (u.store.slot 0).state = .filling) := by
  simp only [Meets, takes_iff, LowestFree, NoneFree]
  decide +kernel

/-- The open line of `opened` OVERFLOWED. -/
def overflowing : State := inPhase opened (.overflowed openLine0)

theorem test_meets_KillLineAndClear :
    Meets .killLine (item opened [0x08]) (fun u => u.composer.phase = .opened openLine0) ∧
      Meets .killLine (item overflowing [0x08]) (fun u => u.composer.phase = .overflowed openLine0) ∧
      Meets .killLine (item calm [0x08]) (fun u => u.composer.phase = .idle) ∧
      Meets .clear (item full [0x1C, 0x35]) (fun u => u.composer.phase = .idle) ∧
      Meets .clear (item overflowing [0x1C, 0x35]) (fun u => u.composer.phase = .overflowed openLine0 ∧
        (u.store.slot 0).state = .filling) := by
  simp only [Meets, takes_iff]
  decide +kernel

/-- A word too long for its line in slot 0, in a full line store: only what fits is kept. -/
def tight : State :=
  { full with
    composer := { full.composer with
      phase := .overflowed openLine0
      word := ⟨[glyphAt 5 0, { glyphAt 6 60 with after := 50000 }], [], false⟩ }
    store := full.store.putSlot 0 ⟨.filling, { LineRecord.blank with mr := 840, number := 7 }⟩ }

theorem test_meets_BreakDecisionClosesTheOverflowedLine :
    Meets .endLine (item tight [0x0D]) (fun u => u.composer.phase = .overflowed openLine0 ∧
        (u.store.slot 0).state = .filling ∧ NoneFree u ∧
        (decideBreak u.tables u.dict u.composer.params u.composer.ladder 840
          (u.composer.word.glyphs.map LineItem.glyph) ⟨[some 0x61, some 0x61], [], false⟩ 0).carried ≠ []) ∧
      Meets .interwordSpace (item overflowing [0x20]) (fun u => CanSet u ∧ u.composer.phase = .overflowed openLine0 ∧
        (u.store.slot 0).state = .filling) ∧
      Meets .cut (item overflowing [0x1C, 0x13]) (fun u => u.composer.phase = .overflowed openLine0) := by
  simp only [Meets, takes_iff, canSet_iff, NoneFree]
  decide +kernel


/-! ### The worked examples of chapters 4 and 5 -/

/-- The codes of a piece of copy. -/
def codesOf (text : String) : List Byte := ascii text.toList

/-- Sections 4.11, 4.14: the width of each letter of "type shop setting" in units. -/
def unitsOf (b : Byte) : Nat :=
  if b ∈ codesOf "t" then 32 else if b ∈ codesOf "y" then 48 else if b ∈ codesOf "e" then 44
  else if b ∈ codesOf "s" then 38 else if b ∈ codesOf "o" then 50 else if b ∈ codesOf "i" then 26
  else if b ∈ codesOf "n" then 54 else if b ∈ codesOf "g" then 48 else 52

/-- Copy as items to be placed: 20h is an interword space of 16, 24 and 40 units at hs 20. -/
def copyOf (text : String) : List LineItem :=
  (codesOf text).map fun b =>
    if b = 0x20 then .space (spaceOf .interword)
    else .glyph { glyphAt 5 0 with code := some b, advance := unitsOf b }

/-- A line of this copy at a measure of `mr` steps, closed in justify. -/
def closedCopy (mr letterspace : Nat) (text : String) : LineRecord :=
  let line := refill 0 mr (copyOf text)
  closeRecord { Params.reset with letterspace := letterspace } .justify line.x
    { LineRecord.blank with mr := mr, items := line.items }

def xsOf (items : List LineItem) : List Nat := (glyphsOf items).map (·.x)

/-- Section 4.11: the origins, the overflow test, D = 23 on one space. -/
theorem test_close_oneLine :
    xsOf (refill 0 840 (copyOf "type shop")).items = [0, 67, 167, 275, 417, 496, 604, 708] ∧
      (refill 0 840 (copyOf "type shop")).x = 39200 ∧ (refill 0 840 (copyOf "type shop")).overflowed = false ∧
      xsOf (closedCopy 840 0 "type shop").items = [0, 67, 167, 275, 440, 519, 627, 731] ∧
      (closedCopy 840 0 "type shop").quotient = 23 ∧ (closedCopy 840 0 "type shop").flags.loose = false := by
  decide +kernel

/-- Section 4.12: compression by 17 steps. -/
theorem test_close_compression :
    xsOf (closedCopy 800 0 "type shop").items = [0, 67, 167, 275, 400, 479, 587, 691] ∧
      (closedCopy 800 0 "type shop").quotient = -17 := by decide +kernel

/-- Section 4.12, R79: 23 and −5 over two spaces. -/
theorem test_share :
    (List.range 2).map (extraOf (shareQuotient 23 2) (shareRemainder 23 2)) = [12, 11] ∧
      (List.range 2).map (extraOf (shareQuotient (-5) 2) (shareRemainder (-5) 2)) = [-2, -3] := by decide

/-- Section 4.13: letterspace 3 and 10, LOOSE both times. -/
theorem test_close_letterspacing :
    xsOf (closedCopy 900 3 "type shop").items = [0, 70, 173, 284, 491, 573, 684, 791] ∧
      xsOf (closedCopy 900 10 "type shop").items = [0, 75, 183, 299, 476, 563, 679, 791] ∧
      (closedCopy 900 3 "type shop").flags.loose = true ∧ (closedCopy 900 10 "type shop").flags.loose = true := by
  decide +kernel

/-- Section 5.7: the classes of the letters of "setting" and the scores the word reaches; a hyphen glyph of 28 units at
position 9 (section 4.14). -/
def tablesHyphen : Tables :=
  let letter (t : Vector ClassEntry 224) (b : Byte) : Vector ClassEntry 224 :=
    t.setIfInBounds (b.toNat - 0x20) ⟨if b ∈ codesOf "eio" then 1 else 2, false, b⟩
  { tables3 with
    classes := (codesOf "setingpjcrolhdn").foldl letter tables3.classes
    rules := ((tables3.rules.setIfInBounds 287 1).setIfInBounds 186 3).setIfInBounds 185 2
    slots := tables3.slots.setIfInBounds 0
      { tables3.widthSlot 0 with
        widths := (tables3.widthSlot 0).widths.setIfInBounds 9 28
        info := (tables3.widthSlot 0).info.setIfInBounds 0 9 } }

def wordOf (text : String) (marks : List Nat) : Machine.Word := ⟨(codesOf text).map some, marks, false⟩

/-- Section 5.7: one candidate, set-ting; with the threshold at 1 also se-tting; with parentheses one gap further. -/
theorem test_candidates_setting :
    candidates .reset 0 tablesHyphen [] (wordOf "setting" []) = [⟨3, .rule⟩] ∧
      candidates { Params.reset with threshold := 1 } 0 tablesHyphen [] (wordOf "setting" []) =
        [⟨2, .rule⟩, ⟨3, .rule⟩] ∧
      candidates .reset 0 tablesHyphen [] (wordOf "(setting)" []) = [⟨4, .rule⟩] := by decide +kernel

/-- Section 5.7: an entry's breaks, and an entry with none. -/
theorem test_candidates_dictionary :
    candidates .reset 0 tablesHyphen [⟨codesOf "setting", [3]⟩] (wordOf "setting" []) = [⟨3, .dictionary⟩] ∧
      candidates .reset 0 tablesHyphen [⟨codesOf "setting", []⟩] (wordOf "setting" []) = [] := by decide +kernel

/-- The break decision of an overflowing line of this copy. -/
def breakOf (p : Params) (mr : Nat) (text : String) (w : Machine.Word) : Cut :=
  decideBreak tablesHyphen [] p 0 mr (refill 0 mr (copyOf text)).items w 0

/-- Section 4.14: the line keeps "type shop set" and a hyphen at 1104; t, i, n, g are carried, and placed afresh. -/
theorem test_break_deferred :
    let cut := breakOf .reset 1200 "type shop setting" (wordOf "setting" [])
    cut.hyphenEnded = true ∧ xsOf cut.kept = [0, 67, 167, 275, 417, 496, 604, 708, 867, 946, 1038, 1104] ∧
      xsOf (refill 0 1200 cut.carried).items = [0, 67, 121, 233] ∧
      xsOf (closeRecord .reset .justify (positionAfter 0 cut.kept)
        { LineRecord.blank with mr := 1200, items := cut.kept }).items =
          [0, 67, 167, 275, 436, 515, 623, 727, 904, 983, 1075, 1141] := by decide +kernel

/-- Section 4.15: a forced break after h, 52 steps left at the right. -/
theorem test_break_forced :
    let cut := breakOf .reset 240 "shop" (wordOf "shop" [])
    let line := closeRecord .reset .justify (positionAfter 0 cut.kept)
      { LineRecord.blank with mr := 240, items := cut.kept }
    cut.forced = true ∧ xsOf cut.kept = [0, 79] ∧ line.leftAtRight = 52 ∧ line.flags.loose = true ∧
      xsOf (refill 0 240 cut.carried).items = [0, 104] := by decide +kernel

/-- The next line of a carry in WAIT SLOT, with the code that ended its word. -/
def carrying (text : String) (ending : Option Instr) : State :=
  let s := inPhase calm (.waitSlot (.carry ⟨copyOf text, (codesOf text).map some, [], false, 0⟩ ending))
  { s with composer := { s.composer with params := { s.composer.params with measure := 84 } } }

/-- A word too long for its line, with slot 1 FREE for what is carried. -/
def roomy : State := { tight with store := { calm.store.putSlot 0 (tight.store.slot 0) with ready := [] } }

/-- What is carried meets a FREE slot: on a line that holds it, with each ending, and on one that it overflows. -/
theorem test_meets_BreakDecisionClosesTheOverflowedLine_carry :
    let carried : List LineItem := (decideBreak tables3 [] roomy.composer.params 0 840
      (roomy.composer.word.glyphs.map LineItem.glyph) ⟨[some 0x61, some 0x61], [], false⟩ 0).carried
    let waits (text : String) (ending : Option Instr) : Prop :=
      (carrying text ending).composer.phase =
          .waitSlot (.carry ⟨copyOf text, (codesOf text).map some, [], false, 0⟩ ending) ∧
        LowestFree (carrying text ending) 0 ∧ ∀ q ∈ spacesOf (copyOf text), q.kind ≠ .interword
    let filled (text : String) : Refill := refill 0 840 (copyOf text)
    Meets .endLine (item roomy [0x0D]) (fun u => u.composer.phase = .overflowed openLine0 ∧
        (u.store.slot 0).state = .filling ∧ LowestFree u 1) ∧
      Meets .endPara (item roomy [0x0A]) (fun u => LowestFree u 1) ∧
      Meets .cut (item roomy [0x1C, 0x13]) (fun u => LowestFree u 1) ∧
      Meets .interwordSpace (item roomy [0x20]) (fun u => LowestFree u 1 ∧ CanSet u) ∧
      (carried ≠ [] ∧ (refill 0 840 carried).overflowed = false ∧ (refill 0 840 carried).glyphs ≠ 0 ∧
        (spacesOf (refill 0 840 carried).items).length < 160) ∧
      (waits "shop" none ∧ (carrying "shop" none).composer.params.measure * 10 = 840 ∧
        (filled "shop").overflowed = false) ∧
      (waits "shop" (some .endPara) ∧ waits "shop" (some .cut)) ∧
      (waits "shop" (some .emSpace) ∧ CanSet (carrying "shop" (some .emSpace)) ∧ (filled "shop").glyphs ≠ 0) ∧
      (waits "typeshopsetting" (some .endLine) ∧ (filled "typeshopsetting").overflowed = true) := by
  simp only [Meets, takes_iff, canSet_iff, LowestFree]
  refine ⟨?_, ?_, ?_, ?_, ?_, ⟨⟨rfl, ?_⟩, ?_⟩, ⟨⟨rfl, ?_⟩, rfl, ?_⟩, ⟨⟨rfl, ?_⟩, ?_⟩, ⟨rfl, ?_⟩, ?_⟩ <;> decide +kernel

/-- A carry with a no-break space before its first glyph and one behind it. -/
theorem test_meets_BreakDecisionClosesTheOverflowedLine_refill :
    let carried : List LineItem :=
      [.space (spaceOf .noBreak), .glyph (glyphAt 5 0), .space (spaceOf .noBreak), .glyph (glyphAt 5 0)]
    (∀ q ∈ spacesOf carried, q.kind ≠ .interword) ∧ (spacesOf carried).length ≤ 160 ∧
      (refill 0 840 carried).items.length = 3 ∧ (refill 0 840 carried).overflowed = false ∧
      (refill 0 140 carried).overflowed = true := by decide +kernel

/-- An overflowed line whose word is empty and whose last item is an interword space: nothing is carried. -/
theorem test_meets_BreakDecisionClosesTheOverflowedLine_nothingCarried :
    let spaced (s : State) : State := { s with
      composer := { s.composer with phase := .overflowed openLine0, word := ⟨[], [], false⟩ }
      store := s.store.putSlot 0 ⟨.filling, { LineRecord.blank with
        mr := 840, items := [.glyph (glyphAt 5 0), .space (spaceOf .interword)] }⟩ }
    let nothing (u : State) : Prop := u.composer.phase = .overflowed openLine0 ∧ (u.store.slot 0).state = .filling ∧
      (decideBreak u.tables u.dict u.composer.params u.composer.ladder 840 (u.store.record 0).items ⟨[], [], false⟩
        0).carried = []
    Meets .interwordSpace (item (spaced calm) [0x20]) (fun u => nothing u ∧ CanSet u) ∧
      Meets .emSpace (item (spaced calm) [0x03]) (fun u => nothing u ∧ CanSet u ∧ LowestFree u 1) ∧
      Meets .endLine (item (spaced calm) [0x0D]) (fun u => nothing u ∧ LowestFree u 1) ∧
      Meets .cut (item (spaced calm) [0x1C, 0x13]) (fun u => nothing u ∧ LowestFree u 1) ∧
      Meets .endPara (item (spaced full) [0x0A]) (fun u => nothing u ∧ NoneFree u) := by
  simp only [Meets, takes_iff, canSet_iff, LowestFree, NoneFree]
  refine ⟨?_, ?_, ?_, ?_, ?_⟩ <;> decide +kernel

/-- R62, section 3.12: the lenses 14, 18, 20 and 24 at positions 0 to 3. -/
theorem test_resolve :
    let t : Tables := { tables3 with lenses := #v[14, 18, 20, 24, 0, 0, 0, 0, 0, 0, 0, 0] }
    t.resolve 20 = some (2, 20) ∧ t.resolve 22 = some (2, 20) ∧ t.resolve 8 = some (0, 14) ∧
      t.resolve 16 = some (0, 14) := by decide +kernel

/-! ### Witnesses: the break and the close -/

theorem test_meets_BreakDecisionKeepsEveryGlyphAndFits :
    let after0 (text : String) : Prop := ∀ g ∈ glyphsOf (refill 0 240 (copyOf text)).items, 0 ≤ g.after
    (breakOf .reset 1200 "type shop setting" (wordOf "setting" [])).hyphenEnded = true ∧
      after0 "type shop setting" ∧
      (breakOf .reset 240 "shop" (wordOf "shop" [])).forced = true ∧ after0 "shop" ∧
      (breakOf .reset 20 "shop" (wordOf "shop" [])).overset = true := by decide +kernel

/-- Each choice of a break decision: a candidate that fits, the last interword space, a forced break, the first glyph. -/
theorem test_meets_BreakDecisionKeepsEveryGlyphAndFits_choice :
    let items : List LineItem := (refill 0 1200 (copyOf "type shop setting")).items
    let short (mr : Nat) : List LineItem := (refill 0 mr (copyOf "shop")).items
    let fits (mr : Nat) (l : List LineItem) (n : Nat) : Prop :=
      ∃ g ∈ glyphsOf (l.drop n), (glyphsOf (l.take n)).length = n ∧ (g.after - g.shrinkAt + 24) / 48 ≤ (mr : Int)
    (candidates .reset 0 tablesHyphen [] (wordOf "setting" []) = [⟨3, .rule⟩] ∧
        (∃ g ∈ glyphsOf items, (items.take 13).getLast? = some (LineItem.glyph g) ∧
          tablesHyphen.entry g.font = some ⟨17, 1, 0⟩ ∧ (tablesHyphen.widthSlot 0).valid = true ∧
          (g.after + 28 * 20 * 5 - g.shrinkAt + 24) / 48 ≤ 1200) ∧
        items.length - (7 - 3) = 13) ∧
      (candidates { Params.reset with hyphenation := false } 0 tablesHyphen [] (wordOf "setting" []) = [] ∧
        (items[9]?).map LineItem.isInterword = some true ∧ ∀ i ∈ items.drop 10, i.isInterword = false) ∧
      (candidates .reset 0 tablesHyphen [] (wordOf "shop" []) = [] ∧ spacesOf (short 240) = [] ∧ fits 240 (short 240) 1) ∧
      (∀ g ∈ glyphsOf (short 20), ¬(g.after - g.shrinkAt + 24) / 48 ≤ (20 : Int)) := by decide +kernel

theorem test_meets_SharingAmongSpacesIsExact :
    let r (mr : Nat) : LineRecord := { LineRecord.blank with mr := mr, items := (refill 0 mr (copyOf "t y p e")).items }
    glyphsOf (closedItems (r 840).items) ≠ [] ∧
      ((spacesOf (closeRecord .reset .justify 24800 (r 840)).items).filter fun q =>
        decide (q.kind = .interword ∨ q.kind = .noBreak)).length = 3 := by decide +kernel

theorem test_meets_ClosedLineStandsWhereTheQuadPutsIt :
    let line := refill 0 840 (copyOf "type shop ")
    let r : LineRecord := { LineRecord.blank with mr := 840, items := line.items }
    glyphsOf (closedItems r.items) ≠ [] ∧ (∀ q ∈ spacesOf (closedItems r.items), q.extra = 0) ∧
      (closeRecord .reset .justify line.x r).spaces ≠ 0 ∧
      ((840 : Int) - (line.x - removedWidth r.items + 24) / 48 = 23) ∧
      (∃ g, (closedItems r.items)[7]? = some (LineItem.glyph g)) := by
  refine ⟨?_, ?_, ?_, ?_, ⟨_, rfl⟩⟩ <;> decide +kernel

/-- Section 4.13 with letterspace 3, and a line without spaces. -/
theorem test_meets_ClosedLineStandsWhereTheQuadPutsIt_gaps :
    let r (text : String) : LineRecord := { LineRecord.blank with mr := 900, items := (refill 0 900 (copyOf text)).items }
    let meets (text : String) : Prop := glyphsOf (closedItems (r text).items) ≠ [] ∧
      (∀ q ∈ spacesOf (closedItems (r text).items), q.extra = 0) ∧ glyphGaps (closedItems (r text).items) ≠ 0
    (meets "type shop" ∧ (closedCopy 900 3 "type shop").gap = 3 ∧ (closedCopy 900 3 "type shop").spaces = 1) ∧
      (meets "shop" ∧ (closedCopy 900 3 "shop").spaces = 0 ∧ (closedCopy 900 3 "shop").leftAtRight ≠ 0) := by decide +kernel

theorem test_meets_CandidatesFollowTheOrderOfEligibility :
    let p : Params := .reset
    (p.ladderLimit ≠ 0 ∧ p.ladderLimit ≤ 3) ∧
      (p.hyphenation = true ∧ 2 < p.ladderLimit ∧ (wordOf "setting" [0, 2, 7]).noHyphenate = false ∧
        ((wordOf "setting" [0, 2, 7]).marks.filter fun k => decide (1 ≤ k ∧ k < 7)) = [2]) ∧
      (candidates p 0 tablesHyphen [] (wordOf "on-set" [])) = [⟨3, .hyphenCharacter⟩] ∧
      (candidates p 0 tablesHyphen [⟨codesOf "setting", [3]⟩] (wordOf "setting" [])) = [⟨3, .dictionary⟩] ∧
      (candidates p 0 tablesHyphen [] (wordOf "setting" [])) = [⟨3, .rule⟩] ∧
      (wordOf "setting" [0, 2, 7]).marks.Pairwise (· < ·) ∧
      (∀ c ∈ codesOf "12", (tablesHyphen.classOf c).cls = 0) ∧
      ((hyphenWord tablesHyphen (wordOf "setting" []).codes).map fun h => (h.letters.length, h.gaps.length)) =
        some (7, 6) ∧
      ((hyphenWord tablesHyphen (wordOf "on" []).codes).map (·.letters.length)) = some 2 := by decide +kernel


/-! ### Witnesses: values, tables, the dictionary -/

theorem test_meets_CommandsThatSetAValue :
    Meets (.advance 1440) (item calm [0x1C, 0x10, 5, 160]) (fun _ => True) ∧
      Meets (.reverse 1441) (item calm [0x1C, 0x11, 5, 161]) (fun _ => True) ∧
      Meets .columnMark (item calm [0x1C, 0x12]) (fun _ => True) ∧
      Meets (.proof 3 1) (item calm [0x1C, 0x28, 3, 1]) (fun _ => True) ∧
      Meets (.lamp 3 9) (item calm [0x1C, 0x29, 3, 9]) (fun _ => True) ∧
      Meets (.mask 0x800001) (item calm [0x1C, 0x32, 0x80, 0, 1]) (fun _ => True) ∧ calm.pins.cts = true ∧
      (State.reset.pins.cts = false ∧ State.reset.reply.begun = 0) ∧
      (let down : State := { calm with
         pins := { pinsUp with cts := false }
         reply := { calm.reply with queue := [.sync 1 none], begun := 2 } }
       down.pins.cts = false ∧ down.reply.begun ≠ 0) := by
  simp only [Meets, takes_iff]
  decide +kernel

/-- The staging buffer's first bytes. -/
def staged (s : State) (bytes : List Byte) : State :=
  { s with tables := { s.tables with
    staging := (bytes.zipIdx).foldl (fun v (b, i) => v.setIfInBounds i b) s.tables.staging } }

/-- The last byte of a LOAD whose data stand in the staging buffer. -/
def loading (s : State) (ident start count dir sum : Byte) (data : List Byte) : State :=
  item (staged s data) [0x1C, 0x20, ident, 0, start, 0, count, dir, sum]

theorem test_meets_LoadIsRefusedByTheFirstFailingCheck :
    let blk (ident : Byte) (start count : Word16) (dir sum : Byte) : LoadBlock := ⟨ident, start, count, dir, sum⟩
    let lens : State := loading calm 0x61 3 4 1 0x4B [24, 20, 18, 14]
    let lockedLens : State :=
      { lens with tables := { lens.tables with locks := { Locks.reset with lenses := true } } }
    let onLine : State := { lens with store := opened.store }
    let behind : State := { lens with store := full.store }
    let fits (u : State) : Prop := (blk 0x61 3 4 1 0x4B).total u.tables = 0 ∧
      ∀ i, i < 4 → i ≤ 3 ∧ 3 - i < 12
    Meets (.load 0x70 0 0 0 0) (loading calm 0x70 0 0 0 0 []) (fun _ => (tableOf 0x70).bind Table.entries = none) ∧
      Meets (.load 0x61 10 4 0 0) (loading calm 0x61 10 4 0 0 []) (fun _ =>
        (tableOf 0x61).bind Table.entries = some 12 ∧ ¬∀ i, i < 4 → 10 + i < 12) ∧
      Meets (.load 0x61 3 4 1 0x4C) (loading calm 0x61 3 4 1 0x4C [24, 20, 18, 14]) (fun u =>
        (blk 0x61 3 4 1 0x4C).total u.tables ≠ 0) ∧
      Meets (.load 0x61 3 4 1 0x4B) lockedLens (fun u =>
        fits u ∧ u.pins.serviceSwitch = false ∧ u.tables.locks.get .lenses = true) ∧
      Meets (.load 0x61 3 4 1 0x4B) onLine (fun u =>
        fits u ∧ u.tables.locks.get .lenses = false ∧ ¬∀ j, j < 8 → (u.store.slot j).state ≠ .filling) ∧
      Meets (.load 0x61 3 4 1 0x4B) behind (fun u =>
        fits u ∧ (∀ j, j < 8 → (u.store.slot j).state ≠ .filling) ∧ u.store.busyCount ≠ 0) := by
  simp only [Meets, takes_iff]
  decide +kernel

/-- Section 3.12: the block is committed from position 3 down. -/
theorem test_load_descendingLenses :
    let u : State := staged calm [24, 20, 18, 14]
    ((u.takeLoad ⟨0x61, 3, 4, 1, 0x4B⟩).tables.lenses.toList.take 5) = [14, 18, 20, 24, 0] ∧
      (u.takeLoad ⟨0x61, 3, 4, 1, 0x4B⟩).tables.reason = .none ∧
      (u.takeLoad ⟨0x61, 10, 4, 0, 0⟩).tables.reason = .outOfRange := by decide +kernel

theorem test_meets_WidthsBlockWritesItsEntries :
    let meets (ident sum : Byte) (start count : Word16) (dir : Byte) (tab : Table) (entries : Nat) (u : State) : Prop :=
      tableOf ident = some tab ∧ tab.entries = some entries ∧
        (∀ i, i < count.toNat → (dir = 1 → i ≤ start.toNat) ∧
          (if dir = 1 then start.toNat - i else start.toNat + i) < entries) ∧
        (⟨ident, start, count, dir, sum⟩ : LoadBlock).total u.tables = 0 ∧ u.tables.locks.get tab = false ∧
        ∀ j, j < 8 → (u.store.slot j).state = .free
    Meets (.load 0x20 110 2 0 0x65) (loading calm 0x20 110 2 0 0x65 [5, 6]) (meets 0x20 0x65 110 2 0 (.widths 0) 112) ∧
      Meets (.load 0x2F 1 2 1 0xC2) (loading calm 0x2F 1 2 1 0xC2 [5, 6]) (meets 0x2F 0xC2 1 2 1 (.widths 15) 112) ∧
      Meets (.load 0x60 63 1 0 0x1D) (loading calm 0x60 63 1 0 0x1D [64, 2, 1]) (meets 0x60 0x1D 63 1 0 .directory 64) ∧
      Meets (.load 0x61 3 4 1 0x4B) (loading calm 0x61 3 4 1 0x4B [24, 20, 18, 14]) (meets 0x61 0x4B 3 4 1 .lenses 12) ∧
      Meets (.load 0x62 223 1 0 0x5B) (loading calm 0x62 223 1 0 0x5B [0x81, 0xE2]) (meets 0x62 0x5B 223 1 0 .classes 224) ∧
      Meets (.load 0x4F 255 1 2 0xD0) (loading calm 0x4F 255 1 2 0xD0 [0xDF]) (meets 0x4F 0xD0 255 1 2 (.kernPairs 15) 256) := by
  refine ⟨⟨takes_of_offers ?_, ?_⟩, ⟨takes_of_offers ?_, ?_⟩, ⟨takes_of_offers ?_, ?_⟩, ⟨takes_of_offers ?_, ?_⟩,
    ⟨takes_of_offers ?_, ?_⟩, ⟨takes_of_offers ?_, ?_⟩⟩ <;> decide +kernel

theorem test_meets_LensBlockIsCommittedAfterItsWait :
    let waiting (s : State) (b : LoadBlock) : State := { s with tables := { s.tables with waiting := some b } }
    let b : LoadBlock := ⟨0x61, 8, 4, 0, 0⟩
    ((waiting full b).tables.waiting = some b ∧ (waiting full b).store.busyCount ≠ 0) ∧
      calm.tables.waiting = none ∧
      ((waiting calm b).store.busyCount = 0 ∧ (waiting calm b).tables.locks.lenses = false ∧ b.ident = 0x61 ∧
        b.direction ≠ 1 ∧ b.start.toNat + b.count.toNat ≤ 12) ∧
      (let s := waiting { calm with tables := { tables3 with locks := { Locks.reset with lenses := true } } } b
       s.store.busyCount = 0 ∧ s.tables.locks.lenses = true ∧ s.pins.serviceSwitch = false) := by decide +kernel

theorem test_meets_LockedTablesKeepTheirContents :
    let every : State := { calm with tables := { tables3 with locks :=
      ⟨Vector.replicate 80 true, true, true, true, true, true, true⟩ } }
    Meets (.lock 0x71) (item calm [0x1C, 0x21, 0x71]) (fun _ => tableOf 0x71 = some .dictionary) ∧
      Meets (.lock 0x72) (item calm [0x1C, 0x21, 0x72]) (fun _ => tableOf 0x72 = none) ∧
      (every.pins.serviceSwitch = false ∧ every.tables.locks.lenses = true ∧
        every.tables.locks.get (.codeMap 15) = true ∧ every.tables.locks.get (.info 0) = true) ∧
      exec (.serviceSwitchChange false) every = .next every := by
  simp only [Meets, takes_iff]
  refine ⟨?_, ?_, ?_, rfl⟩ <;> decide +kernel

/-- The dictionary of section 5.9 at its fifth step. -/
def dictionary5 : List DictEntry := [⟨codesOf "london", [3]⟩, ⟨codesOf "pro", []⟩, ⟨codesOf "project", [4]⟩]

def withDict (s : State) (d : List DictEntry) : State := { s with dict := d, tables := tablesHyphen }

/-- The last byte of a DICT ADD (22h) or a DICT DELETE (23h). -/
def dictCommand (s : State) (num : Byte) (codes : List Byte) : State :=
  item s ([0x1C, num, BitVec.ofNat 8 codes.length] ++ codes)

/-- Section 5.9, steps 4 to 7. -/
theorem test_dictionary_edits :
    let start : State := withDict calm [⟨codesOf "london", [3]⟩, ⟨codesOf "project", [3]⟩]
    let four := start.takeDictAdd (codesOf "proj" ++ [0x04] ++ codesOf "ect")
    four.dict = [⟨codesOf "london", [3]⟩, ⟨codesOf "project", [4]⟩] ∧
      (four.takeDictAdd (codesOf "pro")).dict = dictionary5 ∧
      ((withDict calm dictionary5).takeDictAdd (0x04 :: codesOf "pro")).reply.pending = 0x10 ∧
      ((withDict calm dictionary5).takeDictAdd (0x04 :: codesOf "pro")).dict = dictionary5 ∧
      ((withDict calm dictionary5).takeDictDelete (codesOf "lon" ++ [0x04] ++ codesOf "don")).dict =
        dictionary5.tail := by decide +kernel

theorem test_meets_DictionaryEdits :
    let d : State := withDict calm dictionary5
    let locked : State := { d with tables := { tablesHyphen with locks := { Locks.reset with dictionary := true } } }
    let crowded : State := withDict calm (List.replicate 384 ⟨codesOf "aa", []⟩)
    Meets (.dictAdd (codesOf "pro")) (dictCommand d 0x22 (codesOf "pro")) (fun u =>
        u.tables.locks.dictionary = false ∧ (∃ e ∈ u.dict, e.word = codesOf "pro") ∧
        u.dict.Pairwise (fun a b => wordBefore a.word b.word = true)) ∧
      Meets (.dictAdd (codesOf "pr")) (dictCommand d 0x22 (codesOf "pr")) (fun u =>
        (¬∃ e ∈ u.dict, e.word = codesOf "pr") ∧ u.dict.length < 384) ∧
      Meets (.dictAdd (codesOf "p")) (dictCommand d 0x22 (codesOf "p")) (fun _ => True) ∧
      Meets (.dictAdd (codesOf "pr")) (dictCommand locked 0x22 (codesOf "pr")) (fun u =>
        u.tables.locks.dictionary = true ∧ u.pins.serviceSwitch = false) ∧
      Meets (.dictAdd (codesOf "pr")) (dictCommand crowded 0x22 (codesOf "pr")) (fun u =>
        u.dict.length = 384 ∧ ∀ e ∈ u.dict, e.word ≠ codesOf "pr") ∧
      Meets (.dictDelete (codesOf "pro")) (dictCommand d 0x23 (codesOf "pro")) (fun u =>
        u.tables.locks.dictionary = false) ∧
      Meets (.dictDelete [0x20, 0x61]) (dictCommand d 0x23 [0x20, 0x61]) (fun u =>
        u.tables.locks.dictionary = false) ∧
      Meets (.dictDelete [0x1F, 0x61]) (dictCommand d 0x23 [0x1F, 0x61]) (fun u =>
        u.tables.locks.dictionary = false) ∧
      Meets (.dictDelete (codesOf "pro")) (dictCommand locked 0x23 (codesOf "pro")) (fun u =>
        u.tables.locks.dictionary = true) ∧
      Meets .dictClear (item d [0x1C, 0x24]) (fun u => u.tables.locks.dictionary = false) ∧
      Meets .dictClear (item locked [0x1C, 0x24]) (fun u => u.tables.locks.dictionary = true) := by
  simp only [Meets, takes_iff]
  decide +kernel

/-! ### Witnesses: replies and the log -/

/-- `n` replies in the queue, the head begun. -/
def queued (n : Nat) (s : State) : State :=
  { s with reply := { s.reply with queue := List.replicate n (.sync 1 none), begun := 1 } }

theorem test_meets_EventsReportsAndRemovesThePendingSet :
    let held : State := { queued 8 calm with reply := { (queued 8 calm).reply with held := some .events } }
    Meets .events (item (queued 7 calm) [0x1C, 0x31]) (fun u => u.reply.queue.length < 8) ∧
      Meets .events (item (queued 8 calm) [0x1C, 0x31]) (fun u => 8 ≤ u.reply.queue.length) ∧
      (held.reply.held = some .events ∧ held.reply.begun ≠ 0 ∧ held.pins.cts = true ∧ held.reply.queue.length = 8 ∧
        held.reply.markers = []) := by
  simp only [Meets, takes_iff]
  decide +kernel

theorem test_meets_EventsStayPendingUntilReported :
    Meets .query (item (queued 7 calm) [0x1C, 0x30]) (fun u => u.reply.queue.length < 8) ∧
      ((posted .filmOut calm).reply.pending.getLsbD 15 = true ∧
        exec (.serviceSwitchChange false) (posted .filmOut calm) = .next (posted .filmOut calm)) := by
  simp only [Meets, takes_iff]
  refine ⟨?_, ?_, rfl⟩ <;> decide +kernel

theorem test_meets_EventsStayPendingUntilReported_attention :
    calm.pins.resetLine = false ∧ calm.reply.mask.getLsbD Event.filmOut.num = true ∧ calm.attention = false := by
  decide +kernel

/-- `n` unread records from read position `at'`, the ring full of records of line 7. -/
def logOf (at' n : Nat) : Log :=
  ⟨Vector.replicate 64 (some ⟨7, .text, .set, .none, 0, 0, 0, 0, 0⟩), (at' + n) % 64, at', n⟩

theorem test_meets_QueryAndReadLogReply :
    Meets .query (item (queued 7 calm) [0x1C, 0x30]) (fun u => u.reply.queue.length < 8) ∧
      Meets .query (item (queued 8 calm) [0x1C, 0x30]) (fun u => 8 ≤ u.reply.queue.length) ∧
      Meets (.readLog 17) (item { calm with log := logOf 60 5 } [0x1C, 0x33, 17]) (fun u =>
        u.reply.queue.length < 8) ∧
      Meets (.readLog 0) (item (queued 8 calm) [0x1C, 0x33, 0]) (fun u => 8 ≤ u.reply.queue.length) := by
  simp only [Meets, takes_iff]
  decide +kernel

/-- `n` markers, the head one counting `left`. -/
def marked (n left : Nat) (s : State) : State :=
  { s with reply := { s.reply with markers := List.replicate n ⟨1, none, left⟩ } }

theorem test_meets_SyncMarkersAndTheReturnLink :
    let sync (s : State) : State := item s [0x1C, 0x34, 0, 9]
    Meets (.sync 9) (sync (marked 4 1 calm)) (fun u => 4 ≤ u.reply.markers.length) ∧
      Meets (.sync 9) (sync calm) (fun u => u.reply.markers = [] ∧ u.reply.queue.length < 8 ∧
        u.store.slots.toList.countP (fun x => decide (x.state = .ready ∨ x.state = .imaging)) = 0) ∧
      Meets (.sync 9) (sync (marked 3 1 calm)) (fun u => u.reply.markers.length < 4 ∧
        ∀ x, u.reply.markers.head? = some x → x.remaining ≠ 0 ∨ 8 ≤ u.reply.queue.length) ∧
      Meets (.sync 9) (sync full) (fun u => u.reply.markers = [] ∧
        u.store.slots.toList.countP (fun x => decide (x.state = .ready ∨ x.state = .imaging)) ≠ 0) ∧
      ((marked 1 0 calm).reply.markers = [⟨1, none, 0⟩] ∧ (marked 1 0 calm).reply.queue.length < 8 ∧
        (marked 1 0 calm).reply.held = none) ∧
      (∀ m, calm.reply.markers.head? = some m → m.remaining ≠ 0) ∧
      ((queued 8 calm).reply.begun ≠ 0 ∧ (queued 8 calm).reply.queue ≠ [] ∧ (queued 8 calm).pins.cts = true ∧
        (queued 8 calm).reply.held = none) ∧
      calm.reply.queue = [] ∧
      (1 < ((queued 8 calm).reply.queue.head?.map Reply.bytes |>.getD []).length ∧
        (Reply.sync 1 none).bytes.length ≤ 7) := by
  simp only [Meets, takes_iff]
  refine ⟨?_, ?_, ⟨?_, ?_, ?_⟩, ?_, ?_, ?_, ?_, ?_, ?_⟩
  rotate_left 4
  · intro x hx
    cases hx
    exact .inl (by decide)
  rotate_left 2
  · intro m hm
    cases hm
  all_goals decide +kernel

theorem test_meets_LogKeepsTheNewestRecords :
    let meets (l : Log) : Bool :=
      decide (l.write < 64) && decide (l.read < 64) && decide (l.unread ≤ 64) && l.write == (l.read + l.unread) % 64
    (meets (logOf 60 63) = true ∧ (logOf 60 63).unread < 64) ∧
      (meets (logOf 60 64) = true ∧ (logOf 60 64).unread = 64) := by decide +kernel

theorem test_meets_ReplyRecordsHaveTheirLayouts :
    (65535 < 65536 ∧ 63 < 64) ∧ calm.snapshot.slots.length = 8 ∧
      (List.replicate 16 (⟨7, .text, .set, .none, 0, 0, 0, 0, 0⟩ : LogRecord)).length ≤ 16 := by decide +kernel

/-- R188: a MOUNT record of disc 17 for line 258. -/
theorem test_reply_mount : (Reply.mount 17 258).bytes = [0x05, 3, 17, 1, 2] := by decide

/-! ### Witnesses: the printer -/

/-- Section 9.7. -/
def record7 : ProofRecord :=
  { number := 7, kind := .text, tag := 1220, flags := { LineFlags.none with hyphenEnded := true }, outcome := .set
    gap := 2
    text := (codesOf "type shop set").map (fun b => if b = 0x20 then .space 3 else .code b 3) ++ [.addedHyphen 3] }

/-- Section 9.7: the gap line and the header with the text, byte 7Bh and 7Dh about the font number. -/
theorem test_printLines :
    record7.printLines =
      [codesOf "**** 2 LINES NOT PROOFED" ++ [0x0D, 0x0A],
        codesOf "    7      61 H..... " ++ [0x7B, 0x30, 0x33, 0x7D] ++ codesOf "type shop set-" ++
          [0x0D, 0x0A]] := by decide +kernel

theorem test_meets_PrintLinesKeepTheirColumns :
    record7.number < 65536 ∧ record7.tag / 20 < 10000000 ∧ record7.gap ≤ 65535 ∧ record7.gap ≠ 0 ∧
      ({ record7 with gap := 0 } : ProofRecord).gap = 0 ∧ record7.kind ≠ .cut ∧
      ({ record7 with text := [] } : ProofRecord).text = [] ∧ ({ record7 with kind := .cut } : ProofRecord).kind = .cut ∧
      (∀ i ∈ record7.text, (match i with
        | .code _ n => n
        | .damaged n => n
        | .addedHyphen n => n
        | .space n => n) ≤ 63) := by decide +kernel


/-- `HeldSyncLaw` as a check. -/
def heldB (s : State) : Bool :=
  match s.reply.held with
  | some (.sync _) => decide (4 ≤ s.reply.markers.length)
  | _ => true

theorem heldLaw_iff (s : State) : HeldSyncLaw s ↔ heldB s = true := by
  unfold HeldSyncLaw heldB
  rcases s.reply.held with _ | (_ | _ | _ | _) <;> simp

/-- The Proof Spooler, the Film Transport or the input levels changed. -/
def spooler (s : State) (f : Proof → Proof) : State := { s with proof := f s.proof }
def filmed (s : State) (f : Film → Film) : State := { s with film := f s.film }
def pinned (s : State) (f : Pins → Pins) : State := { s with pins := f s.pins }

theorem test_meets_ImagingEndDecidesTheProof :
    let chosen (s : State) : Bool :=
      decide (0 ∉ s.store.awaiting) && decide ((s.store.record 0).kind ≠ .stop) &&
        decide ((s.store.record 0).outcome ≠ some .discarded) && decide (s.proof.mode = .all)
    let all : State := spooler shot fun x => { x with mode := .all }
    let twelve (p : Policy) : State := spooler all fun x => { x with queue := List.replicate 12 record7, policy := p }
    let gone : State := spooler all fun x => { x with printer := .offline true }
    (0 ∉ shot.store.awaiting ∧ shot.proof.gap ≤ 65535 ∧ shot.proof.mode = .off) ∧
      (chosen all = true ∧ all.proof.printer = .online ∧ all.proof.queue.length < 12) ∧
      (chosen (twelve .hold) = true ∧ (twelve .hold).proof.printer = .online ∧ (twelve .hold).proof.policy = .hold ∧
        12 ≤ (twelve .hold).proof.queue.length) ∧
      (chosen (twelve .skip) = true ∧ (twelve .skip).proof.policy = .skip ∧
        12 ≤ (twelve .skip).proof.queue.length) ∧
      chosen gone = true ∧ gone.proof.printer ≠ .online := by decide +kernel

theorem test_meets_PrinterHandshake :
    let off : State := pinned (spooler calm fun x => { x with printer := .offline true }) fun x =>
      { x with select := false }
    let waits (p : Port) : State := spooler calm fun x => { x with queue := [record7], port := p }
    let last : State := spooler (waits .waitAck) fun x => { x with printLine := 1, printByte := 40 }
    let ended : State := spooler (waits .waitAck) fun x => { x with printLine := 0, printByte := 25 }
    let behind : State := { last with store := { last.store.putSlot 0 ⟨.setAwaiting, .blank⟩ with awaiting := [0] } }
    (HeldSyncLaw calm ∧ calm.pins.resetLine = false ∧ calm.pins.select = true ∧ calm.proof.printer = .online ∧
        calm.proof.gap ≤ 65535 ∧ calm.store.awaiting = [] ∧ calm.proof.port ≠ .waitBusy ∧ calm.proof.port = .idle) ∧
      (spooler calm fun x => { x with printer := .offline false }).proof.printer = .offline false ∧
      (off.pins.select = false ∧ off.proof.printer = .offline true ∧ off.proof.port = .idle ∧ off.proof.queue = []) ∧
      (spooler off fun x => { x with queue := [record7] }).proof.queue ≠ [] ∧
      ((waits .waitBusy).proof.printer = .online ∧ (waits .waitBusy).proof.port = .waitBusy) ∧
      ((waits .waitAck).proof.port = .waitAck ∧ (waits .waitAck).proof.queue = [record7] ∧
        (waits .waitAck).proof.printByte + 1 < ((record7.printLines[(waits .waitAck).proof.printLine]?).getD []).length) ∧
      (waits .waitAckRetry).proof.port = .waitAckRetry ∧
      (((record7.printLines[last.proof.printLine]?).getD []).length ≤ last.proof.printByte + 1 ∧
        record7.printLines.length ≤ last.proof.printLine + 1 ∧ last.store.awaiting = []) ∧
      (((record7.printLines[ended.proof.printLine]?).getD []).length ≤ ended.proof.printByte + 1 ∧
        ended.proof.printLine + 1 < record7.printLines.length) ∧
      (HeldSyncLaw behind ∧ behind.store.awaiting = [0] ∧ behind.proof.port = .waitAck) := by
  simp only [heldLaw_iff]
  decide +kernel

/-! ### Witnesses: the Imager -/

/-- A record READY in slot 0, with a film move of 240. -/
def readied (r : LineRecord) : State :=
  { calm with store :=
      { calm.store.putSlot 0 ⟨.ready, { r with filmMove := 240 }⟩ with ready := [0] } }

/-- `FilmLaw` as a check. -/
def filmB (s : State) : Bool :=
  decide (s.film.floor ≤ s.film.f ∧ s.film.f ≤ s.film.h ∧ s.film.h ≤ s.film.l) &&
    match s.film.transport with
    | .moving target _ => decide (s.film.floor ≤ target ∧ target ≤ s.film.l)
    | .cutAdvance target _ => decide (s.film.f ≤ target ∧ target ≤ s.film.l)
    | _ => true

theorem filmLaw_iff (s : State) : FilmLaw s ↔ filmB s = true := by
  unfold FilmLaw filmB
  cases s.film.transport <;> simp [and_assoc]

theorem test_meets_ImagerTakesTheHeadOfTheReadyList :
    let text : LineRecord := { LineRecord.blank with items := [.glyph (glyphAt 5 30)] }
    let head (s : State) : Prop := HeldSyncLaw s ∧ FilmLaw s ∧ s.store.ready = [0] ∧
      (s.imager.state = .standby ∨ s.imager.state = .idle) ∧ (∀ j, j < 8 → (s.store.slot j).state ≠ .imaging) ∧
      0 ∉ s.store.awaiting
    let off (t : Transport) : State := filmed (readied text) fun x => { x with transport := t }
    let turning (k : Nat) : State := imager (readied text) fun x => { x with state := .idle, disc := .running, mounted := k }
    (HeldSyncLaw calm ∧ calm.store.ready = []) ∧
      (head (readied { text with discard := true }) ∧ (readied { text with discard := true }).store.record 0 ≠ .blank) ∧
      head (readied { LineRecord.blank with kind := .stop }) ∧
      (head (readied text) ∧ (readied text).imager.disc = .stopped ∧ 240 ≤ (readied text).film.l ∧
        240 ≠ (readied text).film.f ∧ ((readied text).store.record 0).glyphs ≠ []) ∧
      (head (readied .blank) ∧ ((readied .blank).store.record 0).glyphs = []) ∧
      head (readied { LineRecord.blank with kind := .cut }) ∧
      (head (filmed (readied text) fun x => { x with l := 239 }) ∧ 239 < 240) ∧
      (let back := filmed (readied { text with columnMark := true }) fun x => { x with f := 600, h := 600 }
       let t : State := { back with store :=
         { back.store with slots := back.store.slots.map fun x => { x with record := { x.record with filmMove := -1 } } } }
       head t ∧ (t.film.f : Int) + (t.store.record 0).filmMove < t.film.f) ∧
      (head (off .filmOut) ∧ (off .filmOut).film.transport = .filmOut) ∧
      (head (off (.moving 100 false)) ∧ (off (.moving 100 false)).film.transport = .moving 100 false) ∧
      (head (turning 17) ∧ ((turning 17).store.record 0).glyphs[0]? = some (glyphAt 5 30) ∧
        (turning 17).imager.disc ≠ .stopped ∧ (glyphAt 5 30).disc = (turning 17).imager.mounted ∧
        (glyphAt 5 30).disc ≠ (turning 16).imager.mounted) ∧
      (head (off .fault) ∧ (off .fault).film.transport = .fault) := by
  simp only [heldLaw_iff, filmLaw_iff]
  refine ⟨?_, ⟨?_, ?_⟩, ?_, ⟨?_, ?_⟩, ⟨?_, ?_⟩, ?_, ⟨?_, ?_⟩, ⟨?_, ?_⟩, ⟨?_, ?_⟩, ⟨?_, ?_⟩, ⟨?_, ?_⟩, ⟨?_, ?_⟩⟩ <;>
    decide +kernel

/-- A CUT record whose film move is done at once. -/
theorem test_meets_ImagerTakesTheHeadOfTheReadyList_cut :
    let here : State := filmed (readied { LineRecord.blank with kind := .cut }) fun x => { x with f := 240, h := 240 }
    let s : State := { here with store :=
      { here.store.putSlot 0 ⟨.ready, { LineRecord.blank with kind := .cut }⟩ with ready := [0] } }
    HeldSyncLaw s ∧ FilmLaw s ∧ s.store.ready = [0] ∧ s.imager.state = .standby ∧
      (∀ j, j < 8 → (s.store.slot j).state ≠ .imaging) ∧ 0 ∉ s.store.awaiting ∧
      (s.store.record 0).discard = false ∧ (s.store.record 0).kind = .cut ∧ s.film.transport = .ready ∧ 0 < s.film.l ∧
      (s.film.f : Int) + (s.store.record 0).filmMove = s.film.f := by
  simp only [heldLaw_iff, filmLaw_iff]
  decide +kernel

/-- A discarded head with markers in wait, one SYNC held behind 4 of them, and with 64 unread log records. -/
theorem test_meets_SyncMarkersAndTheReturnLink_logWrite :
    let head : State := readied { LineRecord.blank with discard := true }
    let behind : State := { marked 4 1 head with reply := { (marked 4 1 head).reply with held := some (.sync 9) } }
    let takes (s : State) : Prop := s.store.ready = [0] ∧ s.imager.state = .standby ∧
      (∀ j, j < 8 → (s.store.slot j).state ≠ .imaging) ∧ (s.store.record 0).discard = true
    (takes (marked 3 1 head) ∧ (marked 3 1 head).reply.held = none) ∧
      (takes behind ∧ behind.reply.held = some (.sync 9) ∧ behind.reply.markers.length = 4 ∧
        behind.reply.markers.head?.map (·.remaining) = some 1 ∧ behind.reply.queue.length < 8) ∧
      (marked 4 1 (queued 7 shot)).imager.line.map (·.slot) = some 0 := by decide +kernel

theorem test_meets_LogKeepsTheNewestRecords_logWrite :
    let s : State := { readied { LineRecord.blank with discard := true } with log := logOf 60 64 }
    (HeldSyncLaw s ∧ s.store.ready = [0] ∧ s.imager.state = .standby ∧
        (∀ j, j < 8 → (s.store.slot j).state ≠ .imaging) ∧ (s.store.record 0).discard = true ∧ 64 ≤ s.log.unread) ∧
      shot.imager.line.map (·.slot) = some 0 := by
  simp only [heldLaw_iff]
  decide +kernel

theorem test_meets_TurretAndRingMotions :
    let homing (n : Nat) : State := imager calm fun x =>
      { x with state := .homing, turret := none, turretStep := some .ascending, homingSteps := n }
    let stepping : State := imager shot fun x => { x with turret := some 11, turretStep := some .ascending }
    (HeldSyncLaw calm ∧ calm.imager.turretStep = none) ∧
      ((homing 10).imager.state = .homing ∧ (homing 10).imager.homingSteps < 11) ∧
      11 ≤ (homing 11).imager.homingSteps ∧
      (HeldSyncLaw stepping ∧ stepping.imager.turret = some 11 ∧ stepping.imager.state = .setting ∧
        ∃ pr, CurrentGlyph stepping pr (glyphAt 5 30) ∧ pr.positioning = true ∧ pr.phase = .glyph ∧
          stepping.imager.mounted = 17 ∧ stepping.imager.ring = 1 ∧ stepping.imager.carriage = some 30) ∧
      (imager stepping fun x => { x with state := .idle, line := none }).imager.line = none := by
  simp only [heldLaw_iff, CurrentGlyph]
  refine ⟨?_, ?_, ?_, ⟨?_, ?_, ?_, ⟨_, ⟨rfl, ?_⟩, ?_⟩⟩, ?_⟩ <;> decide +kernel

theorem test_meets_CarriageArrives :
    let moving (target : Nat) : State := imager shot fun x => { x with carriageMove := some target, carriage := none }
    let home : State := progress (moving 0) fun pr => { pr with phase := .back, glyph := 2 }
    let homing : State := imager calm fun x => { x with state := .homing, carriageMove := some 0, carriage := none }
    let cutting : State := progress (moving 0) fun pr => { pr with phase := .cut }
    (HeldSyncLaw calm ∧ calm.imager.carriageMove = none) ∧
      (HeldSyncLaw cutting ∧ cutting.imager.carriageMove = some 0 ∧ cutting.imager.state = .setting ∧
        cutting.imager.line = some ⟨0, .cut, 0, true, 0, 0, 0, 0, 0, false, false⟩) ∧
      (homing.imager.carriageMove = some 0 ∧ homing.imager.state = .homing) ∧
      (imager (moving 60) fun x => { x with state := .suspended }).imager.state = .suspended ∧
      (HeldSyncLaw (moving 30) ∧ (moving 30).imager.carriageMove = some 30 ∧ (moving 30).imager.turret = some 0 ∧
        ∃ pr, CurrentGlyph (moving 30) pr (glyphAt 5 30) ∧ pr.positioning = true ∧ pr.phase = .glyph) ∧
      (home.imager.carriageMove = some 0 ∧ home.imager.state = .setting ∧
        home.imager.line.map (·.phase) = some .back) := by
  simp only [heldLaw_iff, CurrentGlyph]
  refine ⟨?_, ?_, ?_, ?_, ⟨?_, ?_, ?_, ⟨_, ⟨rfl, ?_⟩, ?_⟩⟩, ?_⟩ <;> decide +kernel

theorem test_meets_PhotoUnitTimersHaltTheImager :
    (HeldSyncLaw shot ∧ shot.imager.state ≠ .halted ∧ shot.imager.disc = .running ∧ shot.imager.turretStep = none ∧
        shot.imager.carriageMove = none ∧ shot.imager.recheck = false ∧ shot.imager.disc ≠ .starting) ∧
      (imager shot fun x => { x with turretStep := some .ascending }).imager.turretStep.isSome = true ∧
      (imager shot fun x => { x with carriageMove := some 60 }).imager.carriageMove.isSome = true ∧
      (imager shot fun x => { x with state := .spinUp, disc := .starting }).imager.disc = .starting ∧
      (imager shot fun x => { x with state := .suspended, disc := .unconfirmed, recheck := true }).imager.recheck =
        true ∧
      calm.imager.disc ≠ .running ∧
      (let s := imager calm fun x => { x with state := .halted, cancelled := [.turret, .recheck] }
       HeldSyncLaw s ∧ s.imager.state = .halted ∧ s.imager.turretStep = none ∧ .turret ∈ s.imager.cancelled ∧
         .spinUp ∉ s.imager.cancelled) := by
  simp only [heldLaw_iff]
  decide +kernel

/-- A confirm window open over the current glyph. -/
def windowed (misfires dropped : Nat) : State :=
  progress (imager shot fun x => { x with confirmWindow := true }) fun pr =>
    { pr with misfires := misfires, dropped := dropped }

/-- Three firings within the window. -/
def crowdedLamp : State :=
  progress (imager shot fun x => { x with stamp := 100, history := [98, 99, 100] }) fun pr => { pr with deferrals := 65535 }

theorem test_meets_SectorEventFiresDefersOrDrops :
    let due (s : State) (n : BitVec 7) (g : Glyph) : Prop := s.imager.state = .setting ∧ s.imager.disc = .running ∧
      (∃ pr, CurrentGlyph s pr g ∧ pr.phase = .glyph ∧ pr.positioning = true) ∧ InPlace s.imager g ∧
      n.toNat = g.position
    let recent (s : State) : Nat := (s.imager.history.filter fun h =>
      decide ((s.imager.stamp + 1 + 4294967296 - h) % 4294967296 < 32)).countP fun h =>
        decide ((s.imager.stamp + 1 + 4294967296 - h) % 4294967296 < s.imager.window)
    (HeldSyncLaw calm ∧ calm.imager.disc = .stopped) ∧
      (let s := imager shot fun x => { x with state := .idle, line := none }
       s.imager.disc ≠ .stopped ∧ s.imager.line = none ∧ s.imager.confirmWindow = false) ∧
      (HeldSyncLaw shot ∧ due shot 5 (glyphAt 5 30) ∧ shot.imager.confirmWindow = false ∧
        recent shot < shot.imager.most) ∧
      (6 : BitVec 7).toNat ≠ (glyphAt 5 30).position ∧
      (HeldSyncLaw crowdedLamp ∧ due crowdedLamp 5 (glyphAt 5 30) ∧ crowdedLamp.imager.most ≤ recent crowdedLamp ∧
        crowdedLamp.imager.line.map (·.deferrals) = some 65535) ∧
      (HeldSyncLaw (windowed 0 0) ∧ (windowed 0 0).imager.confirmWindow = true ∧
        ∃ pr, CurrentGlyph (windowed 0 0) pr (glyphAt 5 30) ∧ pr.misfires = 0) ∧
      (let s := imager (windowed 1 1) fun x => { x with state := .suspended }
       s.imager.state = .suspended ∧ ∃ pr, s.imager.line = some pr ∧ pr.misfires ≠ 0 ∧ pr.dropped < 2) ∧
      (windowed 1 2).imager.state ≠ .halted ∧
        ∃ pr, (windowed 1 2).imager.line = some pr ∧ pr.misfires ≠ 0 ∧ 2 ≤ pr.dropped := by
  simp only [heldLaw_iff, CurrentGlyph, InPlace]
  refine ⟨?_, ?_, ⟨?_, ⟨?_, ?_, ⟨_, ⟨rfl, ?_⟩, ?_⟩, ?_⟩, ?_⟩, ?_, ⟨?_, ⟨?_, ?_, ⟨_, ⟨rfl, ?_⟩, ?_⟩, ?_⟩, ?_⟩,
    ⟨?_, ?_, ⟨_, ⟨rfl, ?_⟩, ?_⟩⟩, ⟨?_, _, rfl, ?_⟩, ?_, _, rfl, ?_⟩ <;> decide +kernel

/-- The second misfire of a glyph in SETTING: the next glyph due at sector 6, in place or not, and no next glyph. -/
theorem test_meets_SectorEventFiresDefersOrDrops_next :
    let near (x : Nat) : State := { windowed 1 1 with
      store := shot.store.putSlot 0
        ⟨.imaging, { LineRecord.blank with items := [.glyph (glyphAt 5 30), .glyph (glyphAt 6 x)] }⟩ }
    let last : State := progress (near 30) fun pr => { pr with glyph := 1 }
    let dropping (s : State) (k : Nat) : Prop := HeldSyncLaw s ∧ s.imager.disc ≠ .stopped ∧
      s.imager.confirmWindow = true ∧ s.imager.state = .setting ∧
      s.imager.line = some ⟨0, .glyph, k, true, 1, 0, 1, 0, 0, false, false⟩
    (dropping (near 60) 0 ∧ (((near 60).store.record 0).glyphs[1]?) = some (glyphAt 6 60) ∧
        (5 : BitVec 7).toNat ≠ (glyphAt 6 60).position) ∧
      (dropping (near 30) 0 ∧ (((near 30).store.record 0).glyphs[1]?) = some (glyphAt 6 30) ∧
        (6 : BitVec 7).toNat = (glyphAt 6 30).position ∧ (glyphAt 6 30).disc = (near 30).imager.mounted ∧
        (near 30).imager.disc = .running ∧ InPlace (near 30).imager (glyphAt 6 30) ∧
        (near 30).imager.history = [] ∧ 0 < ((near 30).imager.pendingLamp.getD (8, (near 30).imager.most)).2) ∧
      (dropping last 1 ∧ (last.store.record 0).glyphs.length = 1 + 1) := by
  simp only [heldLaw_iff, InPlace]
  decide +kernel

theorem test_meets_IndexEventByDiscState :
    let at' (st : ImagerState) (d : DiscState) (n : Nat) : State := imager shot fun x =>
      { x with state := st, disc := d, sectors := some n }
    let here (s : State) : Prop := HeldSyncLaw s ∧
      ∃ pr, CurrentGlyph s pr (glyphAt 5 30) ∧ (pr.phase = .film ∨ pr.phase = .glyph)
    (HeldSyncLaw calm ∧ calm.imager.disc = .stopped) ∧
      ((at' .spinUp .starting 111).imager.sectors ≠ some 112 ∧ (at' .spinUp .starting 112).imager.sectors = some 112) ∧
      ((at' .setting .running 113).imager.sectors ≠ some 112 ∧ (at' .setting .running 113).imager.state ≠ .halted) ∧
      (pinned (at' .suspended .starting 112) fun x => { x with coverOpen := true }).pins.coverOpen = true ∧
      (let s := imager (at' .suspended .unconfirmed 3) fun x =>
          { x with recheck := true, returnState := some .idle, line := none }
       s.imager.disc = .unconfirmed ∧ s.imager.recheck = true ∧ s.imager.returnState = some .idle) ∧
      here (at' .spinUp .starting 112) ∧ here (at' .mountWait .running 112) ∧
      ((17 : BitVec 6).toNat = (glyphAt 5 30).disc ∧ (16 : BitVec 6).toNat ≠ (glyphAt 5 30).disc) := by
  simp only [heldLaw_iff, CurrentGlyph]
  refine ⟨?_, ?_, ?_, ?_, ?_, ⟨?_, _, ⟨rfl, ?_⟩, ?_⟩, ⟨?_, _, ⟨rfl, ?_⟩, ?_⟩, ?_⟩ <;> decide +kernel

/-- A recheck with a line in hand: each return state, and each phase of the line. -/
theorem test_meets_IndexEventByDiscState_lineInHand :
    let back (r : ImagerState) (ph : LinePhase) (asked done : Bool) (items : List LineItem) : State :=
      progress (imager { shot with store := shot.store.putSlot 0 ⟨.imaging, { LineRecord.blank with items := items }⟩ }
        fun x => { x with state := .suspended, returnState := some r, disc := .unconfirmed, recheck := true })
        fun pr => { pr with phase := ph, cutAsked := asked, cutDone := done }
    let meets (s : State) (ph : LinePhase) (asked done : Bool) : Prop := HeldSyncLaw s ∧ s.imager.disc = .unconfirmed ∧
      s.imager.recheck = true ∧ s.imager.line = some ⟨0, ph, 0, true, 0, 0, 0, 0, 0, asked, done⟩
    let glyphs : List LineItem := [.glyph (glyphAt 5 30)]
    (meets (back .spinUp .film false false glyphs) .film false false ∧
        (back .spinUp .film false false glyphs).imager.returnState = some .spinUp ∧
        ((back .spinUp .film false false glyphs).store.record 0).glyphs[0]? = some (glyphAt 5 30)) ∧
      (meets (back .mountWait .glyph false false glyphs) .glyph false false ∧
        (back .mountWait .glyph false false glyphs).imager.returnState = some .mountWait) ∧
      (meets (back .setting .film false false []) .film false false ∧
        ((back .setting .film false false []).store.record 0).glyphs[0]? = none) ∧
      (meets (back .setting .back false false glyphs) .back false false ∧
        ((back .setting .back false false glyphs).store.record 0).glyphs ≠ []) ∧
      meets (back .setting .back false false []) .back false false ∧
      meets (back .setting .cut false false []) .cut false false ∧
      meets (back .setting .cut true false []) .cut true false ∧
      meets (back .setting .cut true true []) .cut true true := by
  simp only [heldLaw_iff]
  refine ⟨?_, ?_, ?_, ?_, ?_, ?_, ?_, ?_⟩ <;> decide +kernel

theorem test_meets_FlashConfirmExposesTheGlyph :
    let last : State := progress (windowed 0 0) fun pr => { pr with glyph := 1 }
    (HeldSyncLaw shot ∧ shot.imager.confirmWindow = false) ∧
      (HeldSyncLaw (windowed 0 0) ∧ (windowed 0 0).imager.confirmWindow = true ∧
        (imager (windowed 0 0) fun x => { x with state := .suspended }).imager.state = .suspended) ∧
      (last.imager.state = .setting ∧ (last.store.record 0).glyphs.length = 2 ∧
        last.imager.line.map (·.glyph) = some 1 ∧ last.imager.carriageMove = none ∧
        last.imager.carriage ≠ some 0) ∧
      (∃ pr, (windowed 0 0).imager.line = some pr ∧ pr.phase = .glyph ∧
        ((windowed 0 0).store.record pr.slot).glyphs[pr.glyph + 1]? = some (glyphAt 6 60)) ∧
      (glyphAt 6 60).disc = (windowed 0 0).imager.mounted ∧
      (glyphAt 6 60).disc ≠ (imager (windowed 0 0) fun x => { x with mounted := 16 }).imager.mounted := by
  simp only [heldLaw_iff]
  refine ⟨?_, ?_, ?_, ⟨_, rfl, ?_⟩, ?_, ?_⟩ <;> decide +kernel

theorem test_meets_CoverSuspendsAndReturns :
    let down (s : State) : State := pinned s fun x => { x with coverOpen := true }
    let sus (r : ImagerState) (d : DiscState) : State := down (imager calm fun x =>
      { x with state := .suspended, returnState := some r, disc := d, carriage := some 30 })
    let dead (note : Bool) : State := down (imager calm fun x =>
      { x with state := .halted, coverNote := note, carriage := none })
    (HeldSyncLaw calm ∧ calm.pins.resetLine = false ∧ calm.pins.coverOpen = false) ∧
      (imager calm fun x => { x with state := .halted }).imager.state = .halted ∧
      (HeldSyncLaw shot ∧ shot.imager.state = .setting ∧ shot.imager.line.map (·.slot) = some 0) ∧
      ((sus .standby .stopped).pins.coverOpen = true ∧ (sus .standby .stopped).imager.returnState = some .standby) ∧
      ((sus .spinUp .starting).imager.disc ≠ .unconfirmed ∧
        (sus .spinUp .starting).imager.returnState = some .spinUp) ∧
      ((sus .idle .unconfirmed).imager.returnState = some .idle ∧
        (sus .setting .unconfirmed).imager.disc = .unconfirmed) ∧
      ((sus .homing .stopped).imager.returnState = some .homing ∧ (sus .homing .stopped).imager.turretStep = none ∧
        (sus .homing .stopped).imager.carriageMove = none ∧ (sus .homing .stopped).imager.carriage ≠ some 0 ∧
        (sus .homing .stopped).film.transport ≠ .fault) ∧
      ((dead true).imager.state = .halted ∧ (dead true).imager.coverNote = true ∧
        (dead true).imager.carriage ≠ some 0) ∧
      (dead false).imager.coverNote = false ∧
      (filmed (dead true) fun x => { x with transport := .fault, l := 0 }).film.transport = .fault ∧
      (let sets (ph : LinePhase) (r : LineRecord) (asked done : Bool) : State :=
          down (progress (imager { shot with store := shot.store.putSlot 0 ⟨.imaging, r⟩ } fun x =>
            { x with state := .suspended, returnState := some .setting, disc := .stopped }) fun pr =>
              { pr with phase := ph, cutAsked := asked, cutDone := done })
       let meets (s : State) : Bool := heldB s && s.pins.coverOpen && decide (s.imager.state = .suspended) &&
         decide (s.imager.returnState = some .setting) && s.imager.line.isSome
       let cut : LineRecord := { LineRecord.blank with kind := .cut }
       meets (sets .film .blank false false) && meets (sets .cut cut true false) && meets (sets .cut cut true true) &&
         meets (sets .cut cut false false) &&
         meets (sets .back .blank false false)) = true ∧
      (HeldSyncLaw (down calm) ∧ (down calm).imager.state = .standby) := by
  simp only [heldLaw_iff]
  decide +kernel

/-- HOMING begun again with both motions of the earlier one in flight, and with the carriage at 0 and none. -/
theorem test_meets_CoverSuspendsAndReturns_homingAgain :
    let again (step : Option Direction) (move at' : Option Nat) : State := pinned (imager calm fun x =>
      { x with state := .suspended, returnState := some .homing, turret := none, turretStep := step
               carriageMove := move, carriage := at' }) fun x => { x with coverOpen := true }
    let meets (s : State) : Prop := HeldSyncLaw s ∧ s.pins.resetLine = false ∧ s.pins.coverOpen = true ∧
      s.imager.state = .suspended ∧ s.imager.returnState = some .homing
    meets (again (some .ascending) (some 0) none) ∧ meets (again none none (some 0)) := by
  simp only [heldLaw_iff]
  decide +kernel

/-! ### Witnesses: the film -/

/-- The line in hand waiting for its film, the transport as given. -/
def awaitingFilm (t : Transport) (ph : LinePhase) : State :=
  progress (filmed shot fun x => { x with transport := t }) fun pr => { pr with phase := ph }

theorem test_meets_FilmMovesAndCutsEnd :
    let running (t : Transport) : State := filmed calm fun x => { x with transport := t }
    let cutting : State := { awaitingFilm (.cutStroke true) .cut with
      store := shot.store.putSlot 0 ⟨.imaging, { LineRecord.blank with kind := .cut }⟩ }
    (HeldSyncLaw (running (.moving 240 false)) ∧ (running (.moving 240 false)).film.held = none ∧
        (running (.moving 240 false)).film.deferred = false) ∧
      (let s := awaitingFilm (.moving 240 true) .film
       HeldSyncLaw s ∧ s.film.transport = .moving 240 true ∧ s.film.held = none ∧ s.film.deferred = false ∧
         (s.store.record 0).kind = .text ∧ (s.store.record 0).glyphs ≠ [] ∧ s.imager.state ≠ .halted) ∧
      (running (.cutAdvance 480 true)).film.transport = .cutAdvance 480 true ∧
      (running (.cutStroke false)).film.transport = .cutStroke false ∧
      (HeldSyncLaw cutting ∧ cutting.film.transport = .cutStroke true ∧ cutting.film.held = none ∧
        cutting.imager.line.map (·.phase) = some .cut ∧ cutting.imager.state = .setting) ∧
      calm.film.transport = .ready ∧
      (let late := filmed (running (.moving 240 false)) fun x => { x with deferred := true, a := 0 }
       late.film.deferred = true ∧ late.film.held = none ∧
         (filmed (running (.cutStroke false)) fun x => { x with deferred := true }).film.deferred = true) ∧
      (let behind := filmed (running (.moving 240 false)) fun x => { x with held := some (.move (-240) false) }
       HeldSyncLaw behind ∧ behind.film.held = some (.move (-240) false) ∧ behind.film.l ≠ 0 ∧
         ((max behind.film.floor (max behind.film.h 240 - 14400) : Nat) : Int) ≤ 240 + -240 ∧
         (240 : Int) + -240 ≤ behind.film.l ∧ behind.imager.state ≠ .halted) := by
  simp only [heldLaw_iff]
  decide +kernel

/-- The end of an awaited move for a CUT record and for a TEXT record without glyphs, in and out of SETTING, with and
without a CASSETTE deferred. -/
theorem test_meets_FilmMovesAndCutsEnd_awaited :
    let waits (kind : Kind) (st : ImagerState) (late : Bool) : State :=
      imager (filmed { awaitingFilm (.moving 240 true) .film with
          store := shot.store.putSlot 0 ⟨.imaging, { LineRecord.blank with kind := kind }⟩ }
        fun y => { y with deferred := late }) fun x => { x with state := st }
    let meets (kind : Kind) (st : ImagerState) (late : Bool) : Prop :=
      let s := waits kind st late
      HeldSyncLaw s ∧ s.film.transport = .moving 240 true ∧ s.film.held = none ∧
        s.imager.line = some ⟨0, .film, 0, true, 0, 0, 0, 0, 0, false, false⟩ ∧ (s.store.record 0).kind = kind ∧
        (s.store.record 0).glyphs = [] ∧ s.imager.state = st ∧ s.film.deferred = late
    meets .cut .setting false ∧ meets .cut .suspended false ∧ meets .cut .setting true ∧ meets .cut .suspended true ∧
      meets .text .setting false ∧ meets .text .suspended false ∧ meets .text .setting true ∧
      meets .text .suspended true := by
  simp only [heldLaw_iff]
  refine ⟨?_, ?_, ?_, ?_, ?_, ?_, ?_, ?_⟩ <;> decide +kernel

/-- Motions that end or expire with a CASSETTE deferred: nobody waits, a request is held, a CUT record waits. -/
theorem test_meets_FilmMovesAndCutsEnd_deferred :
    let late (t : Transport) (h : Option Request) : State := filmed calm fun y =>
      { y with transport := t, held := h, deferred := true }
    let meets (t : Transport) (h : Option Request) : Prop := HeldSyncLaw (late t h) ∧
      (late t h).film.transport = t ∧ (late t h).film.held = h ∧ (late t h).film.deferred = true ∧
      (late t h).imager.state ≠ .halted
    let cutting : State := filmed { awaitingFilm (.cutStroke true) .cut with
        store := shot.store.putSlot 0 ⟨.imaging, { LineRecord.blank with kind := .cut }⟩ }
      fun y => { y with deferred := true, a := 0 }
    meets (.moving 240 false) none ∧ meets (.cutAdvance 480 false) none ∧ meets (.cutStroke false) none ∧
      meets (.moving 240 false) (some .cut) ∧ meets (.cutStroke false) (some .cut) ∧ meets (.moving 240 true) none ∧
      (HeldSyncLaw cutting ∧ cutting.film.transport = .cutStroke true ∧ cutting.film.held = none ∧
        cutting.film.deferred = true ∧ cutting.film.a = 0 ∧ cutting.imager.line.map (·.phase) = some .cut ∧
        cutting.imager.state = .setting) := by
  simp only [heldLaw_iff]
  refine ⟨?_, ?_, ?_, ?_, ?_, ?_, ?_⟩ <;> decide +kernel

/-- Section 8.6: line 14 and line 18 of the two columns. -/
theorem test_film_reverse :
    let x : Film := { Film.reset pinsUp with l := 40000, f := 2760, h := 2760, floor := 1200, transport := .ready }
    ((x.serveMove (-720) false).film.transport = .moving 2040 true ∧ (x.serveMove (-720) false).clamped = false) ∧
      (x.serveMove (-1760) false).film.transport = .moving 1200 true ∧ (x.serveMove (-1760) false).clamped = true ∧
      x.serveCut.film.transport = .cutAdvance 3240 true := by decide

theorem test_meets_CassetteAndItsSwitch :
    let with' (t : Transport) : State := filmed calm fun x => { x with transport := t }
    let send (t : Transport) (b : Byte) : State := item (with' t) [0x1C, 0x14, b, 0, 130]
    let out (a : Nat) : State := pinned (filmed calm fun x => { x with a := a, l := 0, transport := .noCassette })
      fun x => { x with cassetteIn := false }
    Meets (.cassette 130 false) (send .noCassette 0) (fun u => u.film.transport = .noCassette) ∧
      Meets (.cassette 130 false) (send .fault 0) (fun u => u.film.transport = .fault) ∧
      Meets (.cassette 0x010082 false) (send .filmOut 1) (fun u => u.film.transport = .filmOut ∧ u.film.held = none) ∧
      Meets (.cassette 0x020082 false) (send .ready 2) (fun u => 100000 < (0x020082 : Word24).toNat ∧ u.film.held = none) ∧
      Meets (.cassette 0 false) (item calm [0x1C, 0x14, 0, 0, 0]) (fun u => u.film.transport = .ready) ∧
      Meets (.cassette 130 false) (send (.moving 240 true) 0) (fun u => u.film.transport = .moving 240 true) ∧
      (HeldSyncLaw calm ∧ calm.pins.resetLine = false ∧ calm.pins.cassetteIn = true ∧ calm.film.held = none) ∧
      ((with' (.cutAdvance 480 false)).film.transport = .cutAdvance 480 false ∧
        (awaitingFilm (.moving 240 true) .film).imager.state ≠ .halted) ∧
      (HeldSyncLaw (out 2600) ∧ (out 2600).pins.cassetteIn = false ∧ (out 2600).film.a ≠ 0) ∧
      (out 0).film.a = 0 ∧
      (let waits (h : Request) : State := filmed (out 240) fun x => { x with held := some h }
       (waits (.move 241 false)).film.held = some (.move 241 false) ∧ ((waits .cut).film.a : Int) < 241 ∧
         (waits .cut).film.a < 480 ∧ (filmed (waits .cut) fun x => { x with a := 480 }).film.a = 480) ∧
      (let back : State := { filmed shot fun x => { x with held := some (.move (-240) false), l := 0, transport := .filmOut }
          with pins := { pinsUp with cassetteIn := false } }
       HeldSyncLaw back ∧ back.pins.cassetteIn = false ∧ back.film.held = some (.move (-240) false) ∧ back.film.a ≠ 0 ∧
         back.imager.line.map (·.slot) = some 0 ∧ (back.store.record 0).kind = .text ∧
         (back.store.record 0).glyphs ≠ []) ∧
      ((with' (.cutStroke false)).film.transport = .cutStroke false ∧
        (imager (with' (.moving 9 false)) fun x => { x with state := .halted }).imager.state = .halted) := by
  simp only [Meets, takes_iff, heldLaw_iff]
  decide +kernel

/-- A move held for want of film that ends at position 0: v = 0 and v below 0, for every kind of line, in and out of
SETTING. -/
theorem test_meets_CassetteAndItsSwitch_atZero :
    let waits (v : Int) (r : LineRecord) (st : ImagerState) : State :=
      imager (filmed { shot with
          store := shot.store.putSlot 0 ⟨.imaging, r⟩, pins := { pinsUp with cassetteIn := false } }
        fun y => { y with held := some (.move v false), l := 0, transport := .noCassette }) fun x => { x with state := st }
    let meets (v : Int) (r : LineRecord) (st : ImagerState) : Prop :=
      let s := waits v r st
      HeldSyncLaw s ∧ s.pins.resetLine = false ∧ s.pins.cassetteIn = false ∧ s.film.held = some (.move v false) ∧
        s.film.a ≠ 0 ∧ s.imager.line = some ⟨0, .glyph, 0, true, 0, 0, 0, 0, 0, false, false⟩ ∧
        s.store.record 0 = r ∧ s.imager.state = st
    let text : LineRecord := { LineRecord.blank with items := [.glyph (glyphAt 5 30)] }
    let cut : LineRecord := { LineRecord.blank with kind := .cut }
    text.glyphs ≠ [] ∧ LineRecord.blank.glyphs = [] ∧
      meets 0 text .setting ∧ meets (-240) text .suspended ∧ meets 0 .blank .setting ∧ meets (-240) .blank .setting ∧
      meets 0 .blank .suspended ∧ meets 0 cut .setting ∧ meets (-240) cut .setting ∧ meets (-240) cut .suspended := by
  simp only [heldLaw_iff]
  refine ⟨?_, ?_, ?_, ?_, ?_, ?_, ?_, ?_, ?_, ?_⟩ <;> decide +kernel

/-! ### Witnesses: the laws -/

/-- A step that fires the lamp is the next one. -/
def firing : State := { shot with pending := [.sectorEvent 5 false] }

/-- What a step answers, as a state. -/
def after (r : StepResult) (s : State) : State :=
  match r with
  | .next t => t
  | _ => s

theorem slots_iff {l : List Nat} {p : Nat → Prop} (hl : ∀ i, i < 8 → (i ∈ l ↔ p i)) (hb : ∀ i ∈ l, i < 8) (i : Nat) :
    i ∈ l ↔ i < 8 ∧ p i :=
  ⟨fun h => ⟨hb i h, (hl i (hb i h)).1 h⟩, fun h => (hl i h.1).2 h.2⟩

theorem slot_iff {o : Option Nat} {p : Nat → Prop} (ho : ∀ i, i < 8 → (o = some i ↔ p i)) (hb : ∀ i, o = some i → i < 8)
    (i : Nat) : o = some i ↔ i < 8 ∧ p i :=
  ⟨fun h => ⟨hb i h, (ho i (hb i h)).1 h⟩, fun h => (ho i h.1).2 h.2⟩

/-- For EveryStepKeepsTheFilmLaw, …TheCapacities, …ParametersAndDictionary, …TheSlotLaw, …TheImagerLaws and …TheHolds: a
state with a line in hand meets every law, and its step, a firing, answers. -/
theorem test_meets_EveryStepKeepsTheLaws :
    step firing = .next (after (step firing) firing) ∧
      FilmLaw firing ∧ CapacityLaw firing ∧ ParameterLaw firing ∧ DictionaryLaw firing ∧ SlotLaw firing ∧
      ImagerLaw firing ∧ LampLaw firing ∧ AwaitingLaw firing ∧ HeldSyncLaw firing ∧ ResetLaw firing := by
  refine ⟨rfl, ⟨by decide, by decide, by decide, trivial⟩, capacity_of_check (by decide +kernel),
    ⟨⟨?_, by decide⟩, by decide, by decide, fun f hf => nomatch hf⟩, ⟨.nil, nofun, by decide, by decide⟩,
    ⟨.nil, .nil, slots_iff (by decide +kernel) nofun, slots_iff (by decide +kernel) nofun,
      slot_iff (by decide +kernel) nofun, slot_iff (by decide +kernel) ?_, by decide +kernel⟩,
    ⟨?_, ?_, ?_, ?_, ?_, ?_, ?_, ?_, ?_, ?_⟩, ⟨by decide, by decide, by decide, by decide, nofun, ?_, by decide⟩,
    fun h => (h rfl).elim, nofun, nofun⟩
  · intro n hn
    cases hn
    decide
  · intro i hi
    cases hi
    decide
  all_goals decide +kernel

theorem test_meets_FiringsKeepTheBudget :
    let again : State := { windowed 0 0 with pending := [.sectorEvent 5 false] }
    (LampLaw firing ∧ step firing = .next (after (step firing) firing) ∧ firing.imager.confirmWindow = false ∧
        (after (step firing) firing).imager.confirmWindow = true) ∧
      LampLaw again ∧ step again = .next (after (step again) again) ∧ again.imager.confirmWindow = true ∧
        again.imager.disc ≠ .stopped ∧ (after (step again) again).imager.confirmWindow = true :=
  ⟨⟨test_meets_EveryStepKeepsTheLaws.2.2.2.2.2.2.2.1, rfl, by decide, by decide +kernel⟩,
    test_meets_EveryStepKeepsTheLaws.2.2.2.2.2.2.2.1, rfl, by decide, by decide, by decide +kernel⟩

/-- Holds with something to hold: the proof queue full with a slot awaiting, a SYNC held behind 4 markers. -/
theorem test_meets_EveryStepKeepsTheHolds :
    let s : State := marked 4 1 (spooler calm fun x => { x with queue := List.replicate 12 record7 })
    let t : State := { s with
      store := { s.store.putSlot 0 ⟨.setAwaiting, .blank⟩ with awaiting := [0] }
      reply := { s.reply with held := some (.sync 9) }
      pending := [.clearToSend true 0] }
    AwaitingLaw t ∧ CapacityLaw t ∧ HeldSyncLaw t ∧ ResetLaw t ∧ t.store.awaiting ≠ [] ∧ step t = .next (after (step t) t) := by
  refine ⟨fun _ => ?_, capacity_of_check ?_, ?_, nofun, ?_, rfl⟩
  · decide +kernel
  · decide +kernel
  · rw [heldLaw_iff]
    decide +kernel
  · decide

theorem test_meets_ResetMeetsEveryLaw : Pins.powerOn.resetLine = true := rfl

/-! ### Single steps -/

/-- R1: 03h has an even number of ones, so its parity bit is 0. -/
theorem test_frame_parity :
    (after (exec (.frameReceived 0x03 false true) calm) calm).intake.fifo = [.plain 0x03] ∧
      (after (exec (.frameReceived 0x03 true true) calm) calm).intake.fifo = [.damaged] := by decide +kernel

/-- R77, R166, R172: a line of fixed spaces alone is an empty line, and prints its header. -/
theorem test_proof_spacesOnly :
    (LineRecord.proof { LineRecord.blank with items := [.space (spaceOf .em)] } 0).text = [] := by decide +kernel

/-- R148: the carriage and the turret fault together; the second posts its event. -/
theorem test_faults_together :
    let both : State := imager shot fun x => { x with carriageMove := some 60, turretStep := some .ascending }
    let one : State := after (exec (.carriageTimeout false) both) both
    let two : State := after (exec (.turretStepTimeout false) one) one
    one.imager.state = .halted ∧ one.reply.pending.getLsbD 14 = false ∧ two.reply.pending.getLsbD 14 = true := by
  decide +kernel

/-- R186: with two bytes of seven begun the record is held while CLEAR-TO-SEND is down, and goes on afterwards; a rise
and a fall within the second byte begin no third. -/
theorem test_reply_held :
    let down : State := after (exec (.clearToSend false 2) (queued 1 calm)) calm
    let up (n : Byte) : State := after (exec (.clearToSend true n) down) down
    let again : State := after (exec (.clearToSend false 2) (up 2)) (up 2)
    (after (exec (.replyRecordSent false) down) down).reply.queue.length = 1 ∧ down.reply.begun = 2 ∧
      (up 3).reply.begun = 3 ∧ (after (exec (.replyRecordSent false) (up 3)) (up 3)).reply.queue = [] ∧
      again.reply.begun = 2 ∧ (after (exec (.replyRecordSent false) again) again).reply.queue.length = 1 := by
  decide +kernel

/-- R24. -/
theorem test_spaceband_relations :
    let sent (a b c : Byte) : Params :=
      (after (exec (.spaceband a b c) (item calm [0x1C, 0x07, a, b, c])) calm).composer.params
    ((sent 40 20 30).spaceMin, (sent 40 20 30).spaceNormal, (sent 40 20 30).spaceMax) = (40, 40, 40) ∧
      ((sent 10 50 30).spaceMin, (sent 10 50 30).spaceNormal, (sent 10 50 30).spaceMax) = (10, 30, 30) := by
  decide +kernel

/-- R138, R139: the glyph in place at sector 5 fires, and the window opens. -/
theorem test_sector_fires :
    (after (step firing) firing).imager.history = [1] ∧ (after (step firing) firing).imager.confirmWindow = true := by
  decide +kernel

end Sys2Proof.Tests
end

section
/-! PROOFS. The Line Store, and the photo unit's side of the part, over a step: what every operation of the Imager, Film
Transport, the Proof Spooler, the Line Log and the return link keeps. `Photo.Keeps` says it once, it composes, and there
is one lemma for each operation of the model, in the model's order. -/

namespace Sys2Proof.Machine

open Sys2Proof Sys2Proof.Safety

/-! ### Line slots (chapter 6) -/

/-- What a slot holds after a write: an index past the eight slots writes nothing. -/
theorem slot_putSlot (st : Store) (i j : Nat) (x : LineSlot) :
    (st.putSlot i x).slot j = if i = j ∧ i < 8 then x else st.slot j := by
  by_cases hij : i = j
  · subst hij
    by_cases hi : i < 8
    · simp [slot_putSlot_same st x hi, hi]
    · simp [Store.slot, Store.putSlot, tabGet, tabPut, hi]
  · simp [slot_putSlot_ne st x hij, hij]

theorem record_putSlot (st : Store) (i j : Nat) (x : LineSlot) :
    (st.putSlot i x).record j = if i = j ∧ i < 8 then x.record else st.record j := by
  simp only [Store.record, slot_putSlot]
  split <;> rfl

/-- A store that has lost lines but gained nothing: each record keeps its number and its items, or lost them. -/
def Store.Trims (a b : Store) : Prop :=
  ∀ i, ((b.record i).number = (a.record i).number ∨ (b.record i).number = 0) ∧
    ((b.record i).items = (a.record i).items ∨ (b.record i).items = [])

theorem Store.Trims.refl (st : Store) : st.Trims st := fun _ => ⟨.inl rfl, .inl rfl⟩

theorem Store.Trims.trans {a b c : Store} (hab : a.Trims b) (hbc : b.Trims c) : a.Trims c := by
  intro i
  obtain ⟨nab, iab⟩ := hab i
  obtain ⟨nbc, ibc⟩ := hbc i
  constructor
  · rcases nbc with h | h
    · rcases nab with k | k
      · exact .inl (h.trans k)
      · exact .inr (h.trans k)
    · exact .inr h
  · rcases ibc with h | h
    · rcases iab with k | k
      · exact .inl (h.trans k)
      · exact .inr (h.trans k)
    · exact .inr h

/-- A slot written with a record of its own number and items trims the store; so does one written blank. -/
theorem trims_putSlot (st : Store) (i : Nat) (x : LineSlot)
    (number : x.record.number = (st.record i).number ∨ x.record.number = 0)
    (items : x.record.items = (st.record i).items ∨ x.record.items = []) : st.Trims (st.putSlot i x) := by
  intro j
  rw [record_putSlot]
  split
  · next h =>
    obtain ⟨rfl, -⟩ := h
    exact ⟨number, items⟩
  · exact ⟨.inl rfl, .inl rfl⟩

theorem trims_mark (st : Store) (i : Nat) (state : SlotState) : st.Trims (st.mark i state) :=
  trims_putSlot st i _ (.inl rfl) (.inl rfl)

theorem trims_release (st : Store) (i : Nat) : st.Trims (st.release i) :=
  trims_putSlot st i _ (.inr rfl) (.inr rfl)

theorem trims_await (st : Store) (i : Nat) : st.Trims (st.await i) :=
  trims_mark st i .setAwaiting

@[simp] theorem release_awaiting (st : Store) (i : Nat) :
    (st.release i).awaiting = st.awaiting.filter (· != i) := rfl

@[simp] theorem await_awaiting (st : Store) (i : Nat) : (st.await i).awaiting = st.awaiting ++ [i] := rfl

@[simp] theorem mark_awaiting (st : Store) (i : Nat) (state : SlotState) :
    (st.mark i state).awaiting = st.awaiting := rfl

theorem release_awaiting_ne_nil {st : Store} {i : Nat} (h : (st.release i).awaiting ≠ []) : st.awaiting ≠ [] := by
  intro nil
  simp [nil] at h

/-! ### Capacities of the blocks -/

/-- The Imager's share of `CapacityLaw`. -/
structure Imager.Bounded (x : Imager) : Prop where
  history : x.history.length ≤ 8
  stamp : x.stamp < 4294967296
  deferrals : ∀ pr, x.line = some pr → pr.deferrals ≤ 65535

/-- The Proof Spooler's share of `CapacityLaw`. -/
structure Proof.Bounded (x : Proof) : Prop where
  queue : x.queue.length ≤ 12
  gap : x.gap ≤ 65535

/-- The Line Log's share of `CapacityLaw`. -/
structure Log.Bounded (l : Log) : Prop where
  unread : l.unread ≤ 64
  write : l.write < 64
  read : l.read < 64

/-- The Reply Unit's share of `CapacityLaw`. -/
structure ReplyUnit.Bounded (r : ReplyUnit) : Prop where
  queue : r.queue.length ≤ 8
  markers : r.markers.length ≤ 4

/-- The capacities of all blocks on the photo unit's side. -/
structure Photo.Bounded (p : Photo) : Prop where
  imager : p.imager.Bounded
  proof : p.proof.Bounded
  log : p.log.Bounded
  reply : p.reply.Bounded

/-- Slots await proof only behind a full queue and an ONLINE printer; `AwaitingLaw` on its two blocks. -/
def Awaits (st : Store) (x : Proof) : Prop := st.awaiting ≠ [] → x.queue.length = 12 ∧ x.printer = .online

theorem saturate_le {limit v : Nat} (h : v ≤ limit) : saturate limit v ≤ limit := by
  unfold saturate
  split <;> omega

/-- Only the history, the stamp and the line in hand are bounded. -/
theorem Imager.Bounded.congr {x y : Imager} (h : x.Bounded) (history : y.history = x.history)
    (stamp : y.stamp = x.stamp) (line : y.line = x.line) : y.Bounded :=
  ⟨history ▸ h.history, stamp ▸ h.stamp, line ▸ h.deferrals⟩

theorem Imager.Bounded.withLine {x : Imager} (h : x.Bounded) {pr : Progress} (hpr : pr.deferrals ≤ 65535) :
    Imager.Bounded { x with line := some pr } :=
  ⟨h.history, h.stamp, by rintro _ ⟨⟩; exact hpr⟩

theorem Imager.Bounded.noLine {x : Imager} (h : x.Bounded) : Imager.Bounded { x with line := none } :=
  ⟨h.history, h.stamp, nofun⟩

/-- The Reply Unit is bounded by its queue and its markers alone. -/
theorem ReplyUnit.Bounded.congr {r q : ReplyUnit} (h : r.Bounded) (queue : q.queue = r.queue)
    (markers : q.markers = r.markers) : q.Bounded :=
  ⟨queue ▸ h.queue, markers ▸ h.markers⟩

/-! ### The log, the markers and the reply queue -/

theorem Log.Bounded.append {l : Log} (h : l.Bounded) (x : LogRecord) : (l.append x).1.Bounded := by
  obtain ⟨unread, write, read⟩ := h
  unfold Log.append
  split
  · next room => exact ⟨Nat.succ_le_of_lt room, Nat.mod_lt _ (by decide), read⟩
  · exact ⟨unread, Nat.mod_lt _ (by decide), Nat.mod_lt _ (by decide)⟩

theorem Log.Bounded.advance {l : Log} (h : l.Bounded) (k : Nat) : (l.advance k).Bounded :=
  ⟨(Nat.sub_le _ _).trans h.unread, h.write, Nat.mod_lt _ (by decide)⟩

@[simp] theorem ReplyUnit.append_queue (r : ReplyUnit) (cts : Bool) (x : Reply) :
    (r.append cts x).queue = r.queue ++ [x] := by
  obtain ⟨n, hn⟩ := ReplyUnit.append_frame r cts x
  rw [hn]

@[simp] theorem ReplyUnit.append_markers (r : ReplyUnit) (cts : Bool) (x : Reply) :
    (r.append cts x).markers = r.markers := by
  obtain ⟨n, hn⟩ := ReplyUnit.append_frame r cts x
  rw [hn]

@[simp] theorem ReplyUnit.append_held (r : ReplyUnit) (cts : Bool) (x : Reply) :
    (r.append cts x).held = r.held := by
  obtain ⟨n, hn⟩ := ReplyUnit.append_frame r cts x
  rw [hn]

theorem ReplyUnit.Bounded.append {r : ReplyUnit} (h : r.Bounded) (room : r.queue.length < 8) (cts : Bool)
    (x : Reply) : (r.append cts x).Bounded :=
  ⟨by simpa using room, by simpa using h.markers⟩

/-- A MOUNT reply joins the queue where it has room, and touches nothing else (R133, R185). -/
theorem ReplyUnit.Bounded.mount {r : ReplyUnit} (h : r.Bounded) (cts : Bool) (disc line : Nat) :
    (r.mount cts disc line).Bounded := by
  unfold ReplyUnit.mount
  split
  · next room => exact h.append (of_decide_eq_true room) cts _
  · exact h

@[simp] theorem ReplyUnit.mount_held (r : ReplyUnit) (cts : Bool) (disc line : Nat) :
    (r.mount cts disc line).held = r.held := by
  unfold ReplyUnit.mount
  split <;> simp

/-- Markers answered leave their list, and join the queue only where it has room. -/
theorem ReplyUnit.answer_length {r : ReplyUnit} (cts : Bool) (n : Nat) (queue : r.queue.length ≤ 8) :
    (r.answer cts n).queue.length ≤ 8 ∧ (r.answer cts n).markers.length ≤ r.markers.length := by
  have spec := ReplyUnit.answer_spec cts n r
  dsimp only at spec
  rw [spec]
  simp only [List.length_append, List.length_map, List.length_take, List.length_drop]
  omega

theorem ReplyUnit.Bounded.answerAll {r : ReplyUnit} (h : r.Bounded) (cts : Bool) : (r.answerAll cts).Bounded := by
  obtain ⟨queue, markers⟩ := ReplyUnit.answer_length cts r.markers.length h.queue
  exact ⟨queue, markers.trans h.markers⟩

theorem ReplyUnit.Bounded.countDown {r : ReplyUnit} (h : r.Bounded) : r.countDown.Bounded :=
  ⟨h.queue, by simpa [ReplyUnit.countDown] using h.markers⟩

@[simp] theorem ReplyUnit.answerAll_held (r : ReplyUnit) (cts : Bool) : (r.answerAll cts).held = r.held :=
  (ReplyUnit.answer_frame cts _ r).2.2

/-! ### What every operation keeps -/

/-- `q` comes of `p` by operations of the photo unit's side: the capacities hold in it as in `p`, no record has gained
an item, the held item of the Reply Unit is left alone, and slots await proof as they may. -/
structure Photo.Keeps (p q : Photo) : Prop where
  bounded : p.Bounded → q.Bounded
  trims : p.store.Trims q.store
  held : q.reply.held = p.reply.held
  awaits : p.Bounded → Awaits p.store p.proof → Awaits q.store q.proof

theorem Photo.Keeps.refl {p : Photo} : p.Keeps p := ⟨id, .refl _, rfl, fun _ => id⟩

theorem Photo.Keeps.trans {p q r : Photo} (hpq : p.Keeps q) (hqr : q.Keeps r) : p.Keeps r :=
  ⟨hqr.bounded ∘ hpq.bounded, hpq.trims.trans hqr.trims, hqr.held.trans hpq.held,
    fun h ha => hqr.awaits (hpq.bounded h) (hpq.awaits h ha)⟩

theorem Photo.Keeps.after {p q r : Photo} (hqr : q.Keeps r) (hpq : p.Keeps q) : p.Keeps r := hpq.trans hqr

variable {p : Photo}

/-! ### Small writers -/

theorem Photo.withImager_keeps {x : Imager} (hx : p.imager.Bounded → x.Bounded) : p.Keeps (p.withImager x) :=
  ⟨fun h => ⟨hx h.imager, h.proof, h.log, h.reply⟩, .refl _, rfl, fun _ => id⟩

/-- Any change of the Imager that leaves its history, its stamp and its line alone. -/
theorem Photo.setImager_keeps {x : Imager} (history : x.history = p.imager.history)
    (stamp : x.stamp = p.imager.stamp) (line : x.line = p.imager.line) : p.Keeps (p.withImager x) :=
  Photo.withImager_keeps fun h => h.congr history stamp line

theorem Photo.enter_keeps (st : ImagerState) : p.Keeps (p.enter st) := Photo.setImager_keeps rfl rfl rfl

theorem Photo.withLine_keeps {pr : Progress} (hpr : p.imager.Bounded → pr.deferrals ≤ 65535) :
    p.Keeps (p.withLine pr) :=
  Photo.withImager_keeps fun h => h.withLine (hpr h)

theorem Photo.post_keeps (e : Event) : p.Keeps (p.post e) :=
  ⟨fun h => ⟨h.imager, h.proof, h.log, h.reply.congr rfl rfl⟩, .refl _, rfl, fun _ => id⟩

theorem Photo.withFilm_keeps (y : Film) : p.Keeps { p with film := y } :=
  ⟨fun h => ⟨h.imager, h.proof, h.log, h.reply⟩, .refl _, rfl, fun _ => id⟩

/-- A change of the Proof Spooler's mode, port or print position. -/
theorem Photo.setProof_keeps {x : Proof} (queue : x.queue = p.proof.queue) (gap : x.gap = p.proof.gap)
    (printer : x.printer = p.proof.printer) : p.Keeps (p.withProof x) := by
  refine ⟨fun h => ⟨h.imager, ⟨queue ▸ h.proof.queue, gap ▸ h.proof.gap⟩, h.log, h.reply⟩, .refl _, rfl,
    fun _ ha hne => ?_⟩
  simpa [queue, printer] using ha hne

/-- A change of the Line Store that gains nothing and lets no further slot await proof. -/
theorem Photo.withStore_keeps {st : Store} (trims : p.store.Trims st)
    (awaiting : st.awaiting ≠ [] → p.store.awaiting ≠ []) : p.Keeps (p.withStore st) :=
  ⟨fun h => ⟨h.imager, h.proof, h.log, h.reply⟩, trims, rfl, fun _ ha hne => ha (awaiting hne)⟩

theorem Photo.release_keeps (i : Nat) : p.Keeps (p.withStore (p.store.release i)) :=
  Photo.withStore_keeps (trims_release _ i) release_awaiting_ne_nil

theorem Photo.flagLine_keeps (f : LineFlags → LineFlags) : p.Keeps (p.flagLine f) := by
  unfold Photo.flagLine
  cases p.imager.line with
  | none => exact .refl
  | some pr => exact Photo.withStore_keeps (trims_putSlot _ _ _ (.inl rfl) (.inl rfl)) id

@[simp] theorem Photo.flagLine_imager (f : LineFlags → LineFlags) : (p.flagLine f).imager = p.imager := by
  obtain ⟨st, hst⟩ := p.flagLine_frame f
  rw [hst]

/-! ### The Proof Spooler (chapter 9) -/

theorem Photo.skipLine_keeps (i : Nat) : p.Keeps (p.skipLine i) :=
  ⟨fun h => ⟨h.imager, ⟨h.proof.queue, saturate_le h.proof.gap⟩, h.log, h.reply.congr rfl rfl⟩, trims_release _ i, rfl,
    fun _ ha hne => ha (release_awaiting_ne_nil hne)⟩

theorem Photo.look_keeps (busy : Bool) : p.Keeps (p.withProof (p.proof.look busy)) := by
  unfold Proof.look
  split
  · split
    · exact Photo.setProof_keeps rfl rfl rfl
    · exact Photo.setProof_keeps rfl rfl rfl
  · exact Photo.setProof_keeps rfl rfl rfl

/-- A line copied into a queue with room: where the queue was not full no slot awaited proof. -/
theorem Photo.copyLine_keeps (i : Nat) (room : p.proof.queue.length < 12) : p.Keeps (p.copyLine i) := by
  refine ⟨fun h => ⟨h.imager, ⟨by simpa [Proof.enqueue] using room, Nat.zero_le _⟩, h.log, h.reply⟩,
    trims_release _ i, rfl, fun _ ha hne => ?_⟩
  have full := (ha (release_awaiting_ne_nil hne)).1
  omega

/-- The decision on an undecided slot: it awaits proof only where the queue is full and the printer ONLINE (R167). -/
theorem Photo.decideProof_keeps (i : Nat) : p.Keeps (p.decideProof i) := by
  unfold Photo.decideProof
  split
  · split
    · exact Photo.skipLine_keeps i
    · next online =>
      split
      · next room => exact (Photo.copyLine_keeps i room).trans (Photo.look_keeps _)
      · next full =>
        split
        · exact Photo.skipLine_keeps i
        · refine ⟨fun h => ⟨h.imager, h.proof, h.log, h.reply⟩, trims_await _ i, rfl,
            fun h _ _ => ⟨?_, not_not.mp online⟩⟩
          exact Nat.le_antisymm h.proof.queue (Nat.not_lt.mp full)
  · exact Photo.release_keeps i

/-- A record printed leaves the queue, and the head awaiting slot takes its place (R169). -/
theorem Photo.finishRecord_keeps : p.Keeps p.finishRecord := by
  have tail (h : p.Bounded) : p.proof.queue.tail.length ≤ 12 - 1 := by
    rw [List.length_tail]; exact Nat.sub_le_sub_right h.proof.queue 1
  unfold Photo.finishRecord
  dsimp only
  split
  · next none =>
    refine ⟨fun h => ⟨h.imager, ⟨(tail h).trans (by decide), h.proof.gap⟩, h.log, h.reply⟩, .refl _, rfl,
      fun _ _ hne => ?_⟩
    exact absurd none hne
  · next i rest some =>
    refine ⟨fun h => ⟨h.imager, ⟨?_, Nat.zero_le _⟩, h.log, h.reply⟩, trims_release _ i, rfl, fun _ ha _ => ?_⟩
    · have := tail h
      simp only [Photo.copyLine_proof, Photo.withProof_proof, Proof.enqueue, List.length_append, List.length_singleton]
      omega
    · have waiting : p.store.awaiting ≠ [] := by
        rw [show p.store.awaiting = i :: rest from some]
        exact List.cons_ne_nil _ _
      obtain ⟨full, online⟩ := ha waiting
      refine ⟨?_, online⟩
      simp [Proof.enqueue, full]

theorem Photo.accept_keeps : p.Keeps p.accept := by
  unfold Photo.accept
  split
  · extract_lets _ q _ r
    have accepted : Photo.Keeps p q := Photo.setProof_keeps rfl rfl rfl
    have moved : Photo.Keeps q r := by
      unfold r
      split
      · exact Photo.setProof_keeps rfl rfl rfl
      · exact Photo.finishRecord_keeps
    exact (accepted.trans moved).trans (Photo.look_keeps _)
  · exact .refl

/-- Every awaiting slot skipped: what stays awaiting was not in the list. -/
theorem Photo.skipAll_keeps (slots : List Nat) (p : Photo) :
    p.Keeps (slots.foldl Photo.skipLine p) ∧
      ∀ i ∈ (slots.foldl Photo.skipLine p).store.awaiting, i ∈ p.store.awaiting ∧ i ∉ slots := by
  induction slots generalizing p with
  | nil => exact ⟨.refl, fun i hi => ⟨hi, List.not_mem_nil⟩⟩
  | cons j rest ih =>
    obtain ⟨keeps, left⟩ := ih (p.skipLine j)
    refine ⟨(Photo.skipLine_keeps j).trans keeps, fun i hi => ?_⟩
    obtain ⟨hmem, hrest⟩ := left i hi
    simp only [Photo.skipLine_store, release_awaiting, List.mem_filter, bne_iff_ne] at hmem
    exact ⟨hmem.1, by simp [hmem.2, hrest]⟩

/-- An entry to OFFLINE leaves no slot awaiting proof (R170). -/
theorem Photo.goOffline_keeps (note : Bool) : p.Keeps (p.goOffline note) := by
  unfold Photo.goOffline
  extract_lets _ q
  obtain ⟨keeps, left⟩ := Photo.skipAll_keeps q.store.awaiting q
  refine ⟨fun h => keeps.bounded ⟨h.imager, ⟨h.proof.queue, h.proof.gap⟩, h.log, h.reply.congr rfl rfl⟩, keeps.trims,
    keeps.held, fun _ _ hne => ?_⟩
  obtain ⟨i, hi⟩ := List.exists_mem_of_ne_nil _ hne
  obtain ⟨mem, notMem⟩ := left i hi
  exact absurd mem notMem

theorem Photo.deselect_keeps : p.Keeps p.deselect := by
  unfold Photo.deselect
  split
  · exact Photo.goOffline_keeps true
  · next note offline =>
    refine ⟨fun h => ⟨h.imager, ⟨h.proof.queue, h.proof.gap⟩, h.log, h.reply⟩, .refl _, rfl, fun _ ha hne => ?_⟩
    have online := (ha hne).2
    simp [offline] at online

theorem Photo.reselect_keeps : p.Keeps p.reselect := by
  unfold Photo.reselect
  split
  · have online : p.Keeps (p.withProof { p.proof with printer := .online }) :=
      ⟨fun h => ⟨h.imager, ⟨h.proof.queue, h.proof.gap⟩, h.log, h.reply⟩, .refl _, rfl,
        fun _ ha hne => ⟨(ha hne).1, rfl⟩⟩
    exact online.trans (Photo.look_keeps p.busy)
  · exact .refl

theorem Photo.notBusy_keeps : p.Keeps p.notBusy := by
  unfold Photo.notBusy
  split
  · exact Photo.setProof_keeps rfl rfl rfl
  · exact .refl

theorem Photo.busyExpires_keeps : p.Keeps p.busyExpires := by
  unfold Photo.busyExpires
  split
  · exact Photo.goOffline_keeps false
  · exact .refl

theorem Photo.ackExpires_keeps : p.Keeps p.ackExpires := by
  unfold Photo.ackExpires
  split
  · exact Photo.setProof_keeps rfl rfl rfl
  · exact Photo.goOffline_keeps false
  · exact .refl

/-! ### The imaging end (R117, R178, R184, R120) -/

theorem Photo.writeLog_keeps (x : LogRecord) : p.Keeps (p.writeLog x) := by
  unfold Photo.writeLog
  extract_lets written q r
  have logged : Photo.Keeps p q :=
    ⟨fun h => ⟨h.imager, h.proof, h.log.append x, h.reply⟩, .refl _, rfl, fun _ => id⟩
  have noted : Photo.Keeps q r := by
    unfold r
    split
    · exact Photo.post_keeps .logOverrun
    · exact .refl
  have answered : Photo.Keeps r (r.withReply (r.reply.countDown.answerAll r.pins.cts)) :=
    ⟨fun h => ⟨h.imager, h.proof, h.log, h.reply.countDown.answerAll _⟩, .refl _, by simp [ReplyUnit.countDown],
      fun _ => id⟩
  exact (logged.trans noted).trans answered

theorem Photo.imagingEnd_keeps (o : LineOutcome) (tag : Nat) : p.Keeps (p.imagingEnd o tag) := by
  unfold Photo.imagingEnd
  split
  · exact .refl
  · next pr line =>
    extract_lets _ r q _ u
    have set : Photo.Keeps p q := Photo.withStore_keeps (trims_putSlot _ _ _ (.inl rfl) (.inl rfl)) id
    have given : Photo.Keeps q u := Photo.withImager_keeps fun h => h.noLine
    exact ((set.trans given).trans (Photo.writeLog_keeps _)).trans (Photo.decideProof_keeps _)

/-! ### Stopping (R129, R148) -/

theorem Imager.Bounded.stopDisc {x : Imager} (h : x.Bounded) : x.stopDisc.Bounded :=
  ⟨Nat.zero_le _, Nat.zero_lt_succ _, h.deferrals⟩

theorem Photo.abandonLine_keeps : p.Keeps p.abandonLine := by
  unfold Photo.abandonLine
  split
  · exact (Photo.withFilm_keeps _).trans (Photo.imagingEnd_keeps _ _)
  · exact .refl

theorem Photo.haltNow_keeps : p.Keeps p.haltNow := by
  unfold Photo.haltNow
  split
  · exact .refl
  · exact Photo.abandonLine_keeps.trans (Photo.withImager_keeps fun h => h.stopDisc.congr rfl rfl rfl)

theorem Photo.halt_keeps (e : Event) : p.Keeps (p.halt e) :=
  (Photo.post_keeps e).trans Photo.haltNow_keeps

theorem Photo.spend_keeps (timer : ImagerTimer) : p.Keeps (p.spend timer) :=
  Photo.setImager_keeps rfl rfl rfl

theorem Photo.expire_keeps (timer : ImagerTimer) (e : Event) : p.Keeps (p.expire timer e) := by
  rcases Photo.expire_cases p timer e with ⟨-, runs⟩ | ⟨-, -, -, spent⟩ | ⟨-, -, idle⟩
  · rw [runs]; exact (Photo.halt_keeps e).trans (Photo.spend_keeps timer)
  · rw [spent]; exact (Photo.post_keeps e).trans (Photo.spend_keeps timer)
  · rw [idle]; exact .refl

/-! ### Motions and homing (R126, R135 to R137, R149) -/

theorem Imager.Bounded.driveCarriage {x : Imager} (h : x.Bounded) (target : Nat) :
    (x.driveCarriage target).Bounded := by
  unfold Imager.driveCarriage
  split
  · exact h
  · exact h.congr rfl rfl rfl

theorem Imager.Bounded.driveTurret {x : Imager} (h : x.Bounded) (lens : Nat) : (x.driveTurret lens).Bounded := by
  unfold Imager.driveTurret
  split
  · exact h.congr rfl rfl rfl
  · exact h

theorem Imager.Bounded.selectRing {x : Imager} (h : x.Bounded) (ring : Nat) : (x.selectRing ring).Bounded := by
  unfold Imager.selectRing
  split
  · exact h
  · exact h.congr rfl rfl rfl

theorem Imager.Bounded.position {x : Imager} (h : x.Bounded) (g : Glyph) : (x.position g).Bounded :=
  ((h.selectRing g.ring).driveTurret g.lens).driveCarriage g.x

theorem Imager.Bounded.homed {x : Imager} (h : x.Bounded) : x.homed.Bounded := by
  unfold Imager.homed
  split
  · exact h.congr rfl rfl rfl
  · exact h

theorem Photo.beginHoming_keeps (detent : Bool) : p.Keeps (p.beginHoming detent) := by
  unfold Photo.beginHoming
  dsimp only
  refine (Photo.withFilm_keeps p.film.homing).trans (Photo.withImager_keeps fun h => Imager.Bounded.homed ?_)
  have still : Imager.Bounded
      { p.imager.stopDisc with state := .homing, returnState := none, coverNote := false, cancelled := [] } :=
    h.stopDisc.congr rfl rfl rfl
  have driven := still.driveCarriage 0
  split
  · exact driven.congr rfl rfl rfl
  · split
    · exact driven.congr rfl rfl rfl
    · exact driven.congr rfl rfl rfl

/-! ### A line in hand (R131 to R144) -/

theorem Photo.applyFilm_keeps (y : FilmResult) : p.Keeps (p.applyFilm y) := by
  have posts (l : List Event) : ∀ q : Photo, q.Keeps (l.foldl Photo.post q) := by
    induction l with
    | nil => exact fun q => .refl
    | cons e l ih => exact fun q => (Photo.post_keeps e).trans (ih _)
  unfold Photo.applyFilm
  dsimp only
  split
  · exact ((Photo.withFilm_keeps y.film).trans (posts _ _)).trans (Photo.flagLine_keeps _)
  · exact (Photo.withFilm_keeps y.film).trans (posts _ _)

theorem Photo.completeLine_keeps : p.Keeps p.completeLine :=
  (Photo.imagingEnd_keeps _ _).trans (Photo.enter_keeps _)

theorem Photo.goHome_keeps (pr : Progress) : p.Keeps (p.goHome pr) := by
  unfold Photo.goHome
  split
  · exact Photo.completeLine_keeps
  · exact Photo.withImager_keeps fun h => h.driveCarriage 0

theorem Photo.pursueCut_keeps {pr : Progress} (hpr : p.imager.Bounded → pr.deferrals ≤ 65535) :
    p.Keeps (p.pursueCut pr) := by
  unfold Photo.pursueCut
  split
  · exact Photo.completeLine_keeps
  · split
    · exact .refl
    · split
      · extract_lets y q
        have asked : Photo.Keeps p q := (Photo.applyFilm_keeps y).after (Photo.withLine_keeps hpr)
        split
        · exact asked.trans Photo.haltNow_keeps
        · exact asked
      · exact Photo.withImager_keeps fun h => h.driveCarriage 0

theorem Photo.waitMount_keeps {pr : Progress} (hpr : p.imager.Bounded → pr.deferrals ≤ 65535) (disc : Nat) :
    p.Keeps (p.waitMount pr disc) := by
  unfold Photo.waitMount
  extract_lets q r
  have waits : Photo.Keeps p q := (Photo.enter_keeps .mountWait).trans (Photo.withLine_keeps fun h =>
    hpr (h.congr rfl rfl rfl))
  have asked : Photo.Keeps r (r.withReply (r.reply.mount r.pins.cts disc (r.store.record pr.slot).number)) :=
    ⟨fun h => ⟨h.imager, h.proof, h.log, h.reply.mount _ _ _⟩, .refl _, by simp, fun _ => id⟩
  exact (waits.trans (Photo.post_keeps .mountRequest)).trans asked

theorem Photo.startGlyph_keeps {pr : Progress} (hpr : p.imager.Bounded → pr.deferrals ≤ 65535) :
    p.Keeps (p.startGlyph pr) := by
  unfold Photo.startGlyph
  split
  · exact .refl
  · next g _ =>
    split
    · exact Photo.withImager_keeps (x := { p.imager.position g with line := some { pr with positioning := true } })
        fun h => (h.position g).withLine (hpr h)
    · exact Photo.waitMount_keeps hpr _

theorem Photo.pursue_keeps : p.Keeps p.pursue := by
  unfold Photo.pursue
  split
  · exact .refl
  · next pr line =>
    have hpr (h : p.imager.Bounded) := h.deferrals pr line
    split
    · exact Photo.startGlyph_keeps hpr
    · exact Photo.startGlyph_keeps hpr
    · exact Photo.goHome_keeps pr
    · exact Photo.pursueCut_keeps hpr

theorem Photo.pursueSetting_keeps : p.Keeps p.pursueSetting := by
  unfold Photo.pursueSetting
  split
  · exact Photo.pursue_keeps
  · exact .refl

theorem Photo.nextGlyph_keeps {pr : Progress} (hpr : p.imager.Bounded → pr.deferrals ≤ 65535) :
    p.Keeps (p.nextGlyph pr) := by
  unfold Photo.nextGlyph
  extract_lets next after
  have hnext : p.imager.Bounded → after.deferrals ≤ 65535 := by
    unfold after
    split <;> exact hpr
  exact (Photo.withLine_keeps hnext).trans Photo.pursueSetting_keeps

/-! ### Reports of Film Transport (R132, R144, R148) -/

theorem Photo.filmDone_keeps (tag : Nat) : p.Keeps (p.filmDone tag) := by
  unfold Photo.filmDone
  extract_lets _ q
  have tagged : Photo.Keeps p q := Photo.setImager_keeps rfl rfl rfl
  refine tagged.trans ?_
  split
  · exact .refl
  · next pr line =>
    extract_lets phase r
    have lined : Photo.Keeps q r := Photo.withLine_keeps fun h => h.deferrals pr line
    split
    · exact lined
    · exact lined.trans Photo.pursueSetting_keeps

theorem Photo.cutEnds_keeps : p.Keeps p.cutEnds := by
  unfold Photo.cutEnds
  split
  · exact .refl
  · next pr line =>
    exact Photo.pursueSetting_keeps.after (Photo.withLine_keeps fun h => h.deferrals pr line)

theorem Photo.takeReport_keeps (r : Report) : p.Keeps (p.takeReport r) := by
  cases r with
  | moveDone tag => exact Photo.filmDone_keeps tag
  | cutDone => exact Photo.cutEnds_keeps
  | filmFault => exact Photo.haltNow_keeps

theorem Photo.runFilm_keeps (y : FilmResult) : p.Keeps (p.runFilm y) := by
  unfold Photo.runFilm
  split
  · exact Photo.applyFilm_keeps y
  · exact (Photo.applyFilm_keeps y).trans (Photo.takeReport_keeps _)

/-! ### Taking a line (R130) -/

theorem Photo.endAtOnce_keeps (o : LineOutcome) : p.Keeps (p.endAtOnce o) :=
  (Photo.imagingEnd_keeps _ _).after (Photo.setImager_keeps rfl rfl rfl)

theorem Photo.takeText_keeps (r : LineRecord) : p.Keeps (p.takeText r) := by
  unfold Photo.takeText
  dsimp only
  split
  · exact (Photo.runFilm_keeps _).after (Photo.setImager_keeps rfl rfl rfl)
  · exact ((Photo.enter_keeps .setting).trans (Photo.runFilm_keeps _)).trans Photo.pursueSetting_keeps

theorem Photo.takeBare_keeps (r : LineRecord) : p.Keeps (p.takeBare r) :=
  (Photo.enter_keeps .setting).trans (Photo.runFilm_keeps _)

theorem Photo.takeStop_keeps : p.Keeps p.takeStop :=
  ((Photo.withImager_keeps fun h => h.stopDisc).trans (Photo.endAtOnce_keeps .set)).trans (Photo.enter_keeps .standby)

theorem Photo.takeSlot_keeps (i : Nat) : p.Keeps (p.takeSlot i) := by
  unfold Photo.takeSlot
  extract_lets r _ q u
  have marked : Photo.Keeps p q := Photo.withStore_keeps (trims_mark p.store i .imaging) id
  have taken : Photo.Keeps q u := Photo.withLine_keeps fun _ => Nat.zero_le _
  refine (marked.trans taken).trans ?_
  split
  · exact Photo.endAtOnce_keeps .discarded
  · split
    · exact Photo.takeStop_keeps
    · exact Photo.takeBare_keeps _
    · split
      · exact Photo.takeBare_keeps _
      · exact Photo.takeText_keeps _

theorem Photo.takeLine_keeps : p.Keeps p.takeLine := by
  unfold Photo.takeLine
  split
  · exact .refl
  · split
    · exact Photo.takeSlot_keeps _
    · exact .refl

/-! ### Completed motions (R126, R136, R137) -/

theorem Photo.carriageArrives_keeps : p.Keeps p.carriageArrives := by
  unfold Photo.carriageArrives
  split
  · exact .refl
  · next target _ =>
    extract_lets _ q
    have stands : Photo.Keeps p q := Photo.setImager_keeps rfl rfl rfl
    refine stands.trans ?_
    split
    · exact Photo.withImager_keeps fun h => h.homed
    · split
      · exact .refl
      · split
        · exact Photo.pursue_keeps
        · exact .refl

theorem Photo.homingStep_keeps (detent : Bool) : p.Keeps (p.homingStep detent) := by
  unfold Photo.homingStep
  dsimp only
  split
  · exact Photo.withImager_keeps fun h => Imager.Bounded.homed (h.congr rfl rfl rfl)
  · split
    · exact (Photo.halt_keeps _).after (Photo.setImager_keeps rfl rfl rfl)
    · split
      · exact Photo.setImager_keeps rfl rfl rfl
      · exact Photo.setImager_keeps rfl rfl rfl

theorem Photo.glyphStep_keeps (position : Nat) (way : Direction) (detent : Bool) :
    p.Keeps (p.glyphStep position way detent) := by
  unfold Photo.glyphStep
  extract_lets next _ q
  have stepped : Photo.Keeps p q := Photo.setImager_keeps rfl rfl rfl
  refine stepped.trans ?_
  split
  · exact Photo.halt_keeps _
  · split
    · exact .refl
    · split
      · exact Photo.pursue_keeps
      · exact .refl

theorem Photo.turretSteps_keeps (detent : Bool) : p.Keeps (p.turretSteps detent) := by
  unfold Photo.turretSteps
  split
  · exact .refl
  · split
    · exact Photo.homingStep_keeps detent
    · split
      · exact Photo.glyphStep_keeps _ _ detent
      · exact Photo.setImager_keeps rfl rfl rfl

theorem Photo.ringSettles_keeps : p.Keeps p.ringSettles := Photo.setImager_keeps rfl rfl rfl

/-! ### Sector events (R127, R128, R138 to R142) -/

theorem Imager.Bounded.sector {x : Imager} (h : x.Bounded) : x.sector.Bounded :=
  ⟨(List.length_filter_le _ _).trans h.history, Nat.mod_lt _ (by decide), h.deferrals⟩

theorem joinHistory_length {history : List Nat} (h : history.length ≤ 8) (s : Nat) :
    (joinHistory history s).length ≤ 8 := by
  unfold joinHistory Config.historySize
  split
  · simp only [List.length_append, List.length_tail, List.length_singleton]; omega
  · simp only [List.length_append, List.length_singleton]; omega

theorem Photo.dropGlyph_keeps {pr : Progress} (hpr : p.imager.Bounded → pr.deferrals ≤ 65535) :
    p.Keeps (p.dropGlyph pr) := by
  unfold Photo.dropGlyph
  extract_lets pr' q
  have lined : (p.post .glyphDropped).Keeps ((p.post .glyphDropped).withLine pr') := Photo.withLine_keeps hpr
  have counted : Photo.Keeps p q := (Photo.flagLine_keeps _).after (lined.after (Photo.post_keeps .glyphDropped))
  refine counted.trans ?_
  split
  · exact Photo.halt_keeps _
  · refine Photo.nextGlyph_keeps fun h => h.deferrals pr' ?_
    simp [q]

theorem Photo.closeWindow_keeps : p.Keeps p.closeWindow := by
  unfold Photo.closeWindow
  split
  · extract_lets _ q
    have closed : Photo.Keeps p q := Photo.setImager_keeps rfl rfl rfl
    refine closed.trans ?_
    split
    · exact .refl
    · next pr line =>
      have hpr (h : q.imager.Bounded) := h.deferrals pr line
      split
      · exact Photo.withLine_keeps hpr
      · exact Photo.dropGlyph_keeps hpr
  · exact .refl

theorem Photo.flash_keeps {pr : Progress} (hpr : p.imager.Bounded → pr.deferrals ≤ 65535) : p.Keeps (p.flash pr) := by
  unfold Photo.flash
  split
  · exact ⟨fun h => ⟨⟨joinHistory_length h.imager.history _, h.imager.stamp, by rintro _ ⟨⟩; exact hpr h.imager⟩,
      h.proof, h.log, h.reply⟩, .refl _, rfl, fun _ => id⟩
  · exact Photo.withLine_keeps fun h => saturate_le (hpr h)

theorem Photo.flashIfDue_keeps (n : Nat) : p.Keeps (p.flashIfDue n) := by
  unfold Photo.flashIfDue
  split
  · exact .refl
  · next pr line =>
    split
    · exact .refl
    · split
      · exact Photo.flash_keeps fun h => h.deferrals pr line
      · exact .refl

theorem Photo.sectorEvent_keeps (n : Nat) : p.Keeps (p.sectorEvent n) := by
  unfold Photo.sectorEvent
  split
  · exact .refl
  · exact ((Photo.withImager_keeps fun h => h.sector).trans Photo.closeWindow_keeps).trans (Photo.flashIfDue_keeps n)

/-! ### Index events (R127, R128, R134, R147) -/

theorem Photo.resumeLine_keeps : p.Keeps p.resumeLine :=
  Photo.pursue_keeps.after (Photo.setImager_keeps rfl rfl rfl)

theorem Photo.spunUp_keeps (identity : Nat) : p.Keeps (p.spunUp identity) := by
  unfold Photo.spunUp
  split
  · exact Photo.setImager_keeps rfl rfl rfl
  · extract_lets _ q
    have running : Photo.Keeps p q :=
      Photo.withImager_keeps fun h => ⟨h.history, Nat.zero_lt_succ _, h.deferrals⟩
    split
    · exact running.trans Photo.resumeLine_keeps
    · exact running

theorem Photo.rechecked_keeps (identity : Nat) : p.Keeps (p.rechecked identity) := by
  unfold Photo.rechecked
  extract_lets _ q
  have running : Photo.Keeps p q := Photo.setImager_keeps rfl rfl rfl
  refine running.trans ?_
  split
  · exact Photo.setImager_keeps rfl rfl rfl
  · exact Photo.resumeLine_keeps
  · exact Photo.resumeLine_keeps
  · exact Photo.resumeLine_keeps
  · exact .refl

theorem Photo.indexEvent_keeps (identity : Nat) : p.Keeps (p.indexEvent identity) := by
  unfold Photo.indexEvent
  split
  · exact .refl
  · split
    · exact Photo.spunUp_keeps identity
    · exact Photo.setImager_keeps rfl rfl rfl
  · split
    · extract_lets q
      have recounted : Photo.Keeps p q := Photo.setImager_keeps rfl rfl rfl
      refine recounted.trans ?_
      split
      · exact Photo.resumeLine_keeps.after (Photo.setImager_keeps rfl rfl rfl)
      · exact .refl
    · exact Photo.halt_keeps _
  · split
    · exact Photo.rechecked_keeps identity
    · exact Photo.setImager_keeps rfl rfl rfl

/-! ### The flash confirm, the cover and LAMP (R139, R140, R146, R147, R149) -/

theorem Photo.confirm_keeps : p.Keeps p.confirm := by
  unfold Photo.confirm
  split
  · extract_lets _ q
    have closed : Photo.Keeps p q := Photo.setImager_keeps rfl rfl rfl
    refine closed.trans ?_
    split
    · exact .refl
    · next pr line => exact Photo.nextGlyph_keeps fun h => h.deferrals pr line
  · exact .refl

theorem Photo.suspend_keeps : p.Keeps p.suspend := by
  unfold Photo.suspend
  exact (Photo.flagLine_keeps _).after ((Photo.post_keeps .coverOpen).after (Photo.setImager_keeps rfl rfl rfl))

theorem Photo.coverOpens_keeps : p.Keeps p.coverOpens := by
  unfold Photo.coverOpens
  split
  · exact Photo.setImager_keeps rfl rfl rfl
  · exact Photo.setImager_keeps rfl rfl rfl
  · exact Photo.suspend_keeps

theorem Photo.startRecheck_keeps : p.Keeps p.startRecheck := Photo.setImager_keeps rfl rfl rfl

theorem Photo.resume_keeps (detent : Bool) : p.Keeps (p.resume detent) := by
  unfold Photo.resume
  split
  · exact Photo.beginHoming_keeps detent
  · exact Photo.setImager_keeps rfl rfl rfl
  · split
    · exact Photo.startRecheck_keeps
    · exact Photo.setImager_keeps rfl rfl rfl
  · exact Photo.startRecheck_keeps
  · split
    · exact Photo.startRecheck_keeps
    · exact Photo.resumeLine_keeps
  · split
    · exact Photo.startRecheck_keeps
    · exact Photo.resumeLine_keeps
  · exact .refl

theorem Photo.coverCloses_keeps (detent : Bool) : p.Keeps (p.coverCloses detent) := by
  unfold Photo.coverCloses
  split
  · exact Photo.resume_keeps detent
  · split
    · exact Photo.beginHoming_keeps detent
    · exact .refl
  · exact .refl

theorem Photo.takeLamp_keeps (window most : Nat) : p.Keeps (p.takeLamp window most) :=
  Photo.setImager_keeps rfl rfl rfl

theorem Photo.start_keeps (detent : Bool) : p.Keeps (p.start detent) := by
  unfold Photo.start
  split
  · exact (Photo.post_keeps .coverOpen).after (Photo.setImager_keeps rfl rfl rfl)
  · exact Photo.beginHoming_keeps detent

end Sys2Proof.Machine
end

section
/-! PROOFS. The Composer's side of the part over a step: how many glyph and space entries the pieces of a line have (the
close, the break decision, the refill of a carry list), and that every operation on the desk keeps the capacities and
lets no further slot await proof (`Desk.Keeps`), one lemma for each operation in the model's order. -/

namespace Sys2Proof.Machine

open Sys2Proof Sys2Proof.Safety

/-! ### Entries of a list of items -/

@[simp] theorem glyphsOf_nil : glyphsOf [] = [] := rfl
@[simp] theorem spacesOf_nil : spacesOf [] = [] := rfl
@[simp] theorem glyphsOf_cons_glyph (g : Glyph) (l : List LineItem) : glyphsOf (.glyph g :: l) = g :: glyphsOf l := rfl
@[simp] theorem glyphsOf_cons_space (p : Space) (l : List LineItem) : glyphsOf (.space p :: l) = glyphsOf l := rfl
@[simp] theorem spacesOf_cons_glyph (g : Glyph) (l : List LineItem) : spacesOf (.glyph g :: l) = spacesOf l := rfl
@[simp] theorem spacesOf_cons_space (p : Space) (l : List LineItem) : spacesOf (.space p :: l) = p :: spacesOf l := rfl

@[simp] theorem glyphsOf_append (a b : List LineItem) : glyphsOf (a ++ b) = glyphsOf a ++ glyphsOf b :=
  List.filterMap_append

@[simp] theorem spacesOf_append (a b : List LineItem) : spacesOf (a ++ b) = spacesOf a ++ spacesOf b :=
  List.filterMap_append

@[simp] theorem glyphsOf_map_glyph (l : List Glyph) : glyphsOf (l.map .glyph) = l := by
  induction l with
  | nil => rfl
  | cons g l ih => simp [ih]

@[simp] theorem spacesOf_map_glyph (l : List Glyph) : spacesOf (l.map .glyph) = [] := by
  induction l with
  | nil => rfl
  | cons g l ih => simp [ih]

theorem glyphsOf_sublist {a b : List LineItem} (h : a.Sublist b) : (glyphsOf a).Sublist (glyphsOf b) := h.filterMap _

theorem spacesOf_sublist {a b : List LineItem} (h : a.Sublist b) : (spacesOf a).Sublist (spacesOf b) := h.filterMap _

theorem mem_spacesOf {p : Space} {l : List LineItem} : p ∈ spacesOf l ↔ LineItem.space p ∈ l := by
  induction l with
  | nil => simp
  | cons i l ih => cases i <;> simp [ih]

/-- Items without an interword space entry. -/
def NoInterword (items : List LineItem) : Prop := ∀ p ∈ spacesOf items, p.kind ≠ .interword

theorem NoInterword.sublist {a b : List LineItem} (h : NoInterword b) (hab : a.Sublist b) : NoInterword a :=
  fun p hp => h p ((spacesOf_sublist hab).subset hp)

theorem noInterword_iff (items : List LineItem) :
    NoInterword items ↔ ∀ i ∈ items, i.isInterword = false := by
  constructor
  · intro h i hi
    cases i with
    | glyph g => rfl
    | space p => simpa [LineItem.isInterword] using h p (mem_spacesOf.mpr hi)
  · intro h p hp
    simpa [LineItem.isInterword] using h _ (mem_spacesOf.mp hp)

/-! ### The close (R77 to R82) -/

/-- A line's items are those up to its last glyph and the spaces that trail it. -/
theorem uptoLastGlyph_append_trailing (items : List LineItem) : uptoLastGlyph items ++ trailing items = items := by
  unfold uptoLastGlyph trailing
  rw [← List.reverse_append, List.takeWhile_append_dropWhile, List.reverse_reverse]

theorem closedItems_sublist (items : List LineItem) : (closedItems items).Sublist items := by
  conv_rhs => rw [← uptoLastGlyph_append_trailing items]
  exact (List.Sublist.refl _).append List.filter_sublist

/-- Final positions change entries and add none. -/
theorem finalItems_length (q : Int) (r gap : Nat) (items : List LineItem) (moved : Int) (k : Nat) (after : Bool) :
    (glyphsOf (finalItems q r gap items moved k after)).length = (glyphsOf items).length ∧
      (spacesOf (finalItems q r gap items moved k after)).length = (spacesOf items).length := by
  induction items generalizing moved k after with
  | nil => exact ⟨rfl, rfl⟩
  | cons i items ih =>
    cases i with
    | glyph g => simpa [finalItems] using ih _ _ _
    | space p =>
      unfold finalItems
      split <;> simpa using ih _ _ _

theorem closeRecord_number (p : Params) (quad : Quad) (x : Int) (r : LineRecord) :
    (closeRecord p quad x r).number = r.number := by
  unfold closeRecord
  dsimp only
  split <;> rfl

theorem closeRecord_length (p : Params) (quad : Quad) (x : Int) (r : LineRecord) :
    (glyphsOf (closeRecord p quad x r).items).length ≤ (glyphsOf r.items).length ∧
      (spacesOf (closeRecord p quad x r).items).length ≤ (spacesOf r.items).length := by
  have glyphs := (glyphsOf_sublist (closedItems_sublist r.items)).length_le
  have spaces := (spacesOf_sublist (closedItems_sublist r.items)).length_le
  unfold closeRecord
  dsimp only
  split
  · exact ⟨glyphs, spaces⟩
  · dsimp only
    rw [(finalItems_length _ _ _ _ _ _ _).1, (finalItems_length _ _ _ _ _ _ _).2]
    exact ⟨glyphs, spaces⟩

/-! ### The break decision (R71 to R74) -/

/-- What a break decision may come to: the kept items fit a record, and no interword space is carried. -/
structure Cut.Bounded (cut : Cut) : Prop where
  glyphs : (glyphsOf cut.kept).length ≤ 160
  spaces : (spacesOf cut.kept).length ≤ 160
  carried : NoInterword cut.carried

/-- A candidate that passes the fit test keeps the line's first `n` items, with an added hyphen or without. -/
theorem tryCandidate_some {t : Tables} {params : Params} {mr : Nat} {items : List LineItem} {n : Nat} {adds : Bool}
    {cut : Cut} (h : tryCandidate t params mr items n adds = some cut) :
    cut.carried = items.drop n ∧ (glyphsOf cut.kept).length ≤ 160 ∧ spacesOf cut.kept = spacesOf (items.take n) := by
  unfold tryCandidate at h
  dsimp only at h
  split at h
  · next p _ =>
    split at h
    · split at h
      · exact nomatch h
      · next g _ =>
        split at h
        · next fits =>
          cases h
          simp only [fitsHyphen, Bool.and_eq_true, decide_eq_true_eq, Config.lineGlyphs] at fits
          exact ⟨rfl, by simpa using fits.2, by simp⟩
        · exact nomatch h
    · split at h
      · next fits =>
        cases h
        simp only [fitsPlain, Bool.and_eq_true, decide_eq_true_eq] at fits
        exact ⟨rfl, fits.2, rfl⟩
      · exact nomatch h
  · exact nomatch h

/-- A candidate of the word leaves all items before the word on the line. -/
theorem tryCandidates_some {t : Tables} {params : Params} {mr : Nat} {items : List LineItem} {length gone : Nat}
    {cs : List Candidate} {cut : Cut} (h : tryCandidates t params mr items length gone cs = some cut) :
    ∃ n, items.length - length ≤ n ∧ cut.carried = items.drop n ∧ (glyphsOf cut.kept).length ≤ 160 ∧
      spacesOf cut.kept = spacesOf (items.take n) := by
  unfold tryCandidates at h
  obtain ⟨c, -, hc⟩ := List.exists_of_findSome?_eq_some h
  split at hc
  · exact ⟨_, Nat.sub_le_sub_left (Nat.sub_le _ _) _, tryCandidate_some hc⟩
  · exact nomatch hc

/-- The last interword space entry: the items after it have none. -/
theorem lastInterword_some {items : List LineItem} {n : Nat} (h : lastInterword items = some n) :
    NoInterword (items.drop n) ∧ ∃ i, items[n - 1]? = some i ∧ i.isInterword = true := by
  unfold lastInterword at h
  obtain ⟨k, hk, rfl⟩ := Option.map_eq_some_iff.mp h
  obtain ⟨isInter, as, bs, split, notAs⟩ := List.find?_eq_some_iff_append.mp hk
  have bound : k < items.length := by
    simpa using (split ▸ List.mem_append_right as List.mem_cons_self : k ∈ (List.range items.length).reverse)
  refine ⟨(noInterword_iff _).mpr fun i hi => ?_, items[k], by simp, ?_⟩
  · obtain ⟨j, hj, rfl⟩ := List.mem_iff_getElem.mp hi
    rw [List.length_drop] at hj
    rw [List.getElem_drop]
    have later : k + 1 + j ∈ as := by
      have mem : k + 1 + j ∈ as ++ k :: bs := by rw [← split]; simp; omega
      have sorted : (as ++ k :: bs).Pairwise (· > ·) := by
        rw [← split, List.pairwise_reverse]; exact List.pairwise_lt_range
      rcases List.mem_append.mp mem with h | h
      · exact h
      · have le : ∀ x ∈ k :: bs, x ≤ k := by
          intro x hx
          rcases List.mem_cons.mp hx with rfl | hx
          · exact Nat.le_refl _
          · exact Nat.le_of_lt ((List.pairwise_cons.mp (List.pairwise_append.mp sorted).2.1).1 x hx)
        have := le _ h
        omega
    have := notAs _ later
    rw [List.getElem?_eq_getElem (by omega)] at this
    simpa using this
  · rw [List.getElem?_eq_getElem bound] at isInter
    simpa using isInter

theorem lastInterword_none {items : List LineItem} (h : lastInterword items = none) : NoInterword items := by
  unfold lastInterword at h
  rw [Option.map_eq_none_iff, List.find?_eq_none] at h
  refine (noInterword_iff _).mpr fun i hi => ?_
  obtain ⟨j, hj, rfl⟩ := List.mem_iff_getElem.mp hi
  have := h j (by simpa using hj)
  rw [List.getElem?_eq_getElem hj] at this
  simpa using this

/-- A forced break is tried only where its glyphs fit a line (R74). -/
theorem forcedPlace_some {mr : Nat} {items : List LineItem} {n : Nat} (h : forcedPlace mr items = some n) :
    (glyphsOf (items.take n)).length ≤ 160 := by
  have fits := List.find?_some h
  unfold forcedFits at fits
  split at fits
  · simp only [fitsPlain, Bool.and_eq_true, decide_eq_true_eq] at fits
    exact fits.2
  · exact nomatch fits

/-- Up to and including its first glyph a line has one glyph at most. -/
theorem glyphsOf_take_firstGlyphPlace (items : List LineItem) :
    (glyphsOf (items.take (firstGlyphPlace items))).length ≤ 1 := by
  induction items with
  | nil => exact Nat.zero_le _
  | cons i items ih =>
    cases i with
    | glyph g => simp [firstGlyphPlace, LineItem.isGlyph]
    | space p => simpa [firstGlyphPlace, LineItem.isGlyph] using ih

/-- The break decision keeps what fits a record and carries no interword space, where the word at the line's end has
none and the line has room for the glyphs before its last interword space. -/
theorem decideBreak_bounded (t : Tables) (dict : List DictEntry) (params : Params) (ladder mr : Nat)
    {items : List LineItem} {w : Word} (gone : Nat) (spaces : (spacesOf items).length ≤ 160)
    (word : NoInterword (items.drop (items.length - w.codes.length)))
    (before : ∀ n, lastInterword items = some n → (glyphsOf (items.take (n - 1))).length ≤ 160) :
    (decideBreak t dict params ladder mr items w gone).Bounded := by
  have taken (n : Nat) : (spacesOf (items.take n)).length ≤ 160 :=
    (spacesOf_sublist (List.take_sublist n items)).length_le.trans spaces
  unfold decideBreak
  split
  · next cut hcut =>
    obtain ⟨n, from_word, carried, glyphs, kept⟩ := tryCandidates_some hcut
    exact ⟨glyphs, kept ▸ taken n, carried ▸ word.sublist (List.drop_sublist_drop_left items from_word)⟩
  · split
    · next n hn => exact ⟨before n hn, taken _, (lastInterword_some hn).1⟩
    · next none =>
      have plain := lastInterword_none none
      split
      · next n hn => exact ⟨forcedPlace_some hn, taken n, plain.sublist (List.drop_sublist n items)⟩
      · exact ⟨(glyphsOf_take_firstGlyphPlace items).trans (by decide), taken _, plain.sublist (List.drop_sublist _ _)⟩

/-! ### Re-adding a carry list (R76) -/

/-- A line refilled from a carry list: its counts are those of its items, and it overflows before it is full. -/
structure Refill.Bounded (r : Refill) : Prop where
  glyphs : (glyphsOf r.items).length = r.glyphs
  room : r.overflowed = false → r.glyphs < 160
  spaces : (spacesOf r.items).length ≤ 160
  plain : NoInterword r.items

theorem overflows_false {mr glyphs : Nat} {x shrink : Int} (h : overflows mr x shrink glyphs = false) : glyphs < 160 :=
  Nat.not_le.mp (of_decide_eq_false (Bool.or_eq_false_iff.mp h).2)

theorem Refill.add_space (mr : Nat) (r : Refill) (p : Space) :
    r.add mr (.space p) =
      if spaceDropped p.kind r.glyphs r.items.getLast? then r
      else if Config.lineSpaces ≤ (spacesOf r.items).length then { r with overset := true }
      else r.addSpace p := rfl

theorem Refill.Bounded.add {r : Refill} (h : r.Bounded) (mr : Nat) (i : LineItem) (hi : i.isInterword = false) :
    (r.add mr i).Bounded := by
  obtain ⟨glyphs, room, spaces, plain⟩ := h
  cases i with
  | glyph g =>
    refine ⟨by simp [Refill.add, glyphs], fun fits => ?_, by simpa [Refill.add] using spaces,
      by simpa [Refill.add, NoInterword] using plain⟩
    exact overflows_false (Bool.or_eq_false_iff.mp fits).2
  | space p =>
    rw [Refill.add_space]
    split
    · exact ⟨glyphs, room, spaces, plain⟩
    · split
      · exact ⟨glyphs, room, spaces, plain⟩
      · next below =>
        refine ⟨by simpa [Refill.addSpace] using glyphs, room, ?_, ?_⟩
        · simpa [Refill.addSpace, Config.lineSpaces] using below
        · intro q hq
          simp only [Refill.addSpace, spacesOf_append, List.mem_append] at hq
          rcases hq with hq | hq
          · exact plain q hq
          · obtain rfl : q = { p with after := r.x + p.normal } := by simpa using hq
            simpa [LineItem.isInterword] using hi

theorem refill_bounded (ls mr : Nat) {carried : List LineItem} (h : NoInterword carried) :
    (refill ls mr carried).Bounded := by
  have adds : ∀ (items : List LineItem) {r : Refill}, r.Bounded → (∀ i ∈ items, i.isInterword = false) →
      (items.foldl (Refill.add mr) r).Bounded := by
    intro items
    induction items with
    | nil => exact fun hr _ => hr
    | cons i items ih =>
      exact fun hr hi => ih (hr.add mr i (hi i List.mem_cons_self)) fun j hj => hi j (List.mem_cons_of_mem _ hj)
  exact adds carried ⟨rfl, fun _ => Nat.zero_lt_succ _, Nat.zero_le _, nofun⟩ ((noInterword_iff _).mp h)

/-! ### Capacities of the desk -/

/-- A line record's share of `CapacityLaw`. -/
structure LineRecord.Bounded (r : LineRecord) : Prop where
  number : r.number < 65536
  glyphs : (glyphsOf r.items).length ≤ 160
  spaces : (spacesOf r.items).length ≤ 160

/-- The Line Store's share of `CapacityLaw`. -/
def Store.Bounded (st : Store) : Prop := ∀ i, (st.record i).Bounded

/-- The Composer's share of `CapacityLaw`, its word and its phase apart. -/
structure Composer.Bounded (c : Composer) : Prop where
  stack : c.stack.length ≤ 8
  ladder : c.ladder ≤ 255
  above : -14400 ≤ c.adjust
  below : c.adjust ≤ 14400
  counter : c.counter < 65536

theorem Composer.Bounded.congr {c e : Composer} (h : c.Bounded) (stack : e.stack = c.stack)
    (ladder : e.ladder = c.ladder) (adjust : e.adjust = c.adjust) (counter : e.counter = c.counter) : e.Bounded :=
  ⟨stack ▸ h.stack, ladder ▸ h.ladder, adjust ▸ h.above, adjust ▸ h.below, counter ▸ h.counter⟩

/-- How the word buffer and the open line stand in a phase: with no line open no word is, and a line in OPEN has
room. -/
def Phase.Fits (phase : Phase) (word : List Glyph) (st : Store) : Prop :=
  match phase with
  | .idle => word = []
  | .opened line =>
    (glyphsOf (st.record line.slot).items).length + word.length ≤ line.glyphs ∧ line.glyphs < 160
  | .overflowed line => (glyphsOf (st.record line.slot).items).length < 160
  | .waitSlot held => word = [] ∧ ∀ carry ending, held = .carry carry ending → NoInterword carry.items

/-- The desk's share of `CapacityLaw`. -/
structure Desk.Bounded (d : Desk) : Prop where
  composer : d.composer.Bounded
  word : d.composer.word.glyphs.length ≤ 48
  store : d.store.Bounded
  fits : d.composer.phase.Fits d.composer.word.glyphs d.store

theorem Desk.Bounded.ofNoWord {d : Desk} (noWord : d.composer.word.glyphs = []) (composer : d.composer.Bounded)
    (store : d.store.Bounded) (fits : d.composer.phase.Fits d.composer.word.glyphs d.store) : d.Bounded :=
  ⟨composer, by simp [noWord], store, fits⟩

/-- `e` comes of `d` by an operation of the Composer: the capacities hold in it, and no further slot awaits proof. -/
structure Desk.Keeps (d e : Desk) : Prop where
  bounded : e.Bounded
  awaiting : e.store.awaiting ≠ [] → d.store.awaiting ≠ []

theorem Desk.Keeps.refl {d : Desk} (h : d.Bounded) : d.Keeps d := ⟨h, id⟩

theorem Desk.Keeps.trans {d e f : Desk} (hde : d.Keeps e) (hef : e.Bounded → e.Keeps f) : d.Keeps f :=
  have hef := hef hde.bounded
  ⟨hef.bounded, hde.awaiting ∘ hef.awaiting⟩

/-- A desk on which the last word has ended and no line has overflowed. -/
structure Desk.Rested (d : Desk) : Prop extends d.Bounded where
  noWord : d.composer.word.glyphs = []
  calm : d.composer.phase = .idle ∨ ∃ line, d.composer.phase = .opened line

/-- A record without items. -/
theorem LineRecord.Bounded.empty {r : LineRecord} (number : r.number < 65536) (items : r.items = []) : r.Bounded :=
  ⟨number, by simp [items], by simp [items]⟩

theorem LineRecord.blank_bounded : LineRecord.blank.Bounded := .empty (by decide) rfl

theorem record_putRecord (st : Store) (i j : Nat) (r : LineRecord) :
    (st.putRecord i r).record j = if i = j ∧ i < 8 then r else st.record j :=
  record_putSlot st i j _

/-- An index past the eight slots reads as blank. -/
theorem record_eq_blank (st : Store) {i : Nat} (h : ¬i < 8) : st.record i = .blank := by
  simp [Store.record, Store.slot, tabGet, h]

/-- A slot written with a bounded record, whatever stood in it before. -/
theorem Store.bounded_putSlot {st : Store} {i : Nat} (others : ∀ j, j ≠ i → (st.record j).Bounded) {x : LineSlot}
    (hx : x.record.Bounded) : (st.putSlot i x).Bounded := by
  intro j
  rw [record_putSlot]
  split
  · exact hx
  · next outside =>
    by_cases hj : j = i
    · subst hj
      rw [record_eq_blank st fun lt => outside ⟨rfl, lt⟩]
      exact LineRecord.blank_bounded
    · exact others j hj

theorem Store.Bounded.putSlot {st : Store} (h : st.Bounded) (i : Nat) {x : LineSlot} (hx : x.record.Bounded) :
    (st.putSlot i x).Bounded :=
  Store.bounded_putSlot (fun j _ => h j) hx

theorem Store.Bounded.putRecord {st : Store} (h : st.Bounded) (i : Nat) {r : LineRecord} (hr : r.Bounded) :
    (st.putRecord i r).Bounded :=
  h.putSlot i hr

theorem Store.Bounded.trims {st st' : Store} (h : st.Bounded) (trims : st.Trims st') : st'.Bounded := by
  intro i
  obtain ⟨number, items⟩ := trims i
  refine ⟨?_, ?_, ?_⟩
  · rcases number with e | e
    · rw [e]; exact (h i).number
    · rw [e]; decide
  · rcases items with e | e
    · rw [e]; exact (h i).glyphs
    · rw [e]; decide
  · rcases items with e | e
    · rw [e]; exact (h i).spaces
    · rw [e]; decide

/-- A phase that fits still does when records have lost items. -/
theorem Phase.Fits.trims {phase : Phase} {word : List Glyph} {st st' : Store} (h : phase.Fits word st)
    (trims : st.Trims st') : phase.Fits word st' := by
  have fewer (i : Nat) : (glyphsOf (st'.record i).items).length ≤ (glyphsOf (st.record i).items).length := by
    rcases (trims i).2 with e | e
    · rw [e]
    · rw [e]; exact Nat.zero_le _
  cases phase with
  | idle => exact h
  | opened line => exact ⟨(Nat.add_le_add_right (fewer _) _).trans h.1, h.2⟩
  | overflowed line => exact (fewer _).trans_lt h
  | waitSlot held => exact h

theorem glyphs_putRecord_le (st : Store) (i : Nat) (r : LineRecord) {n : Nat} (h : (glyphsOf r.items).length ≤ n) :
    (glyphsOf ((st.putRecord i r).record i).items).length ≤ n := by
  rw [record_putRecord]
  split
  · exact h
  · next outside =>
    rw [record_eq_blank st fun lt => outside ⟨rfl, lt⟩]
    exact Nat.zero_le _

variable {d : Desk}

theorem Desk.Bounded.withStore {st : Store} (h : d.Bounded) (trims : d.store.Trims st) :
    Desk.Bounded { d with store := st } :=
  ⟨h.composer, h.word, h.store.trims trims, h.fits.trims trims⟩

/-- A change of the Composer that leaves its bounded fields, its word and its phase alone. -/
theorem Desk.Bounded.setComposer (h : d.Bounded) {c : Composer} (bounded : c.Bounded)
    (word : c.word.glyphs = d.composer.word.glyphs) (phase : c.phase = d.composer.phase) :
    d.Keeps (d.withComposer c) := by
  refine ⟨⟨bounded, word ▸ h.word, h.store, ?_⟩, id⟩
  simpa only [Desk.withComposer, word, phase] using h.fits

theorem Desk.Bounded.post (h : d.Bounded) (e : Event) : d.Keeps (d.post e) :=
  ⟨⟨h.composer, h.word, h.store, h.fits⟩, id⟩

/-! ### Opening and closing (R60, R61, R77, R82, R102, R114) -/

theorem nextNumber_lt (n : Nat) : nextNumber n < 65536 := Nat.mod_lt _ (by decide)

theorem Composer.Bounded.textRecord {c : Composer} (h : c.Bounded) : c.textRecord.Bounded :=
  .empty h.counter rfl

/-- An opened line has an empty record in a slot of the store, and the word buffer as it was. -/
theorem Desk.openLine_some {e : Desk} {line : OpenLine} (h : d.openLine = some (e, line)) :
    line.slot < 8 ∧ line.glyphs = 0 ∧ e.composer = { d.composer with
      phase := .opened line, adjust := 0, columnMark := false, counter := nextNumber d.composer.counter } ∧
      e.store = d.store.fill line.slot d.composer.textRecord := by
  unfold Desk.openLine at h
  split at h
  · exact nomatch h
  · next i free =>
    cases h
    exact ⟨(lowestFree_spec free).1, rfl, rfl, rfl⟩

theorem Desk.Bounded.openLine (h : d.Bounded) (noWord : d.composer.word.glyphs = []) {e : Desk} {line : OpenLine}
    (hopen : d.openLine = some (e, line)) :
    d.Keeps e ∧ e.Rested ∧ e.composer.phase = .opened line ∧ line.slot < 8 := by
  obtain ⟨slot, none, composer, store⟩ := Desk.openLine_some hopen
  have bounded : e.Bounded := by
    refine .ofNoWord (composer ▸ noWord)
      (composer ▸ ⟨h.composer.stack, h.composer.ladder, neg_nonpos.mpr (by decide), Int.zero_le_ofNat _,
        nextNumber_lt _⟩)
      (store ▸ h.store.putSlot _ h.composer.textRecord) ?_
    rw [composer, store]
    have empty : ((d.store.fill line.slot d.composer.textRecord).record line.slot).items = [] := by
      simp only [Store.fill, record_putSlot, slot, and_self, if_true]
      rfl
    simp [Phase.Fits, empty, noWord, none]
  refine ⟨⟨bounded, by rw [store]; exact id⟩, ⟨bounded, by rw [composer]; exact noWord, ?_⟩, by rw [composer], slot⟩
  exact .inr ⟨line, by rw [composer]⟩

theorem Desk.Bounded.wait (h : d.Bounded) (noWord : d.composer.word.glyphs = []) {w : Waiting}
    (plain : ∀ carry ending, w = .carry carry ending → NoInterword carry.items) : d.Keeps (d.wait w) :=
  ⟨.ofNoWord noWord (h.composer.congr rfl rfl rfl rfl)
    h.store ⟨noWord, plain⟩, id⟩

/-- The item held is a code, no carry list. -/
theorem Desk.Bounded.waitCode (h : d.Bounded) (noWord : d.composer.word.glyphs = []) (c : Instr) :
    d.Keeps (d.wait (.code c)) :=
  h.wait noWord nofun

theorem ladderAfter_le {ladder : Nat} (h : ladder ≤ 255) (hyphenEnded : Bool) :
    ladderAfter ladder hyphenEnded ≤ 255 := by
  cases hyphenEnded
  · exact Nat.zero_le _
  · exact saturate_le h

/-- A close leaves the Composer IDLE with no word, whatever stood on the desk before. -/
theorem Desk.closeLine_keeps (composer : d.composer.Bounded) {i : Nat}
    (others : ∀ j, j ≠ i → (d.store.record j).Bounded) {r : LineRecord} (hr : r.Bounded) :
    d.Keeps (d.closeLine i r) ∧ (d.closeLine i r).Rested ∧ (d.closeLine i r).composer.phase = .idle := by
  have bounded : (d.closeLine i r).Bounded :=
    .ofNoWord rfl ⟨composer.stack, ladderAfter_le composer.ladder _, composer.above, composer.below,
      composer.counter⟩ (Store.bounded_putSlot others hr) rfl
  exact ⟨⟨bounded, id⟩, ⟨bounded, rfl, .inl rfl⟩, rfl⟩

theorem LineRecord.Bounded.closeRecord {r : LineRecord} (h : r.Bounded) (p : Params) (quad : Quad) (x : Int) :
    (Machine.closeRecord p quad x r).Bounded := by
  obtain ⟨glyphs, spaces⟩ := closeRecord_length p quad x r
  exact ⟨by rw [closeRecord_number]; exact h.number, glyphs.trans h.glyphs, spaces.trans h.spaces⟩

theorem Desk.Bounded.closeOpen (h : d.Bounded) (line : OpenLine) (lastLine : Bool) :
    d.Keeps (d.closeOpen line lastLine) ∧ (d.closeOpen line lastLine).Rested ∧
      (d.closeOpen line lastLine).composer.phase = .idle :=
  Desk.closeLine_keeps h.composer (fun j _ => h.store j) ((h.store line.slot).closeRecord _ _ _)

/-! ### Spaces (R66 to R68) -/

theorem Desk.Rested.takeSpace (h : d.Rested) (t : Tables) {line : OpenLine} (phase : d.composer.phase = .opened line)
    (kind : SpaceKind) : d.Keeps (d.takeSpace t line kind) := by
  have record := h.store line.slot
  have fits := h.fits
  simp only [phase, Phase.Fits, h.noWord, List.length_nil, Nat.add_zero] at fits
  unfold Desk.takeSpace
  dsimp only
  split
  · exact .refl h.toBounded
  · split
    · refine ⟨⟨h.composer, h.word, h.store.putRecord _ ⟨record.number, record.glyphs, record.spaces⟩, ?_⟩, id⟩
      simp only [Desk.withRecord, phase, Phase.Fits, h.noWord, List.length_nil, Nat.add_zero]
      exact ⟨glyphs_putRecord_le _ _ _ fits.1, fits.2⟩
    · next below =>
      split
      · refine ⟨⟨(h.composer.congr rfl rfl rfl rfl), h.word, h.store.putRecord _ ⟨record.number, ?_, ?_⟩, ?_⟩, id⟩
        · simpa using record.glyphs
        · simpa [Config.lineSpaces] using below
        · simp only [Desk.withPhase, Desk.withRecord, Phase.Fits, h.noWord, List.length_nil, Nat.add_zero]
          exact ⟨glyphs_putRecord_le _ _ _ (by simpa using fits.1), fits.2⟩
      · exact .refl h.toBounded

/-! ### CUT and STOP records (R85, R86) -/

theorem Desk.Bounded.emit (h : d.Bounded) (noWord : d.composer.word.glyphs = []) {r : LineRecord} (hr : r.Bounded)
    {c : Composer} (hc : c.Bounded) (word : c.word.glyphs = d.composer.word.glyphs) {e : Desk}
    (he : d.emit r c = some e) : d.Keeps e := by
  unfold Desk.emit at he
  split at he
  · exact nomatch he
  · cases he
    have noWord := word.trans noWord
    exact ⟨.ofNoWord noWord ⟨hc.stack, hc.ladder, hc.above, hc.below, nextNumber_lt _⟩
      ((h.store.putSlot _ hr).putSlot _ hr) noWord, id⟩

theorem Desk.Bounded.emitCut (h : d.Bounded) (noWord : d.composer.word.glyphs = []) : d.Keeps d.emitCut := by
  unfold Desk.emitCut
  split
  · next e he =>
    have composer : Composer.Bounded { d.composer with adjust := 0, columnMark := false } :=
      ⟨h.composer.stack, h.composer.ladder, neg_nonpos.mpr (by decide), Int.zero_le_ofNat _,
        h.composer.counter⟩
    exact h.emit noWord (.empty h.composer.counter rfl) composer rfl he
  · exact h.waitCode noWord _

theorem Desk.Bounded.emitStop (h : d.Bounded) (noWord : d.composer.word.glyphs = []) : d.Keeps d.emitStop := by
  unfold Desk.emitStop
  split
  · next e he => exact h.emit noWord (.empty h.composer.counter rfl) h.composer rfl he
  · exact h.waitCode noWord _

/-! ### A code after its word has ended -/

theorem Desk.Rested.spaceAfterWord (h : d.Rested) (t : Tables) (code : Instr) (kind : SpaceKind) :
    d.Keeps (d.spaceAfterWord t code kind) := by
  unfold Desk.spaceAfterWord
  split
  · next line phase => exact h.takeSpace t phase kind
  · split
    · exact .refl h.toBounded
    · split
      · next e line hopen =>
        obtain ⟨keeps, rested, phase, -⟩ := h.openLine h.noWord hopen
        exact keeps.trans fun _ => rested.takeSpace t phase kind
      · exact h.waitCode h.noWord code
  · exact .refl h.toBounded

theorem Desk.Rested.endAfterWord (h : d.Rested) (code : Instr) (lastLine : Bool) :
    d.Keeps (d.endAfterWord code lastLine) := by
  unfold Desk.endAfterWord
  split
  · exact (h.closeOpen _ lastLine).1
  · split
    · next e line hopen =>
      exact (h.openLine h.noWord hopen).1.trans fun h => (h.closeOpen line lastLine).1
    · exact h.waitCode h.noWord code
  · exact .refl h.toBounded

theorem Desk.Rested.closeForRecord (h : d.Rested) : d.Keeps d.closeForRecord ∧ d.closeForRecord.Rested := by
  unfold Desk.closeForRecord
  split
  · next line _ =>
    obtain ⟨keeps, rested, -⟩ := h.closeOpen line true
    exact ⟨keeps, rested⟩
  · exact ⟨.refl h.toBounded, h⟩

theorem Desk.Rested.afterWord (h : d.Rested) (t : Tables) (code : Instr) : d.Keeps (d.afterWord t code) := by
  obtain ⟨closes, rested⟩ := h.closeForRecord
  unfold Desk.afterWord
  split
  · exact h.spaceAfterWord t _ _
  · exact h.spaceAfterWord t _ _
  · exact h.spaceAfterWord t _ _
  · exact h.spaceAfterWord t _ _
  · exact h.spaceAfterWord t _ _
  · exact h.endAfterWord _ _
  · exact h.endAfterWord _ _
  · exact closes.trans fun h => h.emitCut rested.noWord
  · exact closes.trans fun h => h.emitStop rested.noWord
  · exact .refl h.toBounded

theorem Desk.Rested.afterBreak (h : d.Rested) (t : Tables) (ending : Option Instr) :
    d.Keeps (d.afterBreak t ending) := by
  cases ending with
  | none => exact .refl h.toBounded
  | some code => exact h.afterWord t code

/-! ### The break and its carry (R71, R75, R76) -/

/-- The line closed at a break takes the items kept, whatever stood in its record before. -/
theorem Desk.closeAtBreak_keeps (composer : d.composer.Bounded) {slot : Nat}
    (others : ∀ j, j ≠ slot → (d.store.record j).Bounded) (number : (d.store.record slot).number < 65536) {cut : Cut}
    (hcut : cut.Bounded) :
    d.Keeps (d.closeAtBreak slot cut) ∧ (d.closeAtBreak slot cut).Rested ∧
      (d.closeAtBreak slot cut).composer.phase = .idle := by
  refine Desk.closeLine_keeps composer others (LineRecord.Bounded.closeRecord ?_ _ _ _)
  exact ⟨number, hcut.glyphs, hcut.spaces⟩

/-- Placing a carry list without interword spaces, by induction on the number of lines it may open: each line is
refilled from it, and broken again where it overflows. -/
theorem Desk.placeCarry_keeps (t : Tables) (dict : List DictEntry) (ending : Option Instr) (fuel : Nat) :
    ∀ {d : Desk} {carry : Carry}, d.Bounded → d.composer.word.glyphs = [] → NoInterword carry.items →
      d.Keeps (d.placeCarry t dict ending fuel carry) := by
  induction fuel with
  | zero => exact fun h _ _ => .refl h
  | succ fuel ih =>
    intro d carry h noWord plain
    unfold Desk.placeCarry
    split
    · refine h.wait noWord fun c e held => ?_
      cases held
      exact plain
    · next e line hopen =>
      obtain ⟨keeps, rested, phase, slot⟩ := h.openLine noWord hopen
      refine keeps.trans fun _ => ?_
      extract_lets r f _ r' e' cut closed
      have composer : e'.composer.Bounded := rested.composer
      have filled : f.Bounded := refill_bounded r.ls r.mr plain
      have record : e'.store.record line.slot = r' := by
        simp only [e', Desk.withRecord, record_putRecord, slot, and_self, if_true]
      have others (j : Nat) (hj : j ≠ line.slot) : (e'.store.record j).Bounded := by
        simp only [e', Desk.withRecord, record_putRecord, hj.symm, false_and, if_false]
        exact rested.store j
      split
      · have hcut : cut.Bounded := by
          refine decideBreak_bounded t dict _ _ _ _ filled.spaces (filled.plain.sublist (List.drop_sublist _ _)) ?_
          intro n hn
          obtain ⟨-, i, hi, inter⟩ := lastInterword_some hn
          rw [(noInterword_iff _).mp filled.plain i (List.mem_of_getElem? hi)] at inter
          exact nomatch inter
        obtain ⟨closes, rests, -⟩ : e'.Keeps closed ∧ closed.Rested ∧ closed.composer.phase = .idle :=
          Desk.closeAtBreak_keeps composer others (by rw [record]; exact (rested.store line.slot).number) hcut
        have closes : Desk.Keeps e closed := ⟨closes.bounded, closes.awaiting⟩
        split
        · exact closes.trans fun _ => rests.afterBreak t ending
        · exact closes.trans fun h => ih h rests.noWord hcut.carried
      · next fits =>
        have fits : f.overflowed = false := by simpa using fits
        have glyphs : f.glyphs < 160 := filled.room fits
        have bounded : r'.Bounded :=
          ⟨(rested.store line.slot).number, (filled.glyphs.trans_lt glyphs).le, filled.spaces⟩
        refine Desk.Keeps.trans (e := e'.withPhase (.opened ⟨line.slot, f.x, f.stretch, f.shrink, f.glyphs⟩)) ?_
          fun h => Desk.Rested.afterBreak ⟨h, rested.noWord, .inr ⟨_, rfl⟩⟩ t ending
        have word : e'.composer.word.glyphs = [] := rested.noWord
        refine ⟨.ofNoWord word (composer.congr rfl rfl rfl rfl)
          (rested.store.putRecord _ bounded) ?_, id⟩
        simp only [Desk.withPhase, Phase.Fits, record, word, List.length_nil, Nat.add_zero]
        exact ⟨filled.glyphs.le, glyphs⟩

/-- The items before the last interword space of a line are before the word in the buffer, which has no spaces. -/
theorem take_lastInterword_prefix {items : List LineItem} {word : List Glyph} {n : Nat}
    (h : lastInterword (items ++ word.map LineItem.glyph) = some n) :
    ((items ++ word.map LineItem.glyph).take (n - 1)).Sublist items := by
  obtain ⟨-, i, hi, inter⟩ := lastInterword_some h
  by_cases before : n - 1 < items.length
  · rw [List.take_append_of_le_length before.le]
    exact List.take_sublist _ _
  · rw [List.getElem?_append_right (Nat.not_lt.mp before)] at hi
    obtain ⟨g, -, rfl⟩ := List.mem_map.mp (List.mem_of_getElem? hi)
    exact nomatch inter

/-- The break of a line whose settled glyphs leave it room, with whatever word is in the buffer. -/
theorem Desk.breakLine_keeps (t : Tables) (dict : List DictEntry) {line : OpenLine} (ending : Option Instr)
    (composer : d.composer.Bounded) (store : d.store.Bounded)
    (room : (glyphsOf (d.store.record line.slot).items).length < 160) :
    d.Keeps (d.breakLine t dict line ending) := by
  unfold Desk.breakLine
  extract_lets r b w cut closed
  have hcut : cut.Bounded := by
    refine decideBreak_bounded t dict _ _ _ _ ?_ ?_ fun n hn => ?_
    · simpa using (store line.slot).spaces
    · simp [w, NoInterword]
    · exact (glyphsOf_sublist (take_lastInterword_prefix hn)).length_le.trans room.le
  obtain ⟨closes, rests, -⟩ : d.Keeps closed ∧ closed.Rested ∧ closed.composer.phase = .idle :=
    Desk.closeAtBreak_keeps composer (fun j _ => store j) (store line.slot).number hcut
  split
  · exact closes.trans fun _ => rests.afterBreak t ending
  · exact closes.trans fun h => Desk.placeCarry_keeps t dict ending _ h rests.noWord hcut.carried

/-! ### The word (R69) -/

/-- A word settled into an open line that has room for it. -/
theorem Desk.settleWord_keeps {line : OpenLine} (composer : d.composer.Bounded) (store : d.store.Bounded)
    (phase : d.composer.phase = .opened line)
    (count : (glyphsOf (d.store.record line.slot).items).length + d.composer.word.glyphs.length ≤ line.glyphs)
    (room : line.glyphs < 160) :
    d.Keeps (d.settleWord line) ∧ (d.settleWord line).Rested := by
  have record := store line.slot
  have bounded : (d.settleWord line).Bounded := by
    refine .ofNoWord rfl (composer.congr rfl rfl rfl rfl)
      (store.putRecord _ ⟨record.number, ?_, ?_⟩) ?_
    · simpa using count.trans room.le
    · simpa using record.spaces
    · simp only [Desk.settleWord, phase, Phase.Fits, WordBuffer.empty, List.length_nil, Nat.add_zero]
      exact ⟨glyphs_putRecord_le _ _ _ (by simpa using count), room⟩
  exact ⟨⟨bounded, id⟩, ⟨bounded, rfl, .inr ⟨line, phase⟩⟩⟩

theorem Desk.Bounded.takeEnding (h : d.Bounded) (t : Tables) (dict : List DictEntry) (code : Instr) :
    d.Keeps (d.takeEnding t dict code) := by
  have fits := h.fits
  unfold Desk.takeEnding
  split
  · next phase =>
    rw [phase] at fits
    exact Desk.Rested.afterWord ⟨h, fits, .inl phase⟩ t code
  · next line phase =>
    rw [phase] at fits
    obtain ⟨keeps, rested⟩ := Desk.settleWord_keeps h.composer h.store phase fits.1 fits.2
    exact keeps.trans fun _ => rested.afterWord t code
  · next line phase =>
    rw [phase] at fits
    exact Desk.breakLine_keeps t dict (some code) h.composer h.store fits
  · exact .refl h

/-! ### Setting a glyph (R63 to R65) -/

theorem Composer.bufferGlyph_length (c : Composer) (g : Glyph) :
    (c.bufferGlyph g).word.glyphs.length = c.word.glyphs.length + 1 := by
  unfold Composer.bufferGlyph
  split
  · next empty => simp [List.isEmpty_iff.mp empty]
  · simp

theorem Composer.Bounded.bufferGlyph {c : Composer} (h : c.Bounded) (g : Glyph) : (c.bufferGlyph g).Bounded := by
  unfold Composer.bufferGlyph
  split
  · exact h.congr rfl rfl rfl rfl
  · exact h.congr rfl rfl rfl rfl

/-- A glyph joins the word: the line stays OPEN while it has room, and where the buffer is full the word is broken or
settles. `was` says that the line had overflowed before. -/
theorem Desk.setGlyph_keeps (t : Tables) (dict : List DictEntry) (h : d.Bounded) {line : OpenLine} {was : Bool}
    (phase : d.composer.phase = if was then .overflowed line else .opened line) (code : Option Byte) :
    d.Keeps (d.setGlyph t dict line was code) := by
  unfold Desk.setGlyph
  split
  · exact .refl h
  · next g _ =>
    extract_lets r further full _ c _ e
    have fits := h.fits
    have record := h.store line.slot
    have length : c.word.glyphs.length = d.composer.word.glyphs.length + 1 := d.composer.bufferGlyph_length g
    have composer : e.composer.Bounded :=
      have buffered := h.composer.bufferGlyph g
      (buffered.congr rfl rfl rfl rfl)
    have store : e.store.Bounded := h.store.putRecord _ ⟨record.number, record.glyphs, record.spaces⟩
    have items {n : Nat} (hn : (glyphsOf r.items).length ≤ n) :
        (glyphsOf (e.store.record line.slot).items).length ≤ n := glyphs_putRecord_le _ _ _ hn
    have settled : (glyphsOf r.items).length < 160 := by
      cases was with
      | true => rw [phase] at fits; exact fits
      | false => rw [phase] at fits; exact (Nat.le_add_right _ _).trans_lt (fits.1.trans_lt fits.2)
    have roomy (open_ : full = false) : e.composer.phase = .opened further ∧
        (glyphsOf (e.store.record line.slot).items).length + e.composer.word.glyphs.length ≤ further.glyphs ∧
        further.glyphs < 160 := by
      obtain ⟨notWas, noOverflow⟩ := Bool.or_eq_false_iff.mp open_
      rw [phase, notWas] at fits
      have sum : (glyphsOf r.items).length + d.composer.word.glyphs.length ≤ line.glyphs := fits.1
      refine ⟨by simp [e, c, open_], ?_, overflows_false noOverflow⟩
      have kept := items (Nat.le_refl _)
      change _ + c.word.glyphs.length ≤ line.glyphs + 1
      omega
    have onward {f : Desk} (keeps : Desk.Keeps e f) : Desk.Keeps d f := ⟨keeps.bounded, keeps.awaiting⟩
    have within : (glyphsOf (e.store.record line.slot).items).length < 160 :=
      (items (Nat.le_refl _)).trans_lt settled
    split
    · next short =>
      refine ⟨⟨composer, Nat.le_of_lt short, store, ?_⟩, id⟩
      cases hfull : full with
      | true =>
        have overflowed : e.composer.phase = .overflowed further := by simp [e, c, hfull]
        rw [overflowed]
        exact within
      | false =>
        obtain ⟨opened, count, room⟩ := roomy hfull
        rw [opened]
        exact ⟨count, room⟩
    · split
      · exact onward (Desk.breakLine_keeps t dict none composer store within)
      · next open_ =>
        obtain ⟨opened, count, room⟩ := roomy (by simpa using open_)
        exact onward (Desk.settleWord_keeps composer store opened count room).1

theorem Desk.Bounded.takeGlyph (h : d.Bounded) (t : Tables) (dict : List DictEntry) (code : Option Byte)
    (item : Instr) : d.Keeps (d.takeGlyph t dict code item) := by
  unfold Desk.takeGlyph
  split
  · next line phase => exact Desk.setGlyph_keeps (was := false) t dict h phase code
  · next line phase => exact Desk.setGlyph_keeps (was := true) t dict h phase code
  · next phase =>
    have noWord : d.composer.word.glyphs = [] := by simpa [phase, Phase.Fits] using h.fits
    split
    · next e line hopen =>
      obtain ⟨keeps, -, opened, -⟩ := h.openLine noWord hopen
      exact keeps.trans fun h => Desk.setGlyph_keeps (was := false) t dict h opened code
    · exact h.waitCode noWord item
  · exact .refl h

/-! ### Checks at the take, and leaving WAIT SLOT (R31, R61) -/

theorem Desk.Bounded.whenSettable (h : d.Bounded) (t : Tables) {f : Desk → Desk} (hf : d.Keeps (f d)) :
    d.Keeps (d.whenSettable t f) := by
  unfold Desk.whenSettable
  split
  · exact hf
  · exact h.post _

theorem Desk.Rested.resumeHeld (h : d.Rested) (t : Tables) (dict : List DictEntry) {held : Waiting}
    (plain : ∀ carry ending, held = .carry carry ending → NoInterword carry.items) :
    d.Keeps (d.resumeHeld t dict held) := by
  unfold Desk.resumeHeld
  split
  · exact h.takeGlyph t dict _ _
  · exact h.takeGlyph t dict _ _
  · exact h.afterWord t _
  · next carry ending => exact Desk.placeCarry_keeps t dict ending _ h.toBounded h.noWord (plain carry ending rfl)

theorem Desk.Bounded.resume (h : d.Bounded) (t : Tables) (dict : List DictEntry) : d.Keeps (d.resume t dict) := by
  unfold Desk.resume
  split
  · next held phase =>
    split
    · have fits := h.fits
      rw [phase] at fits
      obtain ⟨noWord, plain⟩ := fits
      have composer := h.composer
      have idle : (d.withPhase .idle).Bounded := .ofNoWord noWord
        (composer.congr rfl rfl rfl rfl) h.store noWord
      have keeps : (d.withPhase .idle).Keeps ((d.withPhase .idle).resumeHeld t dict held) :=
        Desk.Rested.resumeHeld ⟨idle, noWord, .inl rfl⟩ t dict plain
      exact ⟨keeps.bounded, keeps.awaiting⟩
    · exact .refl h
  · exact .refl h

/-! ### Marks, film commands, KILL LINE and CLEAR (R70, R84, R87, R88) -/

theorem Desk.Bounded.markDiscretionary (h : d.Bounded) : d.Keeps d.markDiscretionary := by
  unfold Desk.markDiscretionary
  dsimp only
  split
  · exact .refl h
  · have composer := h.composer
    exact h.setComposer (composer.congr rfl rfl rfl rfl) rfl rfl

/-- A clamped value lies in its range. -/
theorem clampInt_mem {lo hi : Int} (h : lo ≤ hi) (v : Int) : lo ≤ clampInt lo hi v ∧ clampInt lo hi v ≤ hi := by
  unfold clampInt
  split
  · omega
  · split <;> omega

theorem Desk.Bounded.adjustFilm (h : d.Bounded) (steps : Int) : d.Keeps (d.adjustFilm steps) := by
  obtain ⟨above, below⟩ := clampInt_mem (lo := -Config.filmReach) (hi := Config.filmReach) (by decide)
    (d.composer.adjust + steps)
  exact ⟨⟨⟨h.composer.stack, h.composer.ladder, above, below, h.composer.counter⟩, h.word, h.store, h.fits⟩, id⟩

theorem Desk.Bounded.kill (h : d.Bounded) (line : OpenLine) : d.Keeps (d.kill line) := by
  unfold Desk.kill
  extract_lets r
  refine Desk.Keeps.trans ?_ fun h => h.adjustFilm _
  have composer := h.composer
  exact ⟨.ofNoWord rfl ⟨composer.stack, composer.ladder, composer.above, composer.below, (h.store line.slot).number⟩
    (h.store.trims (trims_release _ _)) rfl, release_awaiting_ne_nil⟩

theorem Desk.Bounded.killLine (h : d.Bounded) : d.Keeps d.killLine := by
  unfold Desk.killLine
  split
  · exact h.kill _
  · exact h.kill _
  · exact .refl h
  · exact .refl h

/-- Discard marking changes no number and no item (R118). -/
theorem trims_discardReady (st : Store) : st.Trims st.discardReady := by
  have records (i : Nat) : (st.discardReady.record i).number = (st.record i).number ∧
      (st.discardReady.record i).items = (st.record i).items := by
    unfold Store.record Store.slot Store.discardReady tabGet
    by_cases hi : i < 8
    · simp only [Vector.getElem?_eq_getElem hi, Vector.getElem_map, Option.getD_some]
      split <;> exact ⟨rfl, rfl⟩
    · simp [hi]
  exact fun i => ⟨.inl (records i).1, .inl (records i).2⟩

theorem Desk.Bounded.clear (h : d.Bounded) : d.Keeps d.clear := by
  unfold Desk.clear
  refine h.killLine.trans fun h => ?_
  exact ⟨.ofNoWord rfl ⟨Nat.zero_le _, Nat.zero_le _, neg_nonpos.mpr (by decide), Int.zero_le_ofNat _,
    h.composer.counter⟩ (h.store.trims (trims_discardReady _)) rfl, id⟩

end Sys2Proof.Machine
end

section
/-! PROOFS. The whole part over a step: the capacities (`CapacityLaw`), the slots that await proof (`AwaitingLaw`) and
the held SYNC (`HeldSyncLaw`). `State.Bounded` is `CapacityLaw` by the three views of the part; `State.Keeps` says
what an operation keeps of the three laws, and `exec_keepsLaws` that every command does. -/

namespace Sys2Proof.Machine

open Sys2Proof Sys2Proof.Safety

/-! ### The Intake and the Format Store -/

/-- The share of `CapacityLaw` of the Intake and the Format Store. -/
structure Front.Bounded (f : Front) : Prop where
  fifo : f.intake.fifo.length ≤ 64
  errors : f.intake.errors ≤ 255
  sources : f.intake.sources.length ≤ 4
  memory : f.formats.memory.length ≤ 4096

/-- What a take leaves of the front, if it takes anything, is within the capacities. -/
def Taken.Bounded : Taken → Prop
  | .nothing => True
  | .quiet f => f.Bounded
  | .item _ f => f.Bounded

section Front
variable {f : Front}

/-- A change of the position, the staging buffer or the events. -/
theorem Front.Bounded.congr (h : f.Bounded) {g : Front} (fifo : g.intake.fifo = f.intake.fifo)
    (errors : g.intake.errors = f.intake.errors) (sources : g.intake.sources = f.intake.sources)
    (formats : g.formats = f.formats) : g.Bounded :=
  ⟨fifo ▸ h.fifo, errors ▸ h.errors, sources ▸ h.sources, formats ▸ h.memory⟩

theorem Front.Bounded.offer (h : f.Bounded) (e : Entry) : (f.offer e).Bounded := by
  unfold Front.offer
  split
  · next room =>
    refine ⟨?_, h.errors, h.sources, h.memory⟩
    simpa [Intake.withFifo, Config.fifoSize] using room
  · exact h.congr rfl rfl rfl rfl

theorem Front.Bounded.frame (h : f.Bounded) (data : Byte) (parity stop : Bool) :
    (f.frame data parity stop).Bounded := by
  unfold Front.frame
  split
  · exact h.offer _
  · have counted : f.inputError.Bounded := ⟨h.fifo, saturate_le h.errors, h.sources, h.memory⟩
    exact counted.offer _

/-- The next entry leaves the FIFO shorter, or the stack as high as it is. -/
theorem Front.Bounded.next (h : f.Bounded) {e : Entry} {g : Front} (hnext : f.next = some (e, g)) : g.Bounded := by
  unfold Front.next at hnext
  split at hnext
  · split at hnext
    · exact nomatch hnext
    · next rest fifo =>
      cases hnext
      have length := h.fifo
      rw [fifo, List.length_cons] at length
      exact ⟨by simpa [Intake.withFifo] using Nat.le_of_succ_le length, h.errors, h.sources, h.memory⟩
  · next top below sources =>
    split at hnext
    · exact nomatch hnext
    · cases hnext
      have length := h.sources
      rw [sources] at length
      exact ⟨h.fifo, h.errors, length, h.memory⟩

/-- A stored item fits format memory, or the definition is given up. -/
theorem Front.Bounded.store (h : f.Bounded) (number : Nat) (nestable : Bool) (stored : Nat) (bytes : List Byte) :
    (f.store number nestable stored bytes).Bounded := by
  unfold Front.store
  split
  · next room => exact ⟨h.fifo, h.errors, h.sources, by simpa [Config.formatMemory] using room⟩
  · exact ⟨h.fifo, h.errors, h.sources, (List.length_take_le' _ _).trans h.memory⟩

theorem Front.Bounded.complete (h : f.Bounded) (i : Instr) (bytes : List Byte) : (f.complete i bytes).Bounded := by
  have ground : Front.Bounded { f with intake := { f.intake with position := .ground } } := h.congr rfl rfl rfl rfl
  unfold Front.complete
  dsimp only
  split
  · exact ground
  · split
    · split
      · exact ground.congr rfl rfl rfl rfl
      · exact ground
    · exact ground.store _ _ _ _
    · exact ground

theorem Front.Bounded.at (h : f.Bounded) (p : Position) : (f.at p).Bounded := h.congr rfl rfl rfl rfl

theorem Front.Bounded.unknown (h : f.Bounded) : f.unknown.Bounded := (h.at .ground).congr rfl rfl rfl rfl

theorem Front.Bounded.takeGround (h : f.Bounded) (b : Byte) : (f.takeGround b).Bounded := by
  unfold Front.takeGround
  split
  · exact h.complete _ _
  · split
    · exact h.at _
    · exact h.unknown

theorem Front.Bounded.takeNumber (h : f.Bounded) (b : Byte) : (f.takeNumber b).Bounded := by
  unfold Front.takeNumber
  split
  · exact h.unknown
  · split
    · exact h.complete _ _
    · exact h.unknown
  · exact h.at _

theorem Front.Bounded.stage (h : f.Bounded) (num : Byte) (taken : List Byte) (toCome : Nat) (b : Byte) :
    (f.stage num taken toCome b).Bounded := by
  unfold Front.stage
  split
  · exact h.congr rfl rfl rfl rfl
  · exact h

theorem Front.Bounded.takeParameter (h : f.Bounded) (num : Byte) (taken : List Byte) (toCome : Nat) (b : Byte) :
    (f.takeParameter num taken toCome b).Bounded := by
  unfold Front.takeParameter
  extract_lets staged all more left noted
  have noted : noted.Bounded := (h.stage num taken toCome b).congr rfl rfl rfl rfl
  split
  · split
    · exact noted.complete _ _
    · exact noted.at _
  · exact noted.at _

theorem Front.Bounded.takeDamaged (h : f.Bounded) : f.takeDamaged.Bounded := by
  unfold Front.takeDamaged
  split
  · exact h
  · exact h.at _

theorem Front.Bounded.take (h : f.Bounded) : f.take.Bounded := by
  unfold Front.take
  split
  · trivial
  · next g hnext => exact (h.next hnext).takeDamaged
  · next b g hnext =>
    have hg := h.next hnext
    split
    · exact hg.takeGround b
    · exact hg.takeNumber b
    · exact hg.takeParameter _ _ _ b

theorem Front.Bounded.runOut (h : f.Bounded) : f.runOut.Bounded := by
  unfold Front.runOut
  split
  · exact ⟨h.fifo, h.errors, (popEnded_length _ _ _).trans h.sources, h.memory⟩
  · exact h

end Front

/-- Freeing a format takes bytes out of format memory. -/
theorem FormatStore.free_memory_length (fs : FormatStore) (n : Nat) :
    (fs.free n).memory.length ≤ fs.memory.length := by
  unfold FormatStore.free
  split
  · exact Nat.le_refl _
  · simp only [List.length_append, List.length_take, List.length_drop]
    omega

/-! ### The three views -/

/-- `CapacityLaw` by the views of the part. -/
structure State.Bounded (s : State) : Prop where
  front : s.front.Bounded
  desk : s.desk.Bounded
  photo : (s.photo false).Bounded

theorem capacityLaw_iff (s : State) : CapacityLaw s ↔ s.Bounded := by
  constructor
  · rintro ⟨fifo, errors, sources, memory, stack, word, ladder, above, below, history, stamp, queue, gap, unread, write,
      read, replies, markers, counter, deferrals, records, fits⟩
    refine ⟨⟨fifo, errors, sources, memory⟩, ⟨⟨stack, ladder, above, below, counter⟩, word, fun i => ?_, ?_⟩,
      ⟨⟨history, stamp, deferrals⟩, ⟨queue, gap⟩, ⟨unread, write, read⟩, ⟨replies, markers⟩⟩⟩
    · exact ⟨(records i).1, (records i).2.1, (records i).2.2⟩
    · change s.composer.phase.Fits _ s.store
      cases hp : s.composer.phase <;> (rw [hp] at fits; exact fits)
  · rintro ⟨⟨fifo, errors, sources, memory⟩, ⟨⟨stack, ladder, above, below, counter⟩, word, records, fits⟩,
      ⟨⟨history, stamp, deferrals⟩, ⟨queue, gap⟩, ⟨unread, write, read⟩, ⟨replies, markers⟩⟩⟩
    refine ⟨fifo, errors, sources, memory, stack, word, ladder, above, below, history, stamp, queue, gap, unread, write,
      read, replies, markers, counter, deferrals, fun i => ?_, ?_⟩
    · exact ⟨(records i).number, (records i).glyphs, (records i).spaces⟩
    · change s.composer.phase.Fits _ s.store at fits
      cases hp : s.composer.phase <;> (rw [hp] at fits; exact fits)

theorem awaitingLaw_iff (s : State) : AwaitingLaw s ↔ Awaits s.store s.proof := Iff.rfl

/-- With nothing held no SYNC is. -/
theorem heldSyncLaw_of_none {s : State} (h : s.reply.held = none) : HeldSyncLaw s := by
  intro token held
  rw [h] at held
  exact nomatch held

/-- `t` comes of `s` by an operation that keeps the three laws; what awaits proof follows the law where the capacities
hold. -/
structure State.Keeps (s t : State) : Prop where
  bounded : s.Bounded → t.Bounded
  awaits : s.Bounded → AwaitingLaw s → AwaitingLaw t
  holds : HeldSyncLaw s → HeldSyncLaw t

theorem State.Keeps.refl {s : State} : s.Keeps s := ⟨id, fun _ => id, id⟩

theorem State.Keeps.trans {s t u : State} (hst : s.Keeps t) (htu : t.Keeps u) : s.Keeps u :=
  ⟨htu.bounded ∘ hst.bounded, fun h ha => htu.awaits (hst.bounded h) (hst.awaits h ha), htu.holds ∘ hst.holds⟩

theorem State.Keeps.after {s t u : State} (htu : t.Keeps u) (hst : s.Keeps t) : s.Keeps u := hst.trans htu

variable {s : State}

theorem State.withFront_keeps {f : Front} (hf : s.front.Bounded → f.Bounded) : s.Keeps (s.withFront f) :=
  ⟨fun h => ⟨hf h.front, ⟨h.desk.composer, h.desk.word, h.desk.store, h.desk.fits⟩,
    ⟨h.photo.imager, h.photo.proof, h.photo.log, h.photo.reply.congr rfl rfl⟩⟩, fun _ => id, id⟩

theorem State.post_keeps (e : Event) : s.Keeps (s.post e) :=
  ⟨fun h => ⟨h.front.congr rfl rfl rfl rfl, ⟨h.desk.composer, h.desk.word, h.desk.store, h.desk.fits⟩,
    ⟨h.photo.imager, h.photo.proof, h.photo.log, h.photo.reply.congr rfl rfl⟩⟩, fun _ => id, id⟩

theorem State.postWhen_keeps (c : Bool) (e : Event) : s.Keeps (s.postWhen c e) := by
  cases c
  · exact .refl
  · exact State.post_keeps e

theorem State.withTables_keeps (t : Tables) : s.Keeps (s.withTables t) :=
  ⟨fun h => ⟨h.front.congr rfl rfl rfl rfl, h.desk, h.photo⟩, fun _ => id, id⟩

theorem State.withDict_keeps (d : List DictEntry) : s.Keeps (s.withDict d) :=
  ⟨fun h => ⟨h.front, h.desk, h.photo⟩, fun _ => id, id⟩

theorem State.withPins_keeps (x : Pins) : s.Keeps (s.withPins x) :=
  ⟨fun h => ⟨h.front, h.desk, ⟨h.photo.imager, h.photo.proof, h.photo.log, h.photo.reply⟩⟩, fun _ => id, id⟩

theorem State.withFilm_keeps (x : Film) : s.Keeps (s.withFilm x) :=
  ⟨fun h => ⟨h.front, h.desk, ⟨h.photo.imager, h.photo.proof, h.photo.log, h.photo.reply⟩⟩, fun _ => id, id⟩

/-- A change of the source stack, the mode or READY. -/
theorem State.withIntake_keeps {k : Intake} (fifo : k.fifo = s.intake.fifo) (errors : k.errors = s.intake.errors)
    (sources : s.intake.sources.length ≤ 4 → k.sources.length ≤ 4) : s.Keeps (s.withIntake k) :=
  ⟨fun h => ⟨⟨fifo ▸ h.front.fifo, errors ▸ h.front.errors, sources h.front.sources, h.front.memory⟩, h.desk, h.photo⟩,
    fun _ => id, id⟩

theorem State.withFormats_keeps {fs : FormatStore} (memory : fs.memory.length ≤ s.formats.memory.length) :
    s.Keeps (s.withFormats fs) :=
  ⟨fun h => ⟨⟨h.front.fifo, h.front.errors, h.front.sources, memory.trans h.front.memory⟩, h.desk, h.photo⟩,
    fun _ => id, id⟩

theorem State.withFormats_withIntake_keeps {fs : FormatStore} {k : Intake}
    (memory : fs.memory.length ≤ s.formats.memory.length) (fifo : k.fifo = s.intake.fifo)
    (errors : k.errors = s.intake.errors) (sources : s.intake.sources.length ≤ 4 → k.sources.length ≤ 4) :
    s.Keeps ((s.withFormats fs).withIntake k) :=
  (State.withFormats_keeps memory).trans (State.withIntake_keeps fifo errors sources)

/-- A change of the Composer that leaves its word and its phase alone. -/
theorem State.withComposer_keeps {c : Composer} (hc : s.composer.Bounded → c.Bounded)
    (word : c.word.glyphs = s.composer.word.glyphs) (phase : c.phase = s.composer.phase) :
    s.Keeps (s.withComposer c) :=
  ⟨fun h => ⟨h.front, (h.desk.setComposer (hc h.desk.composer) word phase).bounded, h.photo⟩, fun _ => id, id⟩

theorem State.withParams_keeps (p : Params) : s.Keeps (s.withParams p) :=
  State.withComposer_keeps (fun h => h.congr rfl rfl rfl rfl) rfl rfl

/-- A change of the Proof Spooler's mode and policy. -/
theorem State.withProof_keeps {x : Proof} (queue : x.queue = s.proof.queue) (gap : x.gap = s.proof.gap)
    (printer : x.printer = s.proof.printer) : s.Keeps (s.withProof x) := by
  refine ⟨fun h => ⟨h.front, h.desk, ⟨h.photo.imager, ⟨queue ▸ h.photo.proof.queue, gap ▸ h.photo.proof.gap⟩,
    h.photo.log, h.photo.reply⟩⟩, fun _ ha hne => ?_, id⟩
  simpa [queue, printer] using ha hne

/-- A change of the Reply Unit that leaves the held item and the markers alone. -/
theorem State.withReply_keeps {r : ReplyUnit} (hr : s.reply.Bounded → r.Bounded) (held : r.held = s.reply.held)
    (markers : r.markers = s.reply.markers) : s.Keeps (s.withReply r) := by
  refine ⟨fun h => ⟨h.front.congr rfl rfl rfl rfl, ⟨h.desk.composer, h.desk.word, h.desk.store, h.desk.fits⟩,
    ⟨h.photo.imager, h.photo.proof, h.photo.log, hr h.photo.reply⟩⟩, fun _ => id, fun law token ht => ?_⟩
  simp only [State.withReply_reply, held, markers] at ht ⊢
  exact law token ht

/-! ### Steps of one view -/

theorem State.runOut_keeps : s.Keeps s.runOut := by
  unfold State.runOut
  split
  · exact .refl
  · exact State.withFront_keeps fun h => h.runOut

theorem State.onDesk_keeps {f : Tables → List DictEntry → Desk → Desk}
    (hf : s.desk.Bounded → s.desk.Keeps (f s.tables s.dict s.desk)) : s.Keeps (s.onDesk f) :=
  ⟨fun h => ⟨h.front.congr rfl rfl rfl rfl, (hf h.desk).bounded,
    ⟨h.photo.imager, h.photo.proof, h.photo.log, h.photo.reply.congr rfl rfl⟩⟩,
    fun h ha hne => ha ((hf h.desk).awaiting hne), id⟩

/-- The capacities on the photo unit's side do not ask for BUSY. -/
theorem State.Bounded.photoAt (h : s.Bounded) (busy : Bool) : (s.photo busy).Bounded :=
  ⟨h.photo.imager, h.photo.proof, h.photo.log, h.photo.reply⟩

/-- A photo unit's operation, before a held SYNC looks again: the Composer sees its slots alone. -/
theorem State.withPhoto_bounded {busy : Bool} {p : Photo} (hp : (s.photo busy).Keeps p) (h : s.Bounded) :
    (s.withPhoto p).Bounded :=
  have photo := hp.bounded (h.photoAt busy)
  ⟨h.front.congr rfl rfl rfl rfl,
    ⟨h.desk.composer, h.desk.word, h.desk.store.trims hp.trims, h.desk.fits.trims hp.trims⟩,
    ⟨photo.imager, photo.proof, photo.log, photo.reply⟩⟩

/-- A photo unit's operation that leaves the markers alone, or that is taken with nothing held. -/
theorem State.withPhoto_keeps {busy : Bool} {p : Photo} (hp : (s.photo busy).Keeps p)
    (free : s.reply.held = none ∨ p.reply.markers = s.reply.markers) : s.Keeps (s.withPhoto p) := by
  refine ⟨State.withPhoto_bounded hp, fun h => hp.awaits (h.photoAt busy), fun law => ?_⟩
  have held : p.reply.held = s.reply.held := hp.held
  rcases free with none | markers
  · exact heldSyncLaw_of_none (held.trans none)
  · intro token ht
    simp only [State.withPhoto_reply, held, markers] at ht ⊢
    exact law token ht

/-! ### The items of the Reply Unit (R10, R179, R182 to R184) -/

@[simp] theorem State.runOut_reply (s : State) : s.runOut.reply = s.reply := by
  obtain ⟨mode, sources, h⟩ := runOut_frame s
  rw [h]

theorem ReplyUnit.Bounded.mark {r : ReplyUnit} (h : r.Bounded) (place : r.markers.length < 4) (cts : Bool)
    (token : Word16) (line : Option Nat) (n : Nat) : (r.mark cts token line n).Bounded := by
  have marked : ReplyUnit.Bounded { r with markers := r.markers ++ [⟨token, line, n⟩] } :=
    ⟨h.queue, by simpa using place⟩
  exact marked.answerAll cts

/-- An item that can be taken is taken with nothing held (R10). -/
theorem State.takeReplyItem_held (h : HeldReply) : (s.takeReplyItem h).reply.held = s.reply.held := by
  cases h with
  | query => exact ReplyUnit.append_held _ _ _
  | events => exact ReplyUnit.append_held _ _ _
  | readLog n => exact ReplyUnit.append_held _ _ _
  | sync token => exact ReplyUnit.answerAll_held _ _

theorem State.takeReplyItem_bounded {h : HeldReply} (can : s.reply.canTake h = true) (hs : s.Bounded) :
    (s.takeReplyItem h).Bounded := by
  have reply := hs.photo.reply
  have withReply {r : ReplyUnit} (hr : r.Bounded) : (s.withReply r).Bounded :=
    ⟨hs.front.congr rfl rfl rfl rfl, ⟨hs.desk.composer, hs.desk.word, hs.desk.store, hs.desk.fits⟩,
      ⟨hs.photo.imager, hs.photo.proof, hs.photo.log, hr⟩⟩
  cases h with
  | query => exact withReply (reply.append (of_decide_eq_true can) _ _)
  | events => exact withReply ((reply.append (of_decide_eq_true can) _ _).congr rfl rfl)
  | readLog n =>
    have appended :=
      withReply (reply.append (of_decide_eq_true can) s.pins.cts (.log (s.log.oldest (s.log.readable n))))
    exact ⟨appended.front, appended.desk,
      ⟨hs.photo.imager, hs.photo.proof, hs.photo.log.advance _, appended.photo.reply⟩⟩
  | sync token => exact withReply (reply.mark (of_decide_eq_true can) _ _ _ _)

theorem State.takeReplyItem_awaits (h : HeldReply) : AwaitingLaw (s.takeReplyItem h) ↔ AwaitingLaw s := by
  cases h <;> exact Iff.rfl

theorem State.takeReplyItem_keeps {h : HeldReply} (can : s.reply.canTake h = true) (free : s.reply.held = none) :
    s.Keeps (s.takeReplyItem h) :=
  ⟨State.takeReplyItem_bounded can, fun _ => (State.takeReplyItem_awaits h).mpr,
    fun _ => heldSyncLaw_of_none ((State.takeReplyItem_held h).trans free)⟩

/-- The Reply Unit's held item set. -/
theorem State.hold_bounded (h : Option HeldReply) (hs : s.Bounded) : (s.withReply { s.reply with held := h }).Bounded :=
  ⟨hs.front.congr rfl rfl rfl rfl, ⟨hs.desk.composer, hs.desk.word, hs.desk.store, hs.desk.fits⟩,
    ⟨hs.photo.imager, hs.photo.proof, hs.photo.log, hs.photo.reply.congr rfl rfl⟩⟩

/-- An item is held only where it cannot be taken: a SYNC behind 4 markers (R10, R184). -/
theorem State.replyItem_keeps (h : HeldReply) (free : s.reply.held = none) : s.Keeps (s.replyItem h) := by
  unfold State.replyItem
  split
  · next can => exact State.takeReplyItem_keeps can free
  · next full =>
    refine ⟨State.hold_bounded _, fun _ => id, fun _ token held => ?_⟩
    obtain rfl : h = .sync token := Option.some.inj held
    exact Nat.not_lt.mp fun place => full (decide_eq_true place)

theorem State.retryHeld_bounded (hs : s.Bounded) : s.retryHeld.Bounded := by
  unfold State.retryHeld
  split
  · exact hs
  · split
    · next can => exact State.runOut_keeps.bounded (State.takeReplyItem_bounded can (State.hold_bounded _ hs))
    · exact hs

theorem State.retryHeld_awaits (h : AwaitingLaw s) : AwaitingLaw s.retryHeld := by
  have runOut {u : State} (hu : AwaitingLaw u) : AwaitingLaw u.runOut := by
    obtain ⟨mode, sources, e⟩ := runOut_frame u
    rw [e]
    exact hu
  unfold State.retryHeld
  split
  · exact h
  · split
    · exact runOut ((State.takeReplyItem_awaits _).mpr h)
    · exact h

/-- After it has looked again an item is held only where it still cannot be taken, whatever was held before. -/
theorem State.retryHeld_holds (s : State) : HeldSyncLaw s.retryHeld := by
  unfold State.retryHeld
  split
  · next none => exact heldSyncLaw_of_none none
  · next h held =>
    split
    · refine heldSyncLaw_of_none ?_
      rw [State.runOut_reply, State.takeReplyItem_held]
      rfl
    · next full =>
      intro token ht
      obtain rfl : h = .sync token := Option.some.inj (held.symm.trans ht)
      exact Nat.not_lt.mp fun place => full (decide_eq_true place)

/-- Looking again for a SYNC alone: nothing, or the held item's look. -/
theorem State.retrySync_cases (s : State) :
    (s.retrySync = s ∧ ∀ token, s.reply.held ≠ some (.sync token)) ∨ s.retrySync = s.retryHeld := by
  unfold State.retrySync
  split
  · exact .inr rfl
  · next other => exact .inl ⟨rfl, other⟩

theorem State.retrySync_holds (s : State) : HeldSyncLaw s.retrySync := by
  rcases s.retrySync_cases with ⟨same, other⟩ | looks
  · rw [same]; exact fun token ht => absurd ht (other token)
  · rw [looks]; exact s.retryHeld_holds

/-- A photo unit's step in the whole part. -/
theorem State.onPhoto_keeps {busy : Bool} {f : Photo → Photo} (hf : (s.photo busy).Keeps (f (s.photo busy))) :
    s.Keeps (s.onPhoto busy f) := by
  refine ⟨fun h => ?_, fun h ha => ?_, fun _ => State.retrySync_holds _⟩
  · unfold State.onPhoto
    have photo := State.withPhoto_bounded hf h
    rcases (s.withPhoto (f (s.photo busy))).retrySync_cases with ⟨same, -⟩ | looks
    · rw [same]; exact photo
    · rw [looks]; exact State.retryHeld_bounded photo
  · unfold State.onPhoto
    have photo : AwaitingLaw (s.withPhoto (f (s.photo busy))) := hf.awaits (h.photoAt busy) ha
    rcases (s.withPhoto (f (s.photo busy))).retrySync_cases with ⟨same, -⟩ | looks
    · rw [same]; exact photo
    · rw [looks]; exact State.retryHeld_awaits photo

/-! ### The return link (R186) -/

theorem ReplyUnit.Bounded.sent {r : ReplyUnit} (h : r.Bounded) (cts : Bool) : (r.sent cts).Bounded := by
  obtain ⟨n, e⟩ := ReplyUnit.link_frame { r with queue := r.queue.tail, begun := 0 } cts
  unfold ReplyUnit.sent
  rw [e]
  exact ⟨by simpa using h.queue.trans (Nat.le_succ 8), h.markers⟩

theorem ReplyUnit.sent_held (r : ReplyUnit) (cts : Bool) :
    (r.sent cts).held = r.held ∧ (r.sent cts).markers = r.markers := by
  obtain ⟨n, e⟩ := ReplyUnit.link_frame { r with queue := r.queue.tail, begun := 0 } cts
  unfold ReplyUnit.sent
  rw [e]
  exact ⟨rfl, rfl⟩

theorem State.retryHeld_keeps : s.Keeps s.retryHeld :=
  ⟨State.retryHeld_bounded, fun _ => State.retryHeld_awaits, fun _ => s.retryHeld_holds⟩

theorem State.recordSent_keeps (heldFirst : Bool) : s.Keeps (s.recordSent heldFirst) := by
  unfold State.recordSent
  split
  · obtain ⟨held, markers⟩ := s.reply.sent_held s.pins.cts
    have sent : s.Keeps (s.withReply (s.reply.sent s.pins.cts)) :=
      State.withReply_keeps (fun h => h.sent _) held markers
    dsimp only
    split
    · exact sent.trans State.retryHeld_keeps
    · exact sent
  · exact .refl

/-- An answer appended frees a marker's place, and the held item looks again. -/
theorem State.answerWaiting_keeps : s.Keeps s.answerWaiting := by
  unfold State.answerWaiting
  split
  · have answered (h : s.Bounded) : (s.withReply (s.reply.answerOne s.pins.cts)).Bounded := by
      obtain ⟨queue, markers⟩ := ReplyUnit.answer_length (r := s.reply) s.pins.cts 1 h.photo.reply.queue
      exact ⟨h.front.congr rfl rfl rfl rfl, ⟨h.desk.composer, h.desk.word, h.desk.store, h.desk.fits⟩,
        ⟨h.photo.imager, h.photo.proof, h.photo.log, ⟨queue, markers.trans h.photo.reply.markers⟩⟩⟩
    exact ⟨fun h => State.retryHeld_bounded (answered h), fun _ ha => State.retryHeld_awaits ha,
      fun _ => State.retryHeld_holds _⟩
  · exact .refl

theorem State.setClearToSend_keeps (level : Bool) (bytes : Nat) : s.Keeps (s.setClearToSend level bytes) := by
  unfold State.setClearToSend
  split
  · exact .refl
  · refine (State.withPins_keeps _).trans (State.withReply_keeps ?_ ?_ ?_)
    · cases level
      · exact fun h => h.congr rfl rfl
      · exact fun h => h.congr rfl rfl
    · cases level <;> rfl
    · cases level <;> rfl

/-! ### Delivery (R10, R19) -/

/-- The parser's take leaves nothing held. -/
theorem takes_held {c : Instr} {s u : State} (h : Takes c s u) : u.reply.held = none := by
  have free := takes_not_holding h
  simp only [State.holding, Bool.or_eq_false_iff] at free
  simpa using free.2

theorem takes_keeps {c : Instr} {s u : State} (h : Takes c s u) : s.Keeps u := by
  obtain ⟨-, f, take, rfl⟩ := takes_frame h
  refine State.withFront_keeps fun bounded => ?_
  have taken := bounded.take
  rw [take] at taken
  exact taken

/-- A delivery keeps the laws where its owner, with nothing held, does. -/
theorem deliver_keeps {c : Instr} {owner : State → State} {s t : State} (h : deliver c owner s = .next t)
    (howner : ∀ u : State, u.reply.held = none → u.Keeps (owner u)) : s.Keeps t := by
  rcases deliver_cases c owner s with same | ⟨u, takes, delivered⟩
  · rw [same] at h
    cases h
    exact .refl
  · rw [delivered] at h
    cases h
    exact ((takes_keeps takes).trans (howner u (takes_held takes))).trans State.runOut_keeps

/-- A step that is not an item's. -/
theorem next_keeps {s t u : State} (h : (.next u : StepResult) = .next t) (hu : s.Keeps u) : s.Keeps t := by
  cases h
  exact hu

/-! ### The owners of the items -/

theorem State.takeFont_keeps (f : Nat) : s.Keeps (s.takeFont f) := by
  unfold State.takeFont
  split
  · exact State.withParams_keeps _
  · exact State.post_keeps _

theorem State.takeMeasure_keeps (p : Params) (out : Bool) : s.Keeps (s.takeMeasure p out) :=
  (State.postWhen_keeps _ _).after (State.withParams_keeps _)

theorem State.takeSpaceband_keeps (lo mid hi : Nat) (out : Bool) : s.Keeps (s.takeSpaceband lo mid hi out) :=
  (State.postWhen_keeps _ _).after (State.withParams_keeps _)

/-- A frame is pushed only below the 8 that the stack holds (R32, R33). -/
theorem State.takeSave_keeps (mask : Byte) : s.Keeps (s.takeSave mask) := by
  unfold State.takeSave
  split
  · next room => exact State.withComposer_keeps (fun h => ⟨room, h.ladder, h.above, h.below, h.counter⟩) rfl rfl
  · exact State.post_keeps _

theorem State.takeRestore_keeps (mask : Byte) : s.Keeps (s.takeRestore mask) := by
  unfold State.takeRestore
  split
  · exact State.post_keeps _
  · next f rest stack =>
    refine (State.postWhen_keeps _ _).after (State.withComposer_keeps (fun h => ?_) rfl rfl)
    have pushed := h.stack
    rw [stack] at pushed
    exact ⟨Nat.le_of_succ_le pushed, h.ladder, h.above, h.below, h.counter⟩

theorem State.takeDefine_keeps (n : Nat) (nestable : Bool) : s.Keeps (s.takeDefine n nestable) := by
  unfold State.takeDefine
  split
  · exact State.withFormats_withIntake_keeps (FormatStore.free_memory_length _ n) rfl rfl id
  · exact (State.post_keeps _).after (State.withIntake_keeps rfl rfl id)

theorem State.takeEndDefine_keeps : s.Keeps s.takeEndDefine := by
  unfold State.takeEndDefine
  split
  · exact State.post_keeps _
  · exact State.withIntake_keeps rfl rfl id
  · dsimp only
    split
    · exact State.withFormats_withIntake_keeps (Nat.le_refl _) rfl rfl id
    · exact (State.post_keeps _).after (State.withFormats_withIntake_keeps (List.length_take_le' _ _) rfl rfl id)

/-- A format is entered only above fewer than the 4 that run at most (R18). -/
theorem State.takeCall_keeps (n : Nat) : s.Keeps (s.takeCall n) := by
  unfold State.takeCall
  split
  · next accepted =>
    refine State.withIntake_keeps rfl rfl fun _ => ?_
    unfold State.callAccepted at accepted
    split at accepted
    · exact nomatch accepted
    · simp only [Bool.and_eq_true, decide_eq_true_eq] at accepted
      exact accepted.1.2
  · exact State.post_keeps _

theorem State.takeLock_keeps (ident : Byte) : s.Keeps (s.takeLock ident) := by
  unfold State.takeLock
  split
  · exact State.post_keeps _
  · exact State.withTables_keeps _

theorem State.refuseLoad_keeps (r : Reason) : s.Keeps (s.refuseLoad r) :=
  (State.withTables_keeps _).trans (State.post_keeps _)

theorem State.commitLoad_keeps (tab : Table) (b : LoadBlock) : s.Keeps (s.commitLoad tab b) :=
  (State.withTables_keeps _).trans (State.postWhen_keeps _ _)

theorem State.takeLensLoad_keeps (b : LoadBlock) : s.Keeps (s.takeLensLoad b) := by
  unfold State.takeLensLoad
  split
  · exact State.refuseLoad_keeps _
  · split
    · exact State.withTables_keeps _
    · exact State.commitLoad_keeps _ b

theorem State.takeLoad_keeps (b : LoadBlock) : s.Keeps (s.takeLoad b) := by
  unfold State.takeLoad
  refine (State.postWhen_keeps b.directionOut .parameterClamped).trans ?_
  dsimp only
  split
  · exact State.refuseLoad_keeps _
  · split
    · exact State.takeLensLoad_keeps b
    · exact State.commitLoad_keeps _ b
    · exact .refl

theorem State.endLensWait_keeps (b : LoadBlock) : s.Keeps (s.endLensWait b) := by
  unfold State.endLensWait
  extract_lets _ u
  have ended : State.Keeps s u := State.withTables_keeps _
  split
  · exact ended.trans (State.commitLoad_keeps _ b)
  · exact ended.trans (State.refuseLoad_keeps _)

theorem State.takeDictAdd_keeps (codes : List Byte) : s.Keeps (s.takeDictAdd codes) := by
  unfold State.takeDictAdd
  split
  · exact State.post_keeps _
  · split
    · exact State.post_keeps _
    · dsimp only
      split
      · exact State.withDict_keeps _
      · exact State.post_keeps _

theorem State.takeDictDelete_keeps (codes : List Byte) : s.Keeps (s.takeDictDelete codes) := by
  unfold State.takeDictDelete
  split
  · exact State.post_keeps _
  · dsimp only
    split
    · exact State.withDict_keeps _
    · exact .refl

theorem State.takeDictClear_keeps : s.Keeps s.takeDictClear := by
  unfold State.takeDictClear
  split
  · exact State.post_keeps _
  · exact State.withDict_keeps _

/-! ### Commands that are no item -/

/-- The Imager's start posts at most COVER OPEN: it leaves the markers alone. -/
theorem Photo.start_markers (p : Photo) (detent : Bool) : (p.start detent).reply.markers = p.reply.markers := by
  unfold Photo.start
  split <;> rfl

theorem execParserTake_keeps {t : State} (h : execParserTake s = .next t) : s.Keeps t := by
  unfold execParserTake State.offer at h
  split at h
  · next u quiet =>
    cases h
    refine State.runOut_keeps.after ?_
    split at quiet
    · exact nomatch quiet
    · split at quiet
      · exact nomatch quiet
      · next f take =>
        cases quiet
        refine State.withFront_keeps fun bounded => ?_
        have taken := bounded.take
        rw [take] at taken
        exact taken
      · exact nomatch quiet
  · exact next_keeps h .refl

theorem execWaitSlotResume_keeps {t : State} (h : execWaitSlotResume s = .next t) : s.Keeps t := by
  unfold execWaitSlotResume at h
  split at h
  · split at h
    · exact next_keeps h (State.runOut_keeps.after (State.onDesk_keeps fun h => h.resume _ _))
    · exact next_keeps h .refl
  · exact next_keeps h .refl

theorem execLensCommitAfterWait_keeps {t : State} (h : execLensCommitAfterWait s = .next t) : s.Keeps t := by
  unfold execLensCommitAfterWait at h
  split at h
  · next b _ =>
    split at h
    · exact next_keeps h (State.runOut_keeps.after (State.endLensWait_keeps b))
    · exact next_keeps h .refl
  · exact next_keeps h .refl

theorem execResetEnd_keeps {detent : Bool} {t : State} (h : execResetEnd detent s = .next t) : s.Keeps t := by
  unfold execResetEnd at h
  split at h
  · refine next_keeps h ((State.withPhoto_keeps (Photo.start_keeps detent) (.inr (Photo.start_markers _ _))).after ?_)
    exact (State.withPins_keeps _).trans (State.withIntake_keeps rfl rfl id)
  · exact next_keeps h .refl

theorem execFrameReceived_keeps {data : Byte} {parity stop : Bool} {t : State}
    (h : execFrameReceived data parity stop s = .next t) : s.Keeps t := by
  unfold execFrameReceived at h
  split at h
  · exact next_keeps h .refl
  · exact next_keeps h (State.withFront_keeps fun h => h.frame data parity stop)

/-- A switch of the cassette: under RESET Film Transport's reset state, otherwise its operation. -/
theorem State.filmEvent_keeps (busy : Bool) (f : Film → FilmResult) : s.Keeps (s.filmEvent busy f) :=
  State.onPhoto_keeps (Photo.runFilm_keeps _)

theorem execCassetteRemoved_keeps {busy : Bool} {t : State} (h : execCassetteRemoved s busy = .next t) :
    s.Keeps t := by
  unfold execCassetteRemoved at h
  dsimp only at h
  split at h
  · split at h
    · exact next_keeps h ((State.withFilm_keeps _).after (State.withPins_keeps _))
    · exact next_keeps h ((State.filmEvent_keeps _ _).after (State.withPins_keeps _))
  · exact next_keeps h .refl

theorem execCassetteInserted_keeps {busy : Bool} {t : State} (h : execCassetteInserted s busy = .next t) :
    s.Keeps t := by
  unfold execCassetteInserted at h
  dsimp only at h
  split at h
  · exact next_keeps h .refl
  · split at h
    · exact next_keeps h ((State.withFilm_keeps _).after (State.withPins_keeps _))
    · exact next_keeps h ((State.filmEvent_keeps _ _).after (State.withPins_keeps _))

theorem execCoverOpens_keeps {t : State} (h : execCoverOpens s = .next t) : s.Keeps t := by
  unfold execCoverOpens at h
  dsimp only at h
  split at h
  · exact next_keeps h .refl
  · split at h
    · exact next_keeps h (State.withPins_keeps _)
    · exact next_keeps h ((State.onPhoto_keeps Photo.coverOpens_keeps).after (State.withPins_keeps _))

theorem execCoverCloses_keeps {detent busy : Bool} {t : State} (h : execCoverCloses detent s busy = .next t) :
    s.Keeps t := by
  unfold execCoverCloses at h
  dsimp only at h
  split at h
  · split at h
    · exact next_keeps h (State.withPins_keeps _)
    · exact next_keeps h ((State.onPhoto_keeps (Photo.coverCloses_keeps _)).after (State.withPins_keeps _))
  · exact next_keeps h .refl

/-! ### Every command -/

/-- What a command keeps. A switch event under RESET gives the Proof Spooler its reset state: that no slot awaits proof
then is for the reset state to say. -/
structure State.KeepsLaws (s t : State) : Prop where
  bounded : s.Bounded → t.Bounded
  awaits : ResetLaw s → s.Bounded → AwaitingLaw s → AwaitingLaw t
  holds : HeldSyncLaw s → HeldSyncLaw t

theorem State.Keeps.laws {s t : State} (h : s.Keeps t) : s.KeepsLaws t := ⟨h.bounded, fun _ => h.awaits, h.holds⟩

theorem deliver_laws {c : Instr} {owner : State → State} {s t : State} (h : deliver c owner s = .next t)
    (howner : ∀ u : State, u.reply.held = none → u.Keeps (owner u)) : s.KeepsLaws t :=
  (deliver_keeps h howner).laws

theorem next_laws {s t u : State} (h : (.next u : StepResult) = .next t) (hu : s.Keeps u) : s.KeepsLaws t :=
  (next_keeps h hu).laws

@[simp] theorem State.postWhen_held (s : State) (c : Bool) (e : Event) :
    (s.postWhen c e).reply.held = s.reply.held := by
  cases c <;> rfl

/-- In the reset state the capacities hold. -/
theorem resetWith_bounded (pins : Pins) : (State.resetWith pins).Bounded := by
  have records : Store.reset.Bounded := by
    intro i
    have blank : Store.reset.record i = .blank := by
      unfold Store.record Store.slot Store.reset tabGet
      by_cases hi : i < 8
      · simp [hi]
      · simp [hi]
    rw [blank]
    exact LineRecord.blank_bounded
  refine ⟨⟨Nat.zero_le _, Nat.zero_le _, Nat.zero_le _, Nat.zero_le _⟩, .ofNoWord rfl ⟨Nat.zero_le _, Nat.zero_le _,
    neg_nonpos.mpr (by decide), Int.zero_le_ofNat _, Nat.zero_lt_succ _⟩ records rfl, ?_⟩
  exact ⟨⟨Nat.zero_le _, Nat.zero_lt_succ _, nofun⟩, ⟨Nat.zero_le _, Nat.zero_le _⟩,
    ⟨Nat.zero_le _, Nat.zero_lt_succ _, Nat.zero_lt_succ _⟩, ⟨Nat.zero_le _, Nat.zero_le _⟩⟩

theorem execReset_laws {t : State} (h : execReset s = .next t) : s.KeepsLaws t := by
  unfold execReset at h
  cases h
  have reset := resetWith_bounded { s.pins with resetLine := true }
  exact ⟨fun _ => ⟨reset.front, reset.desk, reset.photo⟩, fun _ _ _ hne => absurd rfl hne,
    fun _ => heldSyncLaw_of_none rfl⟩

/-- The Proof Spooler put into its reset state while RESET is asserted: no slot awaits proof then. -/
theorem State.proofReset_laws {pins x : Pins} (under : s.pins.resetLine = true) :
    s.KeepsLaws ((s.withPins pins).withProof (.reset x)) := by
  refine ⟨fun h => ⟨h.front, h.desk, ⟨h.photo.imager, ⟨Nat.zero_le _, Nat.zero_le _⟩, h.photo.log, h.photo.reply⟩⟩,
    fun law _ _ hne => ?_, id⟩
  have none : s.store.awaiting = [] := by rw [law under]; rfl
  exact absurd none hne

theorem execSelectInactive_laws {t : State} (h : execSelectInactive s = .next t) : s.KeepsLaws t := by
  unfold execSelectInactive at h
  dsimp only at h
  split at h
  · split at h
    · next under => cases h; exact State.proofReset_laws under
    · exact next_laws h ((State.onPhoto_keeps Photo.deselect_keeps).after (State.withPins_keeps _))
  · exact next_laws h .refl

theorem execSelectActive_laws {busy : Bool} {t : State} (h : execSelectActive busy s = .next t) : s.KeepsLaws t := by
  unfold execSelectActive at h
  dsimp only at h
  split at h
  · exact next_laws h .refl
  · split at h
    · next under => cases h; exact State.proofReset_laws under
    · exact next_laws h ((State.onPhoto_keeps Photo.reselect_keeps).after (State.withPins_keeps _))

theorem exec_keepsLaws {c : Instr} {t : State} (h : exec c s = .next t) : s.KeepsLaws t := by
  cases c with
  | reset => exact execReset_laws h
  | selectInactive => exact execSelectInactive_laws h
  | selectActive busy => exact execSelectActive_laws h
  | resetEnd detent => exact (execResetEnd_keeps h).laws
  | frameReceived data parity stop => exact (execFrameReceived_keeps h).laws
  | parserTake => exact (execParserTake_keeps h).laws
  | textCode c =>
    exact deliver_laws h fun u _ => State.onDesk_keeps fun hu => hu.whenSettable _ (hu.takeGlyph _ _ _ _)
  | interwordSpace =>
    exact deliver_laws h fun u _ => State.onDesk_keeps fun hu => hu.whenSettable _ (hu.takeEnding _ _ _)
  | damagedCode =>
    exact deliver_laws h fun u _ => State.onDesk_keeps fun hu => hu.whenSettable _ (hu.takeGlyph _ _ _ _)
  | thinSpace =>
    exact deliver_laws h fun u _ => State.onDesk_keeps fun hu => hu.whenSettable _ (hu.takeEnding _ _ _)
  | enSpace =>
    exact deliver_laws h fun u _ => State.onDesk_keeps fun hu => hu.whenSettable _ (hu.takeEnding _ _ _)
  | emSpace =>
    exact deliver_laws h fun u _ => State.onDesk_keeps fun hu => hu.whenSettable _ (hu.takeEnding _ _ _)
  | discretionaryHyphen => exact deliver_laws h fun u _ => State.onDesk_keeps fun hu => hu.markDiscretionary
  | noHyphenate =>
    exact deliver_laws h fun u _ => State.withComposer_keeps (fun hc => hc.congr rfl rfl rfl rfl) rfl rfl
  | noBreakSpace =>
    exact deliver_laws h fun u _ => State.onDesk_keeps fun hu => hu.whenSettable _ (hu.takeEnding _ _ _)
  | killLine => exact deliver_laws h fun u _ => State.onDesk_keeps fun hu => hu.killLine
  | endLine => exact deliver_laws h fun u _ => State.onDesk_keeps fun hu => hu.takeEnding _ _ _
  | endPara => exact deliver_laws h fun u _ => State.onDesk_keeps fun hu => hu.takeEnding _ _ _
  | font number => exact deliver_laws h fun u _ => (State.takeFont_keeps _).trans (State.postWhen_keeps _ _)
  | size halfPoints =>
    exact deliver_laws h fun u _ => (State.postWhen_keeps _ _).after (State.withParams_keeps _)
  | lead halfPoints =>
    exact deliver_laws h fun u _ => (State.postWhen_keeps _ _).after (State.withParams_keeps _)
  | measure halfPoints => exact deliver_laws h fun u _ => State.takeMeasure_keeps _ _
  | indent left right => exact deliver_laws h fun u _ => State.takeMeasure_keeps _ _
  | quad mode lastLine =>
    exact deliver_laws h fun u _ => (State.postWhen_keeps _ _).after (State.withParams_keeps _)
  | spaceband minimum normal maximum => exact deliver_laws h fun u _ => State.takeSpaceband_keeps _ _ _ _
  | track units => exact deliver_laws h fun u _ => (State.postWhen_keeps _ _).after (State.withParams_keeps _)
  | letterspace steps =>
    exact deliver_laws h fun u _ => (State.postWhen_keeps _ _).after (State.withParams_keeps _)
  | kerning switch => exact deliver_laws h fun u _ => State.withParams_keeps _
  | manualKern units =>
    exact deliver_laws h fun u _ =>
      (State.postWhen_keeps _ _).after (State.withComposer_keeps (fun hc => hc.congr rfl rfl rfl rfl) rfl rfl)
  | hyphenation switch threshold =>
    exact deliver_laws h fun u _ => (State.postWhen_keeps _ _).after (State.withParams_keeps _)
  | hyphenLimits left right ladder capitals =>
    exact deliver_laws h fun u _ => (State.postWhen_keeps _ _).after (State.withParams_keeps _)
  | advance halfPoints =>
    exact deliver_laws h fun u _ => (State.postWhen_keeps _ _).after (State.onDesk_keeps fun hu => hu.adjustFilm _)
  | reverse halfPoints =>
    exact deliver_laws h fun u _ => (State.postWhen_keeps _ _).after (State.onDesk_keeps fun hu => hu.adjustFilm _)
  | columnMark =>
    exact deliver_laws h fun u _ => State.withComposer_keeps (fun hc => hc.congr rfl rfl rfl rfl) rfl rfl
  | cut => exact deliver_laws h fun u _ => State.onDesk_keeps fun hu => hu.takeEnding _ _ _
  | cassette points busy =>
    refine deliver_laws h fun u free =>
      (State.postWhen_keeps _ _).trans (State.withPhoto_keeps (Photo.runFilm_keeps _) (.inl ?_))
    rw [State.postWhen_held, free]
  | stopDisc => exact deliver_laws h fun u _ => State.onDesk_keeps fun hu => hu.takeEnding _ _ _
  | save mask => exact deliver_laws h fun u _ => State.takeSave_keeps mask
  | restore mask => exact deliver_laws h fun u _ => State.takeRestore_keeps mask
  | define number nestable => exact deliver_laws h fun u _ => State.takeDefine_keeps _ _
  | endDefine => exact deliver_laws h fun u _ => State.takeEndDefine_keeps
  | call number => exact deliver_laws h fun u _ => State.takeCall_keeps _
  | load ident start count direction sum => exact deliver_laws h fun u _ => State.takeLoad_keeps _
  | lock ident => exact deliver_laws h fun u _ => State.takeLock_keeps ident
  | dictAdd codes => exact deliver_laws h fun u _ => State.takeDictAdd_keeps codes
  | dictDelete codes => exact deliver_laws h fun u _ => State.takeDictDelete_keeps codes
  | dictClear => exact deliver_laws h fun u _ => State.takeDictClear_keeps
  | proof mode policy =>
    exact deliver_laws h fun u _ => (State.postWhen_keeps _ _).after (State.withProof_keeps rfl rfl rfl)
  | lamp window most =>
    exact deliver_laws h fun u _ =>
      (State.postWhen_keeps _ _).after (State.withPhoto_keeps (Photo.takeLamp_keeps _ _) (.inr rfl))
  | query => exact deliver_laws h fun u free => State.replyItem_keeps _ free
  | events => exact deliver_laws h fun u free => State.replyItem_keeps _ free
  | mask set => exact deliver_laws h fun u _ => State.withReply_keeps (fun hr => hr.congr rfl rfl) rfl rfl
  | readLog count =>
    refine deliver_laws h fun u free => (State.postWhen_keeps _ _).trans (State.replyItem_keeps _ ?_)
    rw [State.postWhen_held, free]
  | sync token => exact deliver_laws h fun u free => State.replyItem_keeps _ free
  | clear => exact deliver_laws h fun u _ => State.onDesk_keeps fun hu => hu.clear
  | waitSlotResume => exact (execWaitSlotResume_keeps h).laws
  | lensCommitAfterWait => exact (execLensCommitAfterWait_keeps h).laws
  | takeLine busy => exact next_laws h (State.onPhoto_keeps Photo.takeLine_keeps)
  | turretStepDone detent busy => exact next_laws h (State.onPhoto_keeps (Photo.turretSteps_keeps _))
  | turretStepTimeout busy => exact next_laws h (State.onPhoto_keeps (Photo.expire_keeps _ _))
  | carriageArrival busy => exact next_laws h (State.onPhoto_keeps Photo.carriageArrives_keeps)
  | carriageTimeout busy => exact next_laws h (State.onPhoto_keeps (Photo.expire_keeps _ _))
  | ringSettleExpiry => exact next_laws h (State.onPhoto_keeps Photo.ringSettles_keeps)
  | sectorEvent sector busy => exact next_laws h (State.onPhoto_keeps (Photo.sectorEvent_keeps _))
  | indexEvent identity busy => exact next_laws h (State.onPhoto_keeps (Photo.indexEvent_keeps _))
  | spinUpTimeout busy => exact next_laws h (State.onPhoto_keeps (Photo.expire_keeps _ _))
  | sectorGapTimeout busy => exact next_laws h (State.onPhoto_keeps (Photo.expire_keeps _ _))
  | recheckTimeout busy => exact next_laws h (State.onPhoto_keeps (Photo.expire_keeps _ _))
  | flashConfirm busy => exact next_laws h (State.onPhoto_keeps Photo.confirm_keeps)
  | coverOpens => exact (execCoverOpens_keeps h).laws
  | coverCloses detent busy => exact (execCoverCloses_keeps h).laws
  | filmArrival busy => exact next_laws h (State.filmEvent_keeps _ _)
  | filmMoveTimeout busy => exact next_laws h (State.filmEvent_keeps _ _)
  | cutterDone busy => exact next_laws h (State.filmEvent_keeps _ _)
  | cutterTimeout busy => exact next_laws h (State.filmEvent_keeps _ _)
  | cassetteRemoved busy => exact (execCassetteRemoved_keeps h).laws
  | cassetteInserted busy => exact (execCassetteInserted_keeps h).laws
  | busyInactive => exact next_laws h (State.onPhoto_keeps Photo.notBusy_keeps)
  | busyTimeout => exact next_laws h (State.onPhoto_keeps Photo.busyExpires_keeps)
  | ack busy => exact next_laws h (State.onPhoto_keeps Photo.accept_keeps)
  | ackTimeout => exact next_laws h (State.onPhoto_keeps Photo.ackExpires_keeps)
  | clearToSend asserted bytes => exact next_laws h (State.setClearToSend_keeps _ _)
  | replyRecordSent heldFirst => exact next_laws h (State.recordSent_keeps _)
  | syncAnswer => exact next_laws h State.answerWaiting_keeps
  | serviceSwitchChange on => exact next_laws h (State.withPins_keeps _)

/-! ### The step -/

/-- The queue of commands is no part of the laws. -/
theorem State.withQueue_keeps (q : List Instr) : s.Keeps (s.withQueue q) :=
  ⟨fun h => ⟨h.front, h.desk, h.photo⟩, fun _ => id, id⟩

theorem withQueue_resetLaw (h : ResetLaw s) (q : List Instr) : ResetLaw (s.withQueue q) := by
  intro under
  change { s with pending := q } = _
  rw [h under]
  rfl

/-- A step is the front command's, or none on an empty queue. -/
theorem step_cases {t : State} (h : step s = .next t) :
    t = s ∨ ∃ c rest, s.pending = c :: rest ∧ exec c (s.withQueue rest) = .next t := by
  unfold step at h
  split at h
  · cases h; exact .inl rfl
  · next c rest queue => exact .inr ⟨c, rest, queue, h⟩

theorem step_keepsLaws {t : State} (h : step s = .next t) : s.KeepsLaws t := by
  rcases step_cases h with rfl | ⟨c, rest, -, run⟩
  · exact State.Keeps.refl.laws
  · have queue : s.Keeps (s.withQueue rest) := State.withQueue_keeps rest
    have laws := exec_keepsLaws run
    exact ⟨laws.bounded ∘ queue.bounded, fun law h ha => laws.awaits (withQueue_resetLaw law rest) (queue.bounded h) ha,
      laws.holds⟩

/-! ### The obligations -/

/-- Settles O54: every command keeps the share of each view of the part. -/
theorem everyStepKeepsTheCapacities : Obligations.EveryStepKeepsTheCapacities := by
  intro s t law h
  exact (capacityLaw_iff t).mpr ((step_keepsLaws h).bounded ((capacityLaw_iff s).mp law))

/-- Settles O58: the proof decision, the printer and the markers keep what waits for them. -/
theorem everyStepKeepsTheHolds : Obligations.EveryStepKeepsTheHolds := by
  intro s t h
  have laws := step_keepsLaws h
  exact ⟨fun reset capacity => laws.awaits reset ((capacityLaw_iff s).mp capacity), laws.holds⟩

end Sys2Proof.Machine
end

section
/-! PROOFS. The typographic commands (`TypographicCommandsSetTheirParameters`): the clamps of R11 as minimum and
maximum, the tests for a value out of its range as decisions, and the selectors of R12. -/

namespace Sys2Proof.Machine

open Sys2Proof Sys2Proof.Safety

/-! ### Clamps and range tests (R11) -/

theorem clampNat_eq {lo hi : Nat} (h : lo ≤ hi) (v : Nat) : clampNat lo hi v = max lo (min hi v) := by
  unfold clampNat
  split
  · omega
  · split <;> omega

theorem clampNat_zero (hi v : Nat) : clampNat 0 hi v = min hi v := by
  rw [clampNat_eq (Nat.zero_le hi), Nat.zero_max]

theorem clampInt_eq {lo hi : Int} (h : lo ≤ hi) (v : Int) : clampInt lo hi v = max lo (min hi v) := by
  unfold clampInt
  split
  · omega
  · split <;> omega

theorem natOut_eq (lo hi v : Nat) : natOut lo hi v = !decide (lo ≤ v ∧ v ≤ hi) := by
  simp only [natOut, Bool.decide_and, Bool.not_and, ← decide_not, Nat.not_le]

theorem natOut_zero (hi v : Nat) : natOut 0 hi v = !decide (v ≤ hi) := by
  simp [natOut_eq]

theorem intOut_eq (lo hi v : Int) : intOut lo hi v = !decide (lo ≤ v ∧ v ≤ hi) := by
  simp only [intOut, Bool.decide_and, Bool.not_and, ← decide_not, Int.not_le]

theorem selectorOut_eq (highest : Nat) (b : Byte) : selectorOut highest b = !decide (b.toNat ≤ highest) := by
  simp only [selectorOut, ← decide_not, Nat.not_le]

/-- The quad mode a byte selects, by the four values of section 2.1 and those above them (R12). -/
theorem quadOf_eq {b : Byte} {q : Quad} (justify : b = 0 → q = .justify) (left : b = 1 → q = .left)
    (right : b = 2 → q = .right) (centre : b = 3 → q = .centre) (above : 3 < b.toNat → q = .justify) :
    quadOf b = q := by
  unfold quadOf
  split_ifs with h1 h2 h3
  · exact (left h1).symm
  · exact (right h2).symm
  · exact (centre h3).symm
  · by_cases h0 : b = 0
    · exact (justify h0).symm
    · exact (above (by bv_omega)).symm

/-! ### The commands -/

/-- Settles O10: each command's owner sets its values by the clamps above and posts by the range tests. -/
theorem typographicCommandsSetTheirParameters : Obligations.TypographicCommandsSetTheirParameters := by
  unfold Obligations.TypographicCommandsSetTheirParameters
  intro s u
  refine ⟨fun h takes => ?_, fun n takes => ?_, fun n takes => ?_, fun n takes => ?_, fun n takes => ?_,
    fun k takes => ?_, fun k n takes => ?_, fun l r d k takes => ?_, ?_⟩
  · calc exec (.size h) s = _ := deliver_of_takes takes _
      _ = _ := by rw [clampNat_eq (by decide), natOut_eq, postWhen_clamped]; rfl
  · calc exec (.lead n) s = _ := deliver_of_takes takes _
      _ = _ := by rw [clampNat_zero, natOut_zero, postWhen_clamped]; rfl
  · calc exec (.letterspace n) s = _ := deliver_of_takes takes _
      _ = _ := by rw [clampNat_zero, natOut_zero, postWhen_clamped]; rfl
  · calc exec (.track n) s = _ := deliver_of_takes takes _
      _ = _ := by rw [clampInt_eq (by decide), intOut_eq, postWhen_clamped]; rfl
  · calc exec (.manualKern n) s = _ := deliver_of_takes takes _
      _ = _ := by rw [clampInt_eq (by decide), intOut_eq, postWhen_clamped]; rfl
  · exact deliver_of_takes takes _
  · calc exec (.hyphenation k n) s = _ := deliver_of_takes takes _
      _ = _ := by rw [clampNat_eq (by decide), natOut_eq, postWhen_clamped]; rfl
  · have inside : (natOut 1 7 l.toNat || natOut 1 7 r.toNat || natOut 0 7 d.toNat) =
        !decide (1 ≤ l.toNat ∧ l.toNat ≤ 7 ∧ 1 ≤ r.toNat ∧ r.toNat ≤ 7 ∧ d.toNat ≤ 7) := by
      simp [natOut_eq, Bool.or_assoc]
    calc exec (.hyphenLimits l r d k) s = _ := deliver_of_takes takes _
      _ = _ := by
        rw [clampNat_eq (by decide), clampNat_eq (by decide), clampNat_zero, inside, postWhen_clamped]
        rfl
  · intro m l qm ql takes m0 m1 m2 m3 m4 l0 l1 l2 l3 l4
    have inside : (selectorOut 3 m || selectorOut 3 l) = !decide (m.toNat ≤ 3 ∧ l.toNat ≤ 3) := by
      simp [selectorOut_eq]
    calc exec (.quad m l) s = _ := deliver_of_takes takes _
      _ = _ := by
        rw [quadOf_eq m0 m1 m2 m3 m4, quadOf_eq l0 l1 l2 l3 l4, inside, postWhen_clamped]
        rfl

end Sys2Proof.Machine
end

section
/-! PROOFS. The Reply Unit: the snapshot of QUERY and the records of READ LOG (`QueryAndReadLogReply`), the SYNC
markers, their count down and the return link (`SyncMarkersAndTheReturnLink`). -/

namespace Sys2Proof.Machine

open Sys2Proof Sys2Proof.Safety

/-! ### The reply queue (R185, R186) -/

/-- A record appended is the head of an empty queue or waits behind it: only with nothing begun does the return link
begin one. -/
theorem ReplyUnit.append_eq (r : ReplyUnit) (cts : Bool) (x : Reply) :
    r.append cts x =
      { r with queue := r.queue ++ [x], begun := if cts = true ∧ r.begun = 0 then 1 else r.begun } := by
  by_cases h : cts = true ∧ r.begun = 0
  · simp [ReplyUnit.append, ReplyUnit.link, h]
  · have : ¬(cts = true ∧ r.begun = 0 ∧ r.queue ++ [x] ≠ []) := fun all => h ⟨all.1, all.2.1⟩
    simp only [ReplyUnit.append, ReplyUnit.link, this, h, if_false]

/-- The head record sent: the next one is begun under CLEAR-TO-SEND. -/
theorem ReplyUnit.sent_eq (r : ReplyUnit) (cts : Bool) :
    r.sent cts =
      { r with queue := r.queue.tail, begun := if cts = true ∧ r.queue.tail ≠ [] then 1 else 0 } := by
  by_cases h : cts = true ∧ r.queue.tail ≠ []
  · simp [ReplyUnit.sent, ReplyUnit.link, h]
  · simp only [ReplyUnit.sent, ReplyUnit.link, true_and, h, if_false]

/-- The last byte of the head record can end when it has been begun and either bytes are being begun or none is left to
begin. -/
theorem ReplyUnit.ending_iff (r : ReplyUnit) (cts : Bool) :
    r.ending cts = true ↔ r.queue ≠ [] ∧ r.begun ≠ 0 ∧ (cts = true ∨ r.head.length ≤ r.begun) := by
  simp [ReplyUnit.ending, ReplyUnit.unsent, and_assoc]

theorem ReplyUnit.room_iff (r : ReplyUnit) : r.room = true ↔ r.queue.length < 8 :=
  decide_eq_true_iff

/-! ### Items taken or held (R10) -/

/-- The part with an item held by the Reply Unit. -/
theorem State.holding_of_held {s : State} {x : HeldReply} (h : s.reply.held = some x) : s.holding = true := by
  simp [State.holding, h]

theorem State.replyItem_of_canTake {s : State} {x : HeldReply} (h : s.reply.canTake x = true) :
    s.replyItem x = s.takeReplyItem x :=
  if_pos h

/-- An item that cannot be taken is held, and while it is no format ends. -/
theorem State.replyItem_runOut_of_full {s : State} {x : HeldReply} (h : ¬s.reply.canTake x = true) :
    (s.replyItem x).runOut = s.withReply { s.reply with held := some x } := by
  rw [State.replyItem, if_neg h]
  exact runOut_of_holding (State.holding_of_held rfl)

/-- With nothing held there is nothing to look at again. -/
theorem State.retryHeld_of_none {s : State} (h : s.reply.held = none) : s.retryHeld = s := by
  simp [State.retryHeld, h]

theorem State.retrySync_of_none {s : State} (h : s.reply.held = none) : s.retrySync = s := by
  simp [State.retrySync, h]

/-! ### QUERY and READ LOG (R179, R183) -/

theorem State.snapshot_openNumber (s : State) :
    s.snapshot.openNumber =
      match s.composer.phase with
      | .opened line => (s.store.record line.slot).number
      | .overflowed line => (s.store.record line.slot).number
      | _ => 0 := by
  unfold State.snapshot
  cases s.composer.phase <;> rfl

theorem State.snapshot_offline (s : State) : s.snapshot.offline = decide (s.proof.printer ≠ .online) := by
  unfold State.snapshot
  cases s.proof.printer <;> rfl

/-- A clamp note changes the pending set at most. -/
theorem clampNote_frame (inside : Bool) (s : State) :
    ∃ set, clampNote inside s = { s with reply := { s.reply with pending := set } } := by
  cases inside
  · exact ⟨_, rfl⟩
  · exact ⟨s.reply.pending, rfl⟩

/-- Settles O36: the item can be taken exactly while the queue has room. -/
theorem queryAndReadLogReply : Obligations.QueryAndReadLogReply := by
  unfold Obligations.QueryAndReadLogReply
  refine ⟨?_, ?_⟩
  · intro s u takes shown
    have snapshot : u.snapshot = shown := by
      calc u.snapshot
          = { u.snapshot with openNumber := u.snapshot.openNumber, offline := u.snapshot.offline } := rfl
        _ = shown := by
          rw [State.snapshot_openNumber, State.snapshot_offline]
          rfl
    refine ⟨fun room => ?_, fun full => ?_⟩
    · have can : u.reply.canTake .query = true := (ReplyUnit.room_iff _).2 room
      calc exec .query s = .next (u.replyItem .query).runOut := deliver_of_takes takes _
        _ = _ := by
          rw [State.replyItem_of_canTake can, State.takeReplyItem, State.takeQuery, ReplyUnit.append_eq, snapshot]
          rfl
    · have cannot : ¬u.reply.canTake .query = true := fun can =>
        absurd ((ReplyUnit.room_iff _).1 can) (Nat.not_lt.mpr full)
      calc exec .query s = .next (u.replyItem .query).runOut := deliver_of_takes takes _
        _ = _ := by
          rw [State.replyItem_runOut_of_full cannot]
          rfl
  · intro n s u takes m k noted
    have owner : exec (.readLog n) s = .next (noted.replyItem (.readLog m)).runOut := by
      calc exec (.readLog n) s = _ := deliver_of_takes takes _
        _ = _ := by rw [clampNat_eq (by decide), natOut_eq, postWhen_clamped]
    obtain ⟨set, frame⟩ := clampNote_frame (decide (1 ≤ n.toNat ∧ n.toNat ≤ 16)) u
    change noted = _ at frame
    clear_value noted
    have queue : noted.reply.queue = u.reply.queue := by rw [frame]
    refine ⟨fun room => ?_, fun full => ?_⟩
    · have can : noted.reply.canTake (.readLog m) = true := (ReplyUnit.room_iff _).2 (queue ▸ room)
      rw [owner, State.replyItem_of_canTake can, State.takeReplyItem, State.takeReadLog, ReplyUnit.append_eq]
      subst frame
      rfl
    · have cannot : ¬noted.reply.canTake (.readLog m) = true := fun can =>
        absurd ((ReplyUnit.room_iff _).1 can) (Nat.not_lt.mpr (queue ▸ full))
      rw [owner, State.replyItem_runOut_of_full cannot]
      rfl

/-! ### SYNC markers (R184) -/

/-- Nothing is answered while the first marker is not due or the queue is full. -/
theorem ReplyUnit.answer_of_notDue {r : ReplyUnit} (cts : Bool) (n : Nat)
    (h : ∀ m, r.markers.head? = some m → m.remaining ≠ 0 ∨ 8 ≤ r.queue.length) : r.answer cts n = r := by
  have one : r.answerOne cts = r := by
    unfold ReplyUnit.answerOne
    split
    · next m rest markers =>
      have := h m (by simp [markers])
      rw [if_neg]
      rintro ⟨due, room⟩
      exact this.elim (fun h => h due) (fun h => absurd room (Nat.not_lt.mpr h))
    · rfl
  induction n with
  | zero => rfl
  | succ n ih => rw [ReplyUnit.answer, one, ih]

theorem Store.busyCount_eq (st : Store) :
    st.busyCount = st.slots.toList.countP fun x => decide (x.state = .ready ∨ x.state = .imaging) := by
  unfold Store.busyCount
  congr
  funext x
  cases x.state <;> rfl

/-- A marker stays pending, or its answer joins the queue. -/
theorem ReplyUnit.mem_answerAll {r : ReplyUnit} {m : Marker} (h : m ∈ r.markers) (cts : Bool) :
    m ∈ (r.answerAll cts).markers ∨ Reply.sync m.token m.line ∈ (r.answerAll cts).queue := by
  have spec := ReplyUnit.answer_spec cts r.markers.length r
  dsimp only at spec
  unfold ReplyUnit.answerAll
  rw [spec]
  generalize min r.markers.length _ = k
  rw [← List.take_append_drop k r.markers] at h
  rcases List.mem_append.1 h with answered | pending
  · exact .inr (List.mem_append_right _ (List.mem_map.2 ⟨m, answered, rfl⟩))
  · exact .inl pending

/-! ### The count down at a log write (R178, R184) -/

/-- `b` is the Reply Unit `a` after a log write, its pending set apart: each marker counted down, those at the head that
are due answered as far as there is room. -/
def ReplyUnit.CountedDown (a : ReplyUnit) (cts : Bool) (b : ReplyUnit) : Prop :=
  let left := a.markers.map fun m => { m with remaining := m.remaining - 1 }
  let k := min (left.takeWhile fun m => decide (m.remaining = 0)).length (8 - a.queue.length)
  b.markers = left.drop k ∧ b.queue = a.queue ++ (left.take k).map (fun m => Reply.sync m.token m.line) ∧
    b.begun = (if cts = true ∧ a.begun = 0 ∧ k ≠ 0 then 1 else a.begun) ∧ b.mask = a.mask ∧ b.held = a.held

theorem ReplyUnit.CountedDown.held_eq {a b : ReplyUnit} {cts : Bool} (h : a.CountedDown cts b) : b.held = a.held := by
  obtain ⟨-, -, -, -, held⟩ := h
  exact held

/-- With the first marker due by the count down and room for its answer, a marker leaves. -/
theorem ReplyUnit.CountedDown.markers_lt {a b : ReplyUnit} {cts : Bool} (h : a.CountedDown cts b)
    (due : a.markers.head?.map (·.remaining) = some 1) (room : a.queue.length < 8) :
    b.markers.length < a.markers.length := by
  obtain ⟨markers, -⟩ := h
  obtain ⟨m, hm, one⟩ := Option.map_eq_some_iff.1 due
  obtain ⟨rest, hrest⟩ := List.head?_eq_some_iff.1 hm
  have : 0 < 8 - a.queue.length := by omega
  rw [markers, hrest]
  simp [one]
  omega

theorem ReplyUnit.countedDown (a : ReplyUnit) (cts : Bool) : a.CountedDown cts (a.countDown.answerAll cts) := by
  have spec := ReplyUnit.answer_spec cts a.countDown.markers.length a.countDown
  have most : (a.countDown.markers.takeWhile fun m => decide (m.remaining = 0)).length ≤ a.countDown.markers.length :=
    (List.takeWhile_sublist _).length_le
  rw [← min_assoc, min_eq_right most] at spec
  unfold ReplyUnit.answerAll
  dsimp only at spec
  rw [spec]
  exact ⟨rfl, rfl, rfl, rfl, rfl⟩

/-- The pending set does not matter to the count down. -/
theorem ReplyUnit.CountedDown.of_pending {a b : ReplyUnit} {cts : Bool} {set set' : Word24}
    (h : ReplyUnit.CountedDown { a with pending := set } cts b) :
    a.CountedDown cts { b with pending := set' } :=
  h

theorem Photo.writeLog_countedDown (p : Photo) (x : LogRecord) :
    p.reply.CountedDown p.pins.cts (p.writeLog x).reply := by
  unfold Photo.writeLog
  dsimp only
  split
  · exact (ReplyUnit.countedDown _ _).of_pending
  · exact ReplyUnit.countedDown _ _

/-- The proof decision writes the Reply Unit's pending set alone, and leaves the number closed last. -/
theorem Photo.decideProof_reply (p : Photo) (i : Nat) :
    (∃ set, (p.decideProof i).reply = { p.reply with pending := set }) ∧
      (p.decideProof i).store.lastClosed = p.store.lastClosed := by
  unfold Photo.decideProof
  split
  · split
    · exact ⟨⟨_, rfl⟩, rfl⟩
    · split
      · exact ⟨⟨_, rfl⟩, rfl⟩
      · split
        · exact ⟨⟨_, rfl⟩, rfl⟩
        · exact ⟨⟨_, rfl⟩, rfl⟩
  · exact ⟨⟨_, rfl⟩, rfl⟩

/-- The imaging end of a line in hand is a log write and the proof decision, with the line out of hand before them. -/
theorem Photo.imagingEnd_of_line {p : Photo} (o : LineOutcome) (tag : Nat) {pr : Progress}
    (h : p.imager.line = some pr) :
    ∃ (q : Photo) (x : LogRecord), p.imagingEnd o tag = (q.writeLog x).decideProof pr.slot ∧
      q.reply = p.reply ∧ q.pins = p.pins ∧ q.store.lastClosed = p.store.lastClosed := by
  simp only [Photo.imagingEnd, h]
  exact ⟨_, _, rfl, rfl, rfl, rfl⟩

theorem Photo.imagingEnd_countedDown {p : Photo} (o : LineOutcome) (tag : Nat) {pr : Progress}
    (h : p.imager.line = some pr) :
    p.reply.CountedDown p.pins.cts (p.imagingEnd o tag).reply ∧
      (p.imagingEnd o tag).store.lastClosed = p.store.lastClosed := by
  obtain ⟨q, x, ends, reply, pins, lastClosed⟩ := Photo.imagingEnd_of_line o tag h
  obtain ⟨⟨set, decided⟩, kept⟩ := Photo.decideProof_reply (q.writeLog x) pr.slot
  obtain ⟨r, written⟩ := Photo.writeLog_frame q x
  refine ⟨?_, ?_⟩
  · rw [ends, decided, ← reply, ← pins]
    exact Photo.writeLog_countedDown q x
  · rw [ends, kept, written]
    exact lastClosed

/-- A record with the discard mark is resolved as it is taken (R119, R130). -/
theorem Photo.takeLine_of_discard {p : Photo} {i : Nat} {rest : List Nat} (ready : p.store.ready = i :: rest)
    (can : p.canTakeLine = true) (discard : (p.store.record i).discard = true) :
    p.reply.CountedDown p.pins.cts p.takeLine.reply ∧ p.takeLine.store.lastClosed = p.store.lastClosed := by
  have taken : p.takeLine = p.takeSlot i := by
    simp [Photo.takeLine, ready, can]
  rw [taken, Photo.takeSlot]
  simp only [discard, if_true]
  exact Photo.imagingEnd_countedDown _ _ rfl

theorem Photo.canTakeLine_of {p : Photo} (state : p.imager.state = .standby ∨ p.imager.state = .idle)
    (none : ∀ j, j < 8 → (p.store.slot j).state ≠ .imaging) : p.canTakeLine = true := by
  have imaging : p.store.imaging = Option.none := by
    unfold Store.imaging
    simpa [List.find?_eq_none] using none
  rcases state with h | h <;> simp [Photo.canTakeLine, h, imaging]

/-- A SYNC held for a marker's place is taken once there is one (R10, R184). -/
theorem State.retrySync_of_place {s : State} {token : Word16} (held : s.reply.held = some (.sync token))
    (place : s.reply.markers.length < 4) :
    s.retrySync = (({ s with reply := { s.reply with held := none } } : State).takeSync token).runOut := by
  have can : s.reply.canTake (.sync token) = true := decide_eq_true place
  simp only [State.retrySync, State.retryHeld, held, can, if_true]
  rfl

/-! ### The steps of the return link and the markers -/

theorem execSync_spec {token : Word16} {s u : State} (takes : Takes (.sync token) s u) :
    let m : Marker := ⟨token, u.store.lastClosed, u.store.busyCount⟩
    (4 ≤ u.reply.markers.length →
      exec (.sync token) s = .next { u with reply := { u.reply with held := some (.sync token) } }) ∧
    (u.reply.markers = [] → m.remaining = 0 → u.reply.queue.length < 8 →
      exec (.sync token) s = .next (State.runOut { u with reply := { u.reply with
        queue := u.reply.queue ++ [.sync token u.store.lastClosed]
        begun := if u.pins.cts = true ∧ u.reply.begun = 0 then 1 else u.reply.begun } })) ∧
    (u.reply.markers.length < 4 →
      (∀ x, (u.reply.markers ++ [m]).head? = some x → x.remaining ≠ 0 ∨ 8 ≤ u.reply.queue.length) →
      exec (.sync token) s = .next (State.runOut { u with reply := { u.reply with
        markers := u.reply.markers ++ [m] } })) := by
  intro m
  have owner : exec (.sync token) s = .next (u.replyItem (.sync token)).runOut := deliver_of_takes takes _
  rw [owner]
  refine ⟨fun full => ?_, fun noMarker due room => ?_, fun place notDue => ?_⟩
  · have cannot : ¬u.reply.canTake (.sync token) = true := fun can =>
      absurd (of_decide_eq_true can) (Nat.not_lt.mpr full)
    rw [State.replyItem_runOut_of_full cannot]
    rfl
  · have can : u.reply.canTake (.sync token) = true := decide_eq_true (by simp [noMarker, Config.syncMarkers])
    have marked : u.reply.mark u.pins.cts token u.store.lastClosed u.store.busyCount =
        u.reply.append u.pins.cts (.sync token u.store.lastClosed) := by
      change u.store.busyCount = 0 at due
      simp [ReplyUnit.mark, ReplyUnit.answerAll, ReplyUnit.answer, ReplyUnit.answerOne, noMarker, due, room,
        Config.replyQueue, ReplyUnit.append_eq]
    rw [State.replyItem_of_canTake can, State.takeReplyItem, State.takeSync, marked, ReplyUnit.append_eq]
    rfl
  · have can : u.reply.canTake (.sync token) = true := decide_eq_true place
    have marked : u.reply.mark u.pins.cts token u.store.lastClosed u.store.busyCount =
        { u.reply with markers := u.reply.markers ++ [m] } :=
      ReplyUnit.answer_of_notDue _ _ notDue
    rw [State.replyItem_of_canTake can, State.takeReplyItem, State.takeSync, marked]
    rfl

theorem execSyncAnswer_spec (s : State) :
    (∀ m rest, s.reply.markers = m :: rest → m.remaining = 0 → s.reply.queue.length < 8 → s.reply.held = none →
      exec .syncAnswer s = .next { s with reply := { s.reply with
        markers := rest
        queue := s.reply.queue ++ [.sync m.token m.line]
        begun := if s.pins.cts = true ∧ s.reply.begun = 0 then 1 else s.reply.begun } }) ∧
    ((∀ m, s.reply.markers.head? = some m → m.remaining ≠ 0) ∨ 8 ≤ s.reply.queue.length →
      exec .syncAnswer s = .next s) := by
  change (∀ m rest, _ → _ → _ → _ → (.next s.answerWaiting : StepResult) = _) ∧
    (_ → (.next s.answerWaiting : StepResult) = _)
  unfold State.answerWaiting
  refine ⟨fun m rest markers due room held => ?_, fun notDue => ?_⟩
  · have goes : (s.reply.answerDue && s.reply.room) = true := by
      simp [ReplyUnit.answerDue, markers, due, (ReplyUnit.room_iff _).2 room]
    have one : s.reply.answerOne s.pins.cts =
        ReplyUnit.append { s.reply with markers := rest } s.pins.cts (.sync m.token m.line) := by
      simp [ReplyUnit.answerOne, markers, due, room, Config.replyQueue]
    rw [if_pos goes, one, ReplyUnit.append_eq]
    exact congrArg _ (State.retryHeld_of_none held)
  · have stays : ¬(s.reply.answerDue && s.reply.room) = true := by
      rw [Bool.and_eq_true, ReplyUnit.room_iff]
      rintro ⟨due, room⟩
      rcases notDue with notDue | full
      · unfold ReplyUnit.answerDue at due
        split at due
        · next m rest markers => exact notDue m (by simp [markers]) (by simpa using due)
        · cases due
      · omega
    rw [if_neg stays]

theorem execTakeLine_countedDown {busy : Bool} {s : State} {i : Nat} {rest : List Nat}
    (ready : s.store.ready = i :: rest) (state : s.imager.state = .standby ∨ s.imager.state = .idle)
    (noneImaging : ∀ j, j < 8 → (s.store.slot j).state ≠ .imaging) (discard : (s.store.record i).discard = true) :
    (s.reply.held = none → AnswersWith (exec (.takeLine busy) s) fun t => s.reply.CountedDown s.pins.cts t.reply) ∧
      ∀ token, s.reply.held = some (.sync token) → s.reply.markers.length = 4 →
        s.reply.markers.head?.map (·.remaining) = some 1 → s.reply.queue.length < 8 →
        AnswersWith (exec (.takeLine busy) s) fun t => t.reply.held = none ∧
          ((∃ m ∈ t.reply.markers, m.token = token ∧ m.line = s.store.lastClosed) ∨
            Reply.sync token s.store.lastClosed ∈ t.reply.queue) := by
  obtain ⟨(counted : s.reply.CountedDown s.pins.cts _), lastClosed⟩ :=
    Photo.takeLine_of_discard (p := s.photo busy) ready (Photo.canTakeLine_of state noneImaging) discard
  refine ⟨fun held => ?_, fun token held four one room => ?_⟩
  · refine ⟨_, rfl, ?_⟩
    rw [State.onPhoto, State.retrySync_of_none (counted.held_eq.trans held)]
    exact counted
  · have place : (s.photo busy).takeLine.reply.markers.length < 4 := four ▸ counted.markers_lt one room
    refine ⟨_, rfl, ?_⟩
    dsimp only
    rw [State.onPhoto, State.retrySync_of_place (counted.held_eq.trans held) place, State.runOut_reply]
    refine ⟨ReplyUnit.answerAll_held _ _, ?_⟩
    have made := List.mem_append_right (s.photo busy).takeLine.reply.markers (List.mem_singleton_self
      (⟨token, (s.photo busy).takeLine.store.lastClosed, (s.photo busy).takeLine.store.busyCount⟩ : Marker))
    rcases ReplyUnit.mem_answerAll (r := { (s.photo busy).takeLine.reply with held := none, markers := _ }) made
      s.pins.cts with pending | answered
    · exact .inl ⟨_, pending, rfl, lastClosed⟩
    · refine .inr ?_
      rw [← show _ = s.store.lastClosed from lastClosed]
      exact answered

/-- The head record leaves the queue, and no held item takes its place: there is none, or a waiting answer comes
first. -/
theorem State.recordSent_of_ending {s : State} {heldFirst : Bool} (ends : s.reply.ending s.pins.cts = true)
    (free : s.reply.held = none ∨ (heldFirst = false ∧ s.reply.markers.head?.map (·.remaining) = some 0)) :
    s.recordSent heldFirst = s.withReply (s.reply.sent s.pins.cts) := by
  have held : (s.reply.sent s.pins.cts).held = s.reply.held := by rw [ReplyUnit.sent_eq]
  have markers : (s.reply.sent s.pins.cts).markers = s.reply.markers := by rw [ReplyUnit.sent_eq]
  rw [State.recordSent, if_pos ends]
  extract_lets t
  split
  · next looks =>
    rcases free with none | ⟨answerFirst, due⟩
    · exact State.retryHeld_of_none (held.trans none)
    · obtain ⟨m, hm, due⟩ := Option.map_eq_some_iff.1 due
      obtain ⟨rest, hrest⟩ := List.head?_eq_some_iff.1 hm
      simp [t, ReplyUnit.answerDue, answerFirst, markers, hrest, due] at looks
  · rfl

theorem execReplyRecordSent_spec (heldFirst : Bool) (s : State) :
    (s.reply.begun ≠ 0 → s.reply.queue ≠ [] → (s.pins.cts = true ∨ s.reply.head.length ≤ s.reply.begun) →
      (s.reply.held = none ∨ (heldFirst = false ∧ s.reply.markers.head?.map (·.remaining) = some 0)) →
      exec (.replyRecordSent heldFirst) s = .next { s with reply := { s.reply with
        queue := s.reply.queue.tail
        begun := if s.pins.cts = true ∧ s.reply.queue.tail ≠ [] then 1 else 0 } }) ∧
    (s.reply.begun = 0 ∨ s.reply.queue = [] ∨ (s.pins.cts = false ∧ s.reply.begun < s.reply.head.length) →
      exec (.replyRecordSent heldFirst) s = .next s) := by
  change (_ → _ → _ → _ → (.next (s.recordSent heldFirst) : StepResult) = _) ∧
    (_ → (.next (s.recordSent heldFirst) : StepResult) = _)
  refine ⟨fun begun queue goes free => ?_, fun stays => ?_⟩
  · rw [State.recordSent_of_ending ((ReplyUnit.ending_iff _ _).2 ⟨queue, begun, goes⟩) free, ReplyUnit.sent_eq]
    rfl
  · have : ¬s.reply.ending s.pins.cts = true := by
      rw [ReplyUnit.ending_iff]
      rintro ⟨queue, begun, goes⟩
      rcases stays with none | empty | ⟨down, short⟩
      · exact begun none
      · exact queue empty
      · rcases goes with up | all
        · rw [up] at down
          cases down
        · exact absurd short (Nat.not_lt.mpr all)
    rw [State.recordSent, if_neg this]

/-- Settles O37: the steps above, the count of slots READY or IMAGING being `busyCount`. -/
theorem syncMarkersAndTheReturnLink : Obligations.SyncMarkersAndTheReturnLink := by
  unfold Obligations.SyncMarkersAndTheReturnLink
  refine ⟨fun token s u takes => ?_, fun s => (execSyncAnswer_spec s).1, fun s => (execSyncAnswer_spec s).2,
    ⟨Photo.writeLog_countedDown, fun p o tag pr line => (Photo.imagingEnd_countedDown o tag line).1,
      fun busy s i rest ready _ => execTakeLine_countedDown ready⟩, execReplyRecordSent_spec⟩
  rw [← Store.busyCount_eq]
  obtain ⟨full, answered, waits⟩ := execSync_spec takes
  refine ⟨full, answered, fun place notDue notDueAlone => waits place fun x head => ?_⟩
  cases markers : u.reply.markers with
  | nil =>
    rw [markers] at head
    cases head
    exact notDueAlone markers
  | cons first others =>
    rw [markers] at head
    exact notDue x (by rw [markers]; exact head)

end Sys2Proof.Machine
end

section
/-! PROOFS. Stored formats (`StoredFormatsAreDefinedAndCalled`): the checks of DEFINE, END DEFINE and CALL, what freeing
a format does to the descriptors and to format memory, and the end of formats. -/

namespace Sys2Proof.Machine

open Sys2Proof Sys2Proof.Safety

/-! ### The checks (R14, R17, R18) -/

theorem State.formatLockPasses_iff (s : State) :
    s.formatLockPasses = true ↔ s.tables.locks.formats = false ∨ s.pins.serviceSwitch = true := by
  simp [State.formatLockPasses, lockPasses]

theorem State.defineAccepted_iff (s : State) (n : Nat) :
    s.defineAccepted n = true ↔
      n ≤ 63 ∧ s.intake.sources = [] ∧ (s.tables.locks.formats = false ∨ s.pins.serviceSwitch = true) := by
  simp [State.defineAccepted, State.formatLockPasses_iff, and_assoc]

theorem State.callAccepted_iff (s : State) (n : Nat) :
    s.callAccepted n = true ↔
      ∃ d, s.formats.format n = some d ∧ n ≤ 63 ∧ s.intake.sources.length < 4 ∧
        (s.intake.sources = [] ∨ d.nestable = true) := by
  change _ ↔ ∃ d, _ = some d ∧ n ≤ 63 ∧ _ < Config.maxDepth ∧ (_ ∨ _)
  unfold State.callAccepted
  cases s.formats.format n with
  | none => simp
  | some d => simp [and_assoc]

/-! ### Freeing a format (R13) -/

/-- A descriptor after `d` is freed: one that stands above `d` moves down. -/
def Format.afterFree (d e : Format) : Format :=
  { e with start := if d.start + d.len ≤ e.start then e.start - d.len else e.start }

theorem FormatStore.free_of_none {fs : FormatStore} {n : Nat} (h : fs.format n = none) : fs.free n = fs := by
  simp [FormatStore.free, h]

theorem FormatStore.memory_free {fs : FormatStore} {n : Nat} {d : Format} (h : fs.format n = some d) :
    (fs.free n).memory = fs.memory.take d.start ++ fs.memory.drop (d.start + d.len) := by
  simp [FormatStore.free, h]

theorem FormatStore.format_free {fs : FormatStore} {n : Nat} {d : Format} (h : fs.format n = some d) (j : Nat) :
    (fs.free n).format j = if j = n then none else (fs.format j).map d.afterFree := by
  have shift : (fun e : Format => if d.start + d.len ≤ e.start then { e with start := e.start - d.len } else e) =
      d.afterFree := by
    funext e
    unfold Format.afterFree
    split <;> rfl
  have read : (fs.free n).format j =
      ((tabPut fs.descriptors n none)[j]?.map fun x => x.map d.afterFree).getD none := by
    simp only [FormatStore.free, h, shift]
    simp [FormatStore.format, tabGet]
  rw [read]
  by_cases same : j = n
  · subst same
    by_cases place : j < 64
    · simp [tabPut, place]
    · simp [tabPut, place]
  · rw [if_neg same]
    simp only [tabPut, Vector.getElem?_setIfInBounds_ne (Ne.symm same), FormatStore.format, tabGet]
    cases fs.descriptors[j]? <;> rfl

/-- The bytes of a format, one by one. -/
theorem FormatStore.getElem?_bytes {fs : FormatStore} {j : Nat} {e : Format} (h : fs.format j = some e) (i : Nat) :
    (fs.bytes j)[i]? = if i < e.len then fs.memory[e.start + i]? else none := by
  unfold FormatStore.format at h
  simp [FormatStore.bytes, h, List.getElem?_take]

theorem FormatStore.free_spec {fs : FormatStore} {n : Nat} {d : Format} (h : fs.format n = some d)
    (inside : d.start + d.len ≤ fs.memory.length) :
    let gs := fs.free n
    gs.format n = none ∧ gs.memory.length + d.len = fs.memory.length ∧
      (∀ k, k < d.start → gs.memory[k]? = fs.memory[k]?) ∧
      (∀ k, d.start ≤ k → gs.memory[k]? = fs.memory[k + d.len]?) ∧
      ∀ j, j ≠ n →
        (fs.format j = none → gs.format j = none) ∧
        ∀ e, fs.format j = some e → gs.format j = some (d.afterFree e) ∧
          (e.start + e.len ≤ d.start ∨ d.start + d.len ≤ e.start → gs.bytes j = fs.bytes j) := by
  intro gs
  have memory : gs.memory = fs.memory.take d.start ++ fs.memory.drop (d.start + d.len) := FormatStore.memory_free h
  have start : (fs.memory.take d.start).length = d.start := by
    rw [List.length_take]
    omega
  have below : ∀ k, k < d.start → gs.memory[k]? = fs.memory[k]? := fun k hk => by
    rw [memory, List.getElem?_append_left (by omega), List.getElem?_take_of_lt hk]
  have above : ∀ k, d.start ≤ k → gs.memory[k]? = fs.memory[k + d.len]? := fun k hk => by
    rw [memory, List.getElem?_append_right (by omega), List.getElem?_drop, start]
    congr 1
    omega
  refine ⟨by simp [gs, FormatStore.format_free h], ?_, below, above, fun j other => ?_⟩
  · rw [memory, List.length_append, start, List.length_drop]
    omega
  · have moved : gs.format j = (fs.format j).map d.afterFree := by
      simp [gs, FormatStore.format_free h, other]
    refine ⟨fun none => by rw [moved, none]; rfl, fun e he => ?_⟩
    have stands : gs.format j = some (d.afterFree e) := by rw [moved, he]; rfl
    refine ⟨stands, fun apart => List.ext_getElem? fun i => ?_⟩
    rw [FormatStore.getElem?_bytes stands, FormatStore.getElem?_bytes he]
    by_cases inLen : i < e.len
    · simp only [Format.afterFree, inLen, if_true]
      by_cases higher : d.start + d.len ≤ e.start
      · rw [if_pos higher, above _ (by omega)]
        congr 1
        omega
      · rw [if_neg higher, below _ (by omega)]
    · simp [Format.afterFree, inLen]

/-! ### The end of formats (R19) -/

theorem State.runOut_of_position {s : State} (h : s.intake.position ≠ .ground) : s.runOut = s := by
  unfold State.runOut
  split
  · rfl
  · have stays : s.front.runOut = s.front := by
      unfold Front.runOut
      split
      · next ground => exact absurd ground h
      · rfl
    rw [stays, State.withFront_front]

theorem State.runOut_of_ground {s : State} (free : s.holding = false) (ground : s.intake.position = .ground) :
    s.runOut = { s with intake := { s.intake with
      sources := (popEnded s.formats s.intake.mode s.intake.sources).2
      mode := (popEnded s.formats s.intake.mode s.intake.sources).1 } } := by
  have ground' : s.front.intake.position = .ground := ground
  simp only [State.runOut, free, Bool.false_eq_true, if_false, Front.runOut, ground']
  rw [ground]
  rfl

theorem State.runOut_of_noSource {s : State} (none : s.intake.sources = []) : s.runOut = s := by
  by_cases free : s.holding = false
  · by_cases ground : s.intake.position = .ground
    · rw [State.runOut_of_ground free ground, none, popEnded, ← none]
    · exact State.runOut_of_position ground
  · exact runOut_of_holding (by simpa using free)

/-! ### The commands -/

/-- Settles O9: the owners' checks above, `free_spec`, and the end of formats by `popEnded_spec`. -/
theorem storedFormatsAreDefinedAndCalled : Obligations.StoredFormatsAreDefinedAndCalled := by
  unfold Obligations.StoredFormatsAreDefinedAndCalled
  refine ⟨?_, ?_, ?_, ?_, fun s => State.runOut_of_noSource, fun s => runOut_of_holding,
    fun s => State.runOut_of_position, ?_⟩
  · intro n k s u takes accepted
    have owner : exec (.define n k) s = .next (u.takeDefine n.toNat (onOff k)).runOut := deliver_of_takes takes _
    rw [owner, State.takeDefine]
    refine ⟨fun yes => ?_, fun no => ?_⟩
    · rw [if_pos ((State.defineAccepted_iff u _).2 yes)]
      rfl
    · rw [if_neg fun h => no ((State.defineAccepted_iff u _).1 h)]
      rfl
  · exact fun fs n => ⟨FormatStore.free_of_none, fun d => FormatStore.free_spec⟩
  · intro s u takes
    have owner : exec .endDefine s = .next u.takeEndDefine.runOut := deliver_of_takes takes _
    rw [owner, State.takeEndDefine]
    refine ⟨fun mode => by rw [mode]; rfl, fun mode => by rw [mode]; rfl, fun n nestable stored mode => ?_⟩
    rw [mode]
    refine ⟨fun passes => ?_, fun locked closed => ?_⟩
    · dsimp only
      rw [if_pos ((State.formatLockPasses_iff u).2 passes)]
      rfl
    · have refused : ¬u.formatLockPasses = true := by simp [State.formatLockPasses_iff, locked, closed]
      dsimp only
      rw [if_neg refused]
      rfl
  · intro n s u takes accepted
    have owner : exec (.call n) s = .next (u.takeCall n.toNat).runOut := deliver_of_takes takes _
    rw [owner, State.takeCall]
    refine ⟨fun yes => ?_, fun no => ?_⟩
    · rw [if_pos ((State.callAccepted_iff u _).2 yes)]
      rfl
    · rw [if_neg fun h => no ((State.callAccepted_iff u _).1 h)]
      rfl
  · intro s ended below free ground sources out on
    rw [State.runOut_of_ground free ground, sources, popEnded_spec s.formats s.intake.mode ended below out on]

end Sys2Proof.Machine
end

section
/-! PROOFS. The code stream: a frame offered to the FIFO (`FrameIsOfferedToTheFifo`), the entries a take of the parser
sets aside (`ParserTakesOneEntry`) and the items it delivers (`ParserDeliversInStreamOrder`). -/

namespace Sys2Proof.Machine

open Sys2Proof Sys2Proof.Safety

/-! ### Frames (R1 to R3) -/

theorem onesOf_eq_sum (b : Byte) : onesOf b = ((List.range 8).map fun i => (b.getLsbD i).toNat).sum := by
  rw [List.sum_eq_foldl, List.foldl_map]
  rfl

theorem frameGood_iff (data : Byte) (parity stop : Bool) :
    frameGood data parity stop = true ↔
      stop = true ∧ (((List.range 8).map fun i => (data.getLsbD i).toNat).sum + parity.toNat) % 2 = 0 := by
  simp [frameGood, onesOf_eq_sum]

theorem readyAfter_eq (count : Nat) (was : Bool) :
    readyAfter count was = if count ≤ 16 then true else if 48 ≤ count then false else was := by
  unfold readyAfter Config.readyOff Config.readyOn
  by_cases high : 48 ≤ count
  · have : ¬count ≤ 16 := by omega
    rw [if_pos high, if_neg this, if_pos high]
  · rw [if_neg high, if_neg high]

theorem Front.offer_of_room {f : Front} (room : f.intake.fifo.length < 64) (e : Entry) :
    f.offer e = { f with intake := f.intake.withFifo (f.intake.fifo ++ [e]) } :=
  if_pos room

theorem Front.offer_of_full {f : Front} (full : 64 ≤ f.intake.fifo.length) (e : Entry) :
    f.offer e = { f with events := f.events ||| 2#24 } :=
  if_neg (Nat.not_lt.mpr full)

/-- What an offer leaves of the FIFO and of READY: the entry joins while there is room, and READY falls at 48. -/
theorem Front.offer_fifo (f : Front) (e : Entry) :
    (f.intake.fifo.length < 64 → (f.offer e).intake.fifo = f.intake.fifo ++ [e]) ∧
      (64 ≤ f.intake.fifo.length →
        (f.offer e).intake.fifo = f.intake.fifo ∧ (f.offer e).intake.ready = f.intake.ready) ∧
      (f.intake.fifo.length < 47 → 16 ≤ f.intake.fifo.length → (f.offer e).intake.ready = f.intake.ready) ∧
      (47 ≤ f.intake.fifo.length → f.intake.fifo.length < 64 → (f.offer e).intake.ready = false) := by
  refine ⟨fun room => ?_, fun full => ?_, fun low some => ?_, fun high room => ?_⟩
  · rw [Front.offer_of_room room]
    rfl
  · rw [Front.offer_of_full full]
    exact ⟨rfl, rfl⟩
  · have above : ¬f.intake.fifo.length + 1 ≤ 16 := by omega
    have below : ¬48 ≤ f.intake.fifo.length + 1 := by omega
    rw [Front.offer_of_room (by omega)]
    simp [Intake.withFifo, readyAfter_eq, above, below]
  · have above : ¬f.intake.fifo.length + 1 ≤ 16 := by omega
    have most : 48 ≤ f.intake.fifo.length + 1 := by omega
    rw [Front.offer_of_room room]
    simp [Intake.withFifo, readyAfter_eq, above, most]

/-- What else an offer changes: INPUT OVERRUN joins the pending set where there is no room. -/
theorem Front.offer_rest (f : Front) (e : Entry) :
    (f.offer e).events = (f.events ||| if 64 ≤ f.intake.fifo.length then 2#24 else 0) ∧
      (f.offer e).formats = f.formats ∧ (f.offer e).staging = f.staging ∧
      { (f.offer e).intake with fifo := f.intake.fifo, ready := f.intake.ready } = f.intake := by
  by_cases full : 64 ≤ f.intake.fifo.length
  · rw [Front.offer_of_full full, if_pos full]
    exact ⟨rfl, rfl, rfl, rfl⟩
  · rw [Front.offer_of_room (by omega), if_neg full]
    exact ⟨BitVec.or_zero.symm, rfl, rfl, rfl⟩

/-- Settles O6: the frame's check, then the offer of the entry it makes. -/
theorem frameIsOfferedToTheFifo : Obligations.FrameIsOfferedToTheFifo := by
  unfold Obligations.FrameIsOfferedToTheFifo
  intro data parity stop s up good
  have received : exec (.frameReceived data parity stop) s = .next (s.withFront (s.front.frame data parity stop)) := by
    change execFrameReceived data parity stop s = _
    simp [execFrameReceived, up]
  refine ⟨_, received, ?_⟩
  by_cases isGood : good
  · have frame : s.front.frame data parity stop = s.front.offer (.plain data) :=
      if_pos ((frameGood_iff data parity stop).2 isGood)
    obtain ⟨joins, full, low, high⟩ := Front.offer_fifo s.front (.plain data)
    obtain ⟨events, formats, staging, intake⟩ := Front.offer_rest s.front (.plain data)
    have errors : (s.front.offer (.plain data)).intake.errors = s.intake.errors := by
      have := congrArg Intake.errors intake
      exact this
    rw [frame]
    refine ⟨fun room _ => joins room, fun _ bad => absurd isGood bad, full, low, high, fun _ => errors,
      fun bad => absurd isGood bad, ?_, ?_, ?_, rfl⟩
    · have keep : s.reply.pending ||| (0 : Word24) = s.reply.pending := BitVec.or_zero
      rw [if_pos isGood, keep]
      exact events
    · rw [State.withFront, formats, staging]
      rfl
    · rw [← errors]
      exact intake
  · have frame : s.front.frame data parity stop = s.front.inputError.offer .damaged :=
      if_neg fun h => isGood ((frameGood_iff data parity stop).1 h)
    obtain ⟨joins, full, low, high⟩ := Front.offer_fifo s.front.inputError .damaged
    obtain ⟨events, formats, staging, intake⟩ := Front.offer_rest s.front.inputError .damaged
    have errors : (s.front.inputError.offer .damaged).intake.errors = saturate 255 s.intake.errors := by
      have := congrArg Intake.errors intake
      exact this
    rw [frame]
    refine ⟨fun _ yes => absurd yes isGood, fun room _ => joins room, full, low, high, fun yes => absurd yes isGood,
      fun _ => errors, ?_, ?_, ?_, rfl⟩
    · rw [if_neg isGood]
      exact events
    · rw [State.withFront, formats, staging]
      rfl
    · exact congrArg (fun x : Intake => { x with errors := s.intake.errors }) intake

end Sys2Proof.Machine
end

section
/-! PROOFS. The parser's take, entry by entry (`ParserTakesOneEntry`, `ParserDeliversInStreamOrder`): which entry is
taken, the grammar of the items, what becomes of a complete item, and what a LOAD or a dictionary edit announces. -/

namespace Sys2Proof.Machine

open Sys2Proof Sys2Proof.Safety

/-! ### The entry taken (R2, R19) -/

/-- The take of an entry from a source that has been moved on past it (R4). -/
def Front.takeEntry (f : Front) : Entry → Taken
  | .damaged => f.takeDamaged
  | .plain b =>
    match f.intake.position with
    | .ground => f.takeGround b
    | .number => f.takeNumber b
    | .parameter num taken toCome => f.takeParameter num taken toCome b

variable {s u : State} {e : Entry} {b : Byte} {c : Instr}

theorem Front.take_of_next {f g : Front} (h : f.next = some (e, g)) : f.take = g.takeEntry e := by
  unfold Front.take Front.takeEntry
  rw [h]
  cases e <;> rfl

/-- The next entry is the source's, and taking it changes the Intake alone. -/
theorem next_of_nextEntry (h : NextEntry s e u) :
    s.holding = false ∧ s.front.next = some (e, u.front) ∧ ∃ x, u = s.withIntake x := by
  obtain ⟨free, ⟨noSource, rest, fifo, rfl⟩ | ⟨top, below, d, b, sources, format, inside, byte, rfl, rfl⟩⟩ := h
  · refine ⟨free, ?_, _, rfl⟩
    have noSource' : s.front.intake.sources = [] := noSource
    have fifo' : s.front.intake.fifo = e :: rest := fifo
    rw [Front.next, noSource', fifo']
    simp only [Intake.withFifo, readyAfter_eq]
    rfl
  · refine ⟨free, ?_, _, rfl⟩
    have sources' : s.front.intake.sources = top :: below := sources
    have taken : (s.front.formats.bytes top.format)[top.offset]? = some b := by
      refine (FormatStore.getElem?_bytes format top.offset).trans ?_
      rw [if_pos inside]
      exact byte
    rw [Front.next, sources']
    dsimp only
    rw [taken]
    rfl

/-- What a take comes to, in the part it is made in. -/
def Taken.offered (u : State) : Taken → Offer
  | .nothing => .nothing
  | .quiet f => .quiet (u.withFront f)
  | .item i f => .item i (u.withFront f)

theorem offer_of_nextEntry (h : NextEntry s e u) : s.offer = (u.front.takeEntry e).offered u := by
  obtain ⟨free, next, x, rfl⟩ := next_of_nextEntry h
  unfold State.offer
  rw [free, Front.take_of_next next]
  cases (s.withIntake x).front.takeEntry e <;> rfl

theorem parserTake_of_nextEntry (h : NextEntry s e u) {f : Front} (quiet : u.front.takeEntry e = .quiet f) :
    exec .parserTake s = .next (u.withFront f).runOut := by
  change execParserTake s = _
  rw [execParserTake, offer_of_nextEntry h, quiet]
  rfl

theorem takes_of_nextEntry (h : NextEntry s e u) {f : Front} (item : u.front.takeEntry e = .item c f) :
    Takes c s (u.withFront f) := by
  rw [Takes, offer_of_nextEntry h, item]
  rfl

/-! ### The grammar (sections 1.2, 1.3 and 11.2) -/

/-- A command decodes to `c` from its number and parameters, `c` is no END DEFINE, and `barred` says whether no format
carries it out. -/
structure DecodesTo (num : Byte) (ps : List Byte) (barred : Bool) (c : Instr) : Prop where
  item : commandItem num ps = some c
  bars : barredInFormat c = barred
  other : c ≠ .endDefine

theorem paramCount_of_mem_catalogue {n : Nat} (h : (b, n) ∈ catalogue) : paramCount b = some n := by
  have all : ∀ x ∈ catalogue, paramCount x.1 = some x.2 := by decide
  exact all _ h

theorem paramCount_of_not_mem_catalogue (h : ∀ n, (b, n) ∉ catalogue) : paramCount b = none := by
  have all : ∀ b : Byte, ∀ n ∈ paramCount b, (b, n) ∈ catalogue := by decide +kernel
  exact Option.eq_none_iff_forall_ne_some.2 fun n hn => h n (all b n hn)

theorem singleItem_of (h : SingleItem b c) :
    singleItem b = some c ∧ barredInFormat c = false ∧ c ≠ .endDefine := by
  rcases h with ⟨rfl, rfl⟩ | ⟨text, rfl⟩ | control
  · exact ⟨rfl, rfl, nofun⟩
  · have : b ≠ 0x20 := by bv_omega
    exact ⟨by rw [singleItem, if_neg this, if_pos text], rfl, nofun⟩
  · simp only [List.mem_cons, Prod.mk.injEq, List.not_mem_nil, or_false] at control
    casesm* _ ∨ _, _ ∧ _
    all_goals
      subst_vars
      exact ⟨rfl, rfl, nofun⟩

theorem singleItem_of_controlCode (h : controlCode b = some c) : SingleItem b c := by
  refine .inr (.inr ?_)
  unfold controlCode at h
  split_ifs at h
  all_goals
    cases h
    subst_vars
    decide

theorem singleItem_eq_none (h : ∀ c, ¬SingleItem b c) : singleItem b = none := by
  have space : b ≠ 0x20 := fun e => h _ (.inl ⟨e, rfl⟩)
  have text : ¬0x21 ≤ b.toNat := fun e => h _ (.inr (.inl ⟨e, rfl⟩))
  rw [singleItem, if_neg space, if_neg text]
  exact Option.eq_none_iff_forall_ne_some.2 fun c hc => h c (singleItem_of_controlCode hc)

/-- A number by itself: the seven commands without parameter bytes. -/
theorem decodesTo_of_bareCommand (h : BareCommand b c) :
    paramCount b = some 0 ∧ DecodesTo b [] (b == 0x24 || b == 0x35) c := by
  unfold BareCommand at h
  simp only [List.mem_cons, Prod.mk.injEq, List.not_mem_nil, or_false] at h
  casesm* _ ∨ _, _ ∧ _
  all_goals
    subst_vars
    exact ⟨rfl, rfl, rfl, nofun⟩

theorem bareCommand_of_mem_catalogue (h : (b, 0) ∈ catalogue) (other : b ≠ 0x1B) : ∃ c, BareCommand b c := by
  have all : ∀ x ∈ catalogue, x.2 = 0 → x.1 ≠ 0x1B → x.1 ∈ [0x12#8, 0x13, 0x15, 0x24, 0x30, 0x31, 0x35] := by decide
  have bare := all _ h rfl other
  simp only [List.mem_cons, List.not_mem_nil, or_false] at bare
  casesm* _ ∨ _
  all_goals
    subst_vars
    simp [BareCommand]

/-- The numbers whose commands no format carries out (R20). -/
def barredNumber (num : Byte) : Bool := num == 0x20 || num == 0x21 || num == 0x22 || num == 0x23

theorem decodesTo_load (ident x y z w dir sum : Byte) (data : List Byte) :
    DecodesTo 0x20 ([ident, x, y, z, w, dir] ++ data ++ [sum]) true (.load ident (x ++ y) (z ++ w) dir sum) := by
  refine ⟨?_, rfl, nofun⟩
  change some (Instr.load ident (x ++ y) (z ++ w) dir ((data ++ [sum]).getLastD 0)) = _
  rw [List.getLastD_concat]

theorem decodesTo_of_commandOf {num : Byte} {ps : List Byte} (h : CommandOf num ps c) :
    DecodesTo num ps (barredNumber num) c := by
  unfold CommandOf at h
  simp only [List.mem_cons, Prod.mk.injEq, List.not_mem_nil, or_false] at h
  rcases h with ⟨x, rfl, h⟩ | ⟨x, y, rfl, h⟩ | ⟨x, y, z, rfl, h⟩ | ⟨x, y, z, w, rfl, h⟩ | ⟨n, codes, rfl, h⟩ | load
  case inr.inr.inr.inr.inr =>
    obtain ⟨ident, x, y, z, w, dir, data, sum, rfl, rfl, rfl⟩ := load
    exact decodesTo_load ident x y z w dir sum data
  all_goals
    casesm* _ ∨ _, _ ∧ _
    all_goals
      subst_vars
      exact ⟨rfl, rfl, nofun⟩

/-- A LOAD's header announces its data and the sum byte, its count clamped (R8). -/
theorem announced_load (l : List Byte) :
    let size := entrySize ((l[0]?).getD 0)
    let sent := (((l[3]?).getD 0) ++ ((l[4]?).getD 0) : Word16).toNat
    announced 0x20 l =
      if l.length = 6 then (min sent (512 / size) * size + 1, decide (512 / size < sent)) else (0, false) := by
  match l with
  | [_, _, _, _, _, _] => simp [announced, loadDataLength, clampedCount, Config.stagingSize]
  | [] | [_] | [_, _] | [_, _, _] | [_, _, _, _] | [_, _, _, _, _] => rfl
  | _ :: _ :: _ :: _ :: _ :: _ :: _ :: _ => simp [announced]

/-- A dictionary edit's length byte announces its codes (R7). -/
theorem announced_dict {num : Byte} (dict : num = 0x22 ∨ num = 0x23) (l : List Byte) :
    announced num l = if l.length = 1 then (((l[0]?).getD 0).toNat, false) else (0, false) := by
  unfold announced
  rw [if_pos dict]
  match l with
  | [] => rfl
  | [_] => rfl
  | _ :: _ :: _ => simp

theorem announced_other {num : Byte} (load : num ≠ 0x20) (dict : ¬(num = 0x22 ∨ num = 0x23)) (l : List Byte) :
    announced num l = (0, false) := by
  unfold announced
  rw [if_neg dict, if_neg load]

/-- What the parameter bytes taken so far announce, as the statements say it. -/
theorem announced_append (num : Byte) (taken : List Byte) (b : Byte) :
    let all := taken ++ [b]
    let ident := (all[0]?).getD 0
    let size := if ident = 0x60 then 3 else if ident = 0x62 then 2 else 1
    let sent := (((all[3]?).getD 0) ++ ((all[4]?).getD 0) : Word16).toNat
    let header : Bool := num = 0x20 ∧ all.length = 6
    announced num all =
      (if header then min sent (512 / size) * size + 1
        else if (num = 0x22 ∨ num = 0x23) ∧ taken = [] then b.toNat
        else 0, header && decide (512 / size < sent)) := by
  intro all ident size sent header
  by_cases load : num = 0x20
  · have isHeader : header = decide (all.length = 6) := by simp [header, load]
    subst load
    rw [announced_load, isHeader]
    by_cases six : all.length = 6
    · rw [if_pos six, decide_eq_true six]
      rfl
    · rw [if_neg six, decide_eq_false six]
      rfl
  · have noHeader : header = false := decide_eq_false fun h => load h.1
    rw [noHeader, if_neg Bool.false_ne_true, Bool.false_and]
    by_cases dict : num = 0x22 ∨ num = 0x23
    · rw [announced_dict dict]
      cases taken with
      | nil => rw [if_pos (show all.length = 1 from rfl), if_pos ⟨dict, rfl⟩]; rfl
      | cons x xs => simp [all]
    · rw [announced_other load dict, if_neg fun h => dict h.1]

/-- With all its parameter bytes taken a command announces no more, but for a dictionary edit of no code. -/
theorem announced_of_commandOf {num : Byte} {ps : List Byte} (h : CommandOf num ps c)
    (noCode : num = 0x22 ∨ num = 0x23 → ps.length = 1 → ps = [0]) : announced num ps = (0, false) := by
  by_cases load : num = 0x20
  · have long : ps.length ≠ 6 := by
      subst load
      obtain ⟨ident, x, y, z, w, dir, data, sum, rfl, -⟩ : ∃ ident x y z w dir data sum,
          ps = ident :: x :: y :: z :: w :: dir :: (data ++ [sum]) ∧ c = .load ident (x ++ y) (z ++ w) dir sum := by
        simpa [CommandOf] using h
      simp
    subst load
    rw [announced_load, if_neg long]
  · by_cases dict : num = 0x22 ∨ num = 0x23
    · rw [announced_dict dict]
      split
      · next one => rw [noCode dict one]; rfl
      · rfl
    · exact announced_other load dict ps

/-! ### Complete items (R4, R15 to R17, R20) -/

theorem Front.complete_endDefine (f : Front) (bytes : List Byte) :
    f.complete .endDefine bytes = .item .endDefine (f.at .ground) := by
  rw [Front.complete, if_pos rfl]
  rfl

theorem Front.complete_eq (f : Front) (other : c ≠ .endDefine) (bytes : List Byte) :
    f.complete c bytes =
      match f.intake.mode with
      | .execute =>
        if barredInFormat c && !f.intake.sources.isEmpty then
          .quiet { f.at .ground with events := postTo f.events .formatError }
        else .item c (f.at .ground)
      | .define number nestable stored => .quiet ((f.at .ground).store number nestable stored bytes)
      | .defineDiscard => .quiet (f.at .ground) :=
  if_neg other

/-- In EXECUTE an item goes to its owner, unless it comes from a format that does not carry it out. -/
theorem Front.complete_of_execute {f : Front} (other : c ≠ .endDefine) (mode : f.intake.mode = .execute)
    (free : barredInFormat c = false ∨ f.intake.sources = []) (bytes : List Byte) :
    f.complete c bytes = .item c (f.at .ground) := by
  have carried : (barredInFormat c && !f.intake.sources.isEmpty) = false := by
    rcases free with h | h <;> simp [h]
  rw [Front.complete_eq f other, mode, carried]
  rfl

/-- An item that its mode or its depth keeps from its owner is set aside as the statements say. -/
theorem Front.complete_of_setAside {bytes : List Byte} {t : State} (other : c ≠ .endDefine)
    (h : SetAside u (barredInFormat c) bytes t) : ∃ f, u.front.complete c bytes = .quiet f ∧ t = u.withFront f := by
  rw [Front.complete_eq u.front other]
  rcases h with ⟨n, nestable, stored, mode, rfl⟩ | ⟨mode, rfl⟩ | ⟨mode, depth, barred, rfl⟩
  · rw [show u.front.intake.mode = .define n nestable stored from mode]
    refine ⟨_, rfl, ?_⟩
    unfold Front.store
    split
    · next fits =>
      rw [if_pos (show (u.front.at .ground).formats.memory.length + bytes.length ≤ Config.formatMemory from fits)]
      rfl
    · next fits =>
      rw [if_neg (show ¬(u.front.at .ground).formats.memory.length + bytes.length ≤ Config.formatMemory from fits)]
      rfl
  · rw [show u.front.intake.mode = .defineDiscard from mode]
    exact ⟨_, rfl, rfl⟩
  · have kept : (barredInFormat c && !u.front.intake.sources.isEmpty) = true := by
      have : u.front.intake.sources ≠ [] := depth
      simp [barred, this]
    rw [show u.front.intake.mode = .execute from mode, kept]
    exact ⟨_, rfl, rfl⟩

/-! ### One entry, by position (R5 to R9) -/

theorem atPosition_eq (u : State) (p : Position) : u.withFront (u.front.at p) = atPosition u p := rfl

theorem atPosition_ground (h : u.intake.position = .ground) : atPosition u .ground = u := by
  unfold atPosition
  rw [← h]

theorem takeEntry_ground (h : u.intake.position = .ground) (b : Byte) :
    u.front.takeEntry (.plain b) = u.front.takeGround b := by
  unfold Front.takeEntry
  rw [show u.front.intake.position = .ground from h]

theorem takeEntry_number (h : u.intake.position = .number) (b : Byte) :
    u.front.takeEntry (.plain b) = u.front.takeNumber b := by
  unfold Front.takeEntry
  rw [show u.front.intake.position = .number from h]

theorem takeEntry_parameter {num : Byte} {taken : List Byte} {n : Nat}
    (h : u.intake.position = .parameter num taken n) (b : Byte) :
    u.front.takeEntry (.plain b) = u.front.takeParameter num taken n b := by
  unfold Front.takeEntry
  rw [show u.front.intake.position = .parameter num taken n from h]

theorem takeNumber_of_command (count : paramCount b = some 0) (h : commandItem b [] = some c)
    (f : Front) : f.takeNumber b = f.complete c [0x1C, b] := by
  rw [Front.takeNumber, count]
  simp only [h]

/-- A damaged code in GROUND and EXECUTE is an item; elsewhere it abandons what was half taken (R9). -/
theorem takeDamaged_item {f : Front} (ground : f.intake.position = .ground) (mode : f.intake.mode = .execute) :
    f.takeDamaged = .item .damagedCode f := by
  rw [Front.takeDamaged, ground, mode]

theorem takeDamaged_quiet {f : Front} (h : f.intake.position ≠ .ground ∨ f.intake.mode ≠ .execute) :
    f.takeDamaged = .quiet (f.at .ground) := by
  unfold Front.takeDamaged
  split
  · next ground mode => exact absurd ⟨ground, mode⟩ (not_and_or.2 h)
  · rfl

/-- The part with the parameter byte of `takeParameter` accounted for: staged, and the clamp of a LOAD's count noted. -/
def Front.withParameter (f : Front) (num : Byte) (taken : List Byte) (toCome : Nat) (b : Byte) : Front :=
  { f.stage num taken toCome b with
    events :=
      postWhen ((announced num (taken ++ [b])).2 && (f.intake.mode == Mode.execute)) .parameterClamped f.events }

theorem Front.stage_frame (f : Front) (num : Byte) (taken : List Byte) (toCome : Nat) (b : Byte) :
    ∃ x, f.stage num taken toCome b = { f with staging := x } := by
  unfold Front.stage
  split
  · exact ⟨_, rfl⟩
  · exact ⟨f.staging, rfl⟩

/-- A command with all its parameter bytes: complete, or no item and done with. -/
def Front.completeCommand (f : Front) (num : Byte) (ps : List Byte) : Taken :=
  match commandItem num ps with
  | some i => f.complete i (0x1C :: num :: ps)
  | none => .quiet (f.at .ground)

theorem Front.completeCommand_of_item {num : Byte} {ps : List Byte} (item : commandItem num ps = some c) (f : Front) :
    f.completeCommand num ps = f.complete c (0x1C :: num :: ps) := by
  simp [Front.completeCommand, item]

theorem Front.takeParameter_eq (f : Front) (num : Byte) (taken : List Byte) (toCome : Nat) (b : Byte) :
    f.takeParameter num taken toCome b =
      if toCome - 1 + (announced num (taken ++ [b])).1 = 0 then
        (f.withParameter num taken toCome b).completeCommand num (taken ++ [b])
      else
        .quiet ((f.withParameter num taken toCome b).at
          (.parameter num (taken ++ [b]) (toCome - 1 + (announced num (taken ++ [b])).1))) := by
  obtain ⟨x, staged⟩ := Front.stage_frame f num taken toCome b
  unfold Front.takeParameter Front.withParameter
  rw [staged]
  rfl

/-- Settles O8: the entry taken completes the item, and in EXECUTE the item goes to its owner. -/
theorem parserDeliversInStreamOrder : Obligations.ParserDeliversInStreamOrder := by
  unfold Obligations.ParserDeliversInStreamOrder
  refine ⟨fun e s u next => ⟨fun ground mode => ⟨fun b c byte single => ?_, fun damaged => ?_⟩,
    fun number b byte => ⟨fun c mode bare free => ?_, fun ends => ?_⟩,
    fun num taken b c position byte mode command noCode free => ?_⟩, fun c s u holding takes => ?_⟩
  · obtain ⟨item, carried, other⟩ := singleItem_of single
    have complete : u.front.takeEntry e = .item c (u.front.at .ground) := by
      rw [byte, takeEntry_ground ground, Front.takeGround, item]
      exact Front.complete_of_execute other mode (.inl carried) _
    have takes := takes_of_nextEntry next complete
    rwa [atPosition_eq, atPosition_ground ground] at takes
  · have item : u.front.takeEntry e = .item .damagedCode u.front := by
      rw [damaged]
      exact takeDamaged_item ground mode
    exact takes_of_nextEntry next item
  · obtain ⟨count, item, bars, other⟩ := decodesTo_of_bareCommand bare
    have carried : barredInFormat c = false ∨ u.front.intake.sources = [] := by
      rcases free with ⟨n24, n35⟩ | depth
      · exact .inl (by rw [bars, beq_false_of_ne n24, beq_false_of_ne n35]; rfl)
      · exact .inr depth
    have complete : u.front.takeEntry e = .item c (u.front.at .ground) := by
      rw [byte, takeEntry_number number, takeNumber_of_command count item]
      exact Front.complete_of_execute other mode carried _
    exact takes_of_nextEntry next complete
  · have complete : u.front.takeEntry e = .item .endDefine (u.front.at .ground) := by
      rw [byte, takeEntry_number number, ends, takeNumber_of_command (c := .endDefine) rfl rfl]
      exact Front.complete_endDefine _ _
    exact takes_of_nextEntry next complete
  · obtain ⟨item, bars, other⟩ := decodesTo_of_commandOf command
    have none : announced num (taken ++ [b]) = (0, false) :=
      announced_of_commandOf command fun dict one => by
        have empty : taken = [] := by simpa using one
        rw [empty, noCode dict empty]
        rfl
    have carried : barredInFormat c = false ∨ u.front.intake.sources = [] := by
      rcases free with free | depth
      · exact .inl (bars.trans (by simpa [barredNumber, and_assoc] using free))
      · exact .inr depth
    have plain : u.front.withParameter num taken 1 b = u.front := by
      simp [Front.withParameter, Front.stage, none, postWhen]
    have complete : u.front.takeEntry e = .item c (u.front.at .ground) := by
      rw [byte, takeEntry_parameter position, Front.takeParameter_eq, none,
        if_pos (show 1 - 1 + 0 = 0 from rfl), Front.completeCommand_of_item item, plain]
      exact Front.complete_of_execute other mode carried _
    exact takes_of_nextEntry next complete
  · obtain ⟨free, -⟩ := takes_frame takes
    rw [holding] at free
    cases free

/-- The part after a parameter byte, as the statements say it. -/
theorem withFront_withParameter (u : State) (num : Byte) (taken : List Byte) (n : Nat) (b : Byte) :
    let all := taken ++ [b]
    let ident := (all[0]?).getD 0
    let size := if ident = 0x60 then 3 else if ident = 0x62 then 2 else 1
    let sent := (((all[3]?).getD 0) ++ ((all[4]?).getD 0) : Word16).toNat
    let header : Bool := num = 0x20 ∧ all.length = 6
    let direct := u.intake.mode = .execute ∧ u.intake.sources = []
    let data := num = 0x20 ∧ 6 ≤ taken.length ∧ 2 ≤ n ∧ direct
    let staged : State := { u with tables := { u.tables with
      staging := if data then u.tables.staging.setIfInBounds (taken.length - 6) b else u.tables.staging } }
    u.withFront (u.front.withParameter num taken n b) =
      if header = true ∧ u.intake.mode = .execute ∧ 512 / size < sent then posted .parameterClamped staged
      else staged := by
  intro all ident size sent header direct data staged
  have stage : u.front.stage num taken n b = staged.front := by
    by_cases isData : data
    · simp only [staged, if_pos isData]
      exact if_pos isData
    · simp only [staged, if_neg isData]
      exact if_neg isData
  have clamped : (announced num (taken ++ [b])).2 = (header && decide (512 / size < sent)) := by rw [announced_append]
  have noted : (header = true ∧ u.intake.mode = .execute ∧ 512 / size < sent) ↔
      ((announced num (taken ++ [b])).2 && (u.front.intake.mode == Mode.execute)) = true := by
    rw [clamped]
    simp only [Bool.and_eq_true, decide_eq_true_iff, beq_iff_eq]
    exact ⟨fun ⟨h, m, k⟩ => ⟨⟨h, k⟩, m⟩, fun ⟨⟨h, k⟩, m⟩ => ⟨h, m, k⟩⟩
  unfold Front.withParameter
  rw [stage]
  by_cases note : header = true ∧ u.intake.mode = .execute ∧ 512 / size < sent
  · rw [if_pos note, noted.1 note]
    rfl
  · rw [if_neg note, Bool.eq_false_iff.2 fun h => note (noted.2 h)]
    rfl

/-- Settles O7: the take by position, and what becomes of a complete item that is set aside. -/
theorem parserTakesOneEntry : Obligations.ParserTakesOneEntry := by
  unfold Obligations.ParserTakesOneEntry
  intro e s u next
  refine ⟨fun ground b byte => ⟨fun escape => ?_, fun noEscape noItem => ?_, fun c t single aside => ?_⟩,
    fun number b byte => ⟨fun unknown => ?_, fun n known => ?_, fun t bare noEnd aside => ?_⟩,
    fun num taken n position b byte => ?_, fun damaged away => ?_⟩
  · have quiet : u.front.takeEntry e = .quiet (u.front.at .number) := by
      rw [byte, takeEntry_ground ground, escape]
      rfl
    exact parserTake_of_nextEntry next quiet
  · have quiet : u.front.takeEntry e = u.front.unknown := by
      rw [byte, takeEntry_ground ground, Front.takeGround, singleItem_eq_none noItem]
      exact if_neg noEscape
    have took := parserTake_of_nextEntry next quiet
    rw [← atPosition_ground ground]
    exact took
  · obtain ⟨item, carried, other⟩ := singleItem_of single
    rw [← carried] at aside
    obtain ⟨f, quiet, rfl⟩ := Front.complete_of_setAside other aside
    refine parserTake_of_nextEntry next ?_
    rw [byte, takeEntry_ground ground, Front.takeGround, item]
    exact quiet
  · have quiet : u.front.takeEntry e = u.front.unknown := by
      rw [byte, takeEntry_number number, Front.takeNumber, paramCount_of_not_mem_catalogue unknown]
    exact parserTake_of_nextEntry next quiet
  · have quiet : u.front.takeEntry e = .quiet (u.front.at (.parameter b [] (n + 1))) := by
      rw [byte, takeEntry_number number, Front.takeNumber, paramCount_of_mem_catalogue known]
    exact parserTake_of_nextEntry next quiet
  · obtain ⟨c, bareCommand⟩ := bareCommand_of_mem_catalogue bare noEnd
    obtain ⟨count, item, bars, other⟩ := decodesTo_of_bareCommand bareCommand
    rw [← bars] at aside
    obtain ⟨f, quiet, rfl⟩ := Front.complete_of_setAside other aside
    refine parserTake_of_nextEntry next ?_
    rw [byte, takeEntry_number number, takeNumber_of_command count item]
    exact quiet
  · intro all ident size sent header announced' left direct data staged noted
    have after : noted = u.withFront (u.front.withParameter num taken n b) :=
      (withFront_withParameter u num taken n b).symm
    have more : n - 1 + (announced num (taken ++ [b])).1 = left := by rw [announced_append]
    have take : u.front.takeEntry e = u.front.takeParameter num taken n b := by rw [byte, takeEntry_parameter position]
    rw [Front.takeParameter_eq, more] at take
    clear_value noted
    subst after
    refine ⟨fun some => ?_, fun c t zero command aside => ?_⟩
    · rw [if_neg some] at take
      exact parserTake_of_nextEntry next take
    · obtain ⟨item, bars, other⟩ := decodesTo_of_commandOf command
      rw [show (num == 0x20 || num == 0x21 || num == 0x22 || num == 0x23) = barredNumber num from rfl, ← bars] at aside
      obtain ⟨f, quiet, rfl⟩ := Front.complete_of_setAside other aside
      rw [if_pos zero, Front.completeCommand_of_item item] at take
      exact parserTake_of_nextEntry next (take.trans quiet)
  · have quiet : u.front.takeEntry e = .quiet (u.front.at .ground) := by
      rw [damaged]
      exact takeDamaged_quiet away
    exact parserTake_of_nextEntry next quiet

end Sys2Proof.Machine
end

section
/-! PROOFS. RESET and its end (`ResetGivesTheResetState`, `ResetEndBeginsHoming`), and the part under RESET
(`StepsUnderResetKeepTheResetState`): its parser has nothing to take, and every operation of its photo unit leaves the
reset state as it is. -/

namespace Sys2Proof.Machine

open Sys2Proof Sys2Proof.Safety

/-! ### The reset values -/

theorem tabGet_replicate {α : Type} (n : Nat) (x : α) (i : Nat) : tabGet (Vector.replicate n x) x i = x := by
  unfold tabGet
  by_cases h : i < n
  · simp [h]
  · simp [h]

theorem Tables.widthSlot_reset (k : Nat) : Tables.reset.widthSlot k = .reset := tabGet_replicate _ _ _

theorem Tables.classOf_reset (c : Byte) (h : 0x20 ≤ c.toNat) : Tables.reset.classOf c = ⟨0, false, c⟩ := by
  have hi : c.toNat - 0x20 < 224 := by omega
  have code : BitVec.ofNat 8 (c.toNat - 0x20 + 0x20) = c := by
    rw [Nat.sub_add_cancel h]
    simp
  simp [Tables.classOf, Tables.reset, tabGet, hi, code]

theorem Tables.hasLens_reset : Tables.reset.hasLens = false := by decide

theorem WidthSlot.reset_spec (k : Nat) :
    let w := Tables.reset.widthSlot k
    w.valid = false ∧ w.codeMapLoaded = false ∧ w.widthsLoaded = false ∧ w.infoLoaded = false ∧
      (∀ i, tabGet w.codeMap none i = none) ∧ (∀ i, tabGet w.widths 0 i = 0) ∧ (∀ i, tabGet w.kernClasses 0 i = 0) ∧
      (∀ i, tabGet w.kernPairs 0 i = 0) ∧ ∀ i, tabGet w.info 0 i = 0 := by
  rw [Tables.widthSlot_reset]
  exact ⟨rfl, rfl, rfl, rfl, tabGet_replicate _ _, tabGet_replicate _ _, tabGet_replicate _ _, tabGet_replicate _ _,
    tabGet_replicate _ _⟩

theorem Locks.get_reset (tab : Table) : Locks.reset.get tab = false := by
  cases tab with
  | codeMap s => exact tabGet_replicate _ _ _
  | widths s => exact tabGet_replicate _ _ _
  | kernClasses s => exact tabGet_replicate _ _ _
  | kernPairs s => exact tabGet_replicate _ _ _
  | info s => exact tabGet_replicate _ _ _
  | directory => rfl
  | lenses => rfl
  | classes => rfl
  | rules => rfl
  | formats => rfl
  | dictionary => rfl

theorem Store.slot_reset (i : Nat) : Store.reset.slot i = ⟨.free, .blank⟩ := tabGet_replicate _ _ _

theorem Store.slot_reset_spec (i : Nat) :
    (Store.reset.slot i).state = .free ∧ (Store.reset.record i).discard = false := by
  rw [Store.record, Store.slot_reset]
  exact ⟨rfl, rfl⟩

/-- Settles O3: field by field, the tables' entries by the lemmas above. -/
theorem resetGivesTheResetState : Obligations.ResetGivesTheResetState := by
  unfold Obligations.ResetGivesTheResetState
  intro s
  exact ⟨_, rfl, rfl, rfl, rfl, rfl, rfl, rfl, rfl, rfl, rfl, tabGet_replicate _ _, rfl, rfl, rfl, rfl, rfl, rfl,
    rfl, rfl, rfl, rfl, rfl, rfl, rfl, rfl, rfl, rfl, rfl, rfl, rfl, rfl, rfl, rfl, rfl, rfl, rfl, rfl, rfl, rfl, rfl,
    rfl, rfl, tabGet_replicate _ _, WidthSlot.reset_spec, Tables.hasLens_reset, tabGet_replicate _ _,
    Tables.classOf_reset, tabGet_replicate _ _, Locks.get_reset, rfl, rfl, Store.slot_reset_spec, rfl, rfl, rfl, rfl,
    rfl, rfl, rfl, rfl, rfl, rfl, rfl, rfl, rfl, rfl, rfl, rfl, rfl, rfl, rfl, rfl, rfl, rfl, rfl, rfl, rfl, rfl, rfl,
    rfl, rfl, rfl, rfl, rfl, rfl, rfl, rfl, rfl, rfl, rfl, rfl, rfl, rfl, rfl, tabGet_replicate _ _, rfl, rfl, rfl,
    rfl, rfl, rfl⟩

/-! ### The end of RESET (R3, R125, R126) -/

/-- Only a FAULT takes the homing notice (R161). -/
theorem Film.homing_of_noFault {x : Film} (h : x.transport ≠ .fault) : x.homing = x := by
  unfold Film.homing
  split
  · next fault => exact absurd fault h
  · rfl

/-- Settles O4: the Imager starts from its reset state, where nothing moves and no position is known. -/
theorem resetEndBeginsHoming : Obligations.ResetEndBeginsHoming := by
  unfold Obligations.ResetEndBeginsHoming
  intro detent s up imager u
  have start : exec (.resetEnd detent) s = .next (u.withPhoto ((u.photo false).start detent)) := by
    change execResetEnd detent s = _
    rw [execResetEnd, if_pos up]
    rfl
  rw [start, Photo.start]
  refine ⟨fun coverOpen => ?_, fun coverClosed film => ?_⟩
  · rw [if_pos (show (u.photo false).pins.coverOpen = true from coverOpen)]
    rfl
  · have fixed : (u.photo false).film.homing = u.film := Film.homing_of_noFault film
    have reset : (u.photo false).imager = Imager.reset := imager
    have reset' : u.imager = Imager.reset := imager
    rw [if_neg (by rw [show (u.photo false).pins.coverOpen = false from coverClosed]; exact Bool.false_ne_true),
      Photo.beginHoming, fixed, reset, reset']
    cases detent <;> rfl

/-! ### The part under RESET (R2, R123, R125, R150, R163) -/

variable {s t : State}

/-- The parser has nothing to take. -/
theorem offer_reset (pins : Pins) (pending : List Instr) :
    ({ State.resetWith pins with pending := pending } : State).offer = .nothing := rfl

theorem State.postWhen_pins (s : State) (c : Bool) (e : Event) : (s.postWhen c e).pins = s.pins := by
  cases c <;> rfl

theorem State.runOut_pins (s : State) : s.runOut.pins = s.pins := by
  obtain ⟨mode, sources, h⟩ := runOut_frame s
  rw [h]

theorem State.takeReplyItem_pins (s : State) (x : HeldReply) : (s.takeReplyItem x).pins = s.pins := by
  cases x <;> rfl

theorem State.replyItem_pins (s : State) (x : HeldReply) : (s.replyItem x).pins = s.pins := by
  unfold State.replyItem
  split
  · exact State.takeReplyItem_pins s x
  · rfl

theorem State.retryHeld_pins (s : State) : s.retryHeld.pins = s.pins := by
  unfold State.retryHeld
  split
  · rfl
  · next x held =>
    split
    · rw [State.runOut_pins, State.takeReplyItem_pins]
      rfl
    · rfl

theorem State.retrySync_pins (s : State) : s.retrySync.pins = s.pins := by
  unfold State.retrySync
  split
  · exact State.retryHeld_pins s
  · rfl

theorem State.onPhoto_pins (s : State) (busy : Bool) (f : Photo → Photo) : (s.onPhoto busy f).pins = s.pins :=
  State.retrySync_pins _

/-- A law of the part under RESET asks nothing of a part that is not. -/
theorem resetLaw_of_released (h : s.pins.resetLine = false) : ResetLaw s := fun up => by
  rw [h] at up
  cases up

/-- An item's step: under RESET there is no item, and no item asserts RESET. -/
theorem resetLaw_deliver {i : Instr} {owner : State → State} (law : ResetLaw s) (h : deliver i owner s = .next t)
    (pins : ∀ u, (owner u).pins = u.pins) : ResetLaw t := by
  rcases deliver_cases i owner s with same | ⟨u, takes, delivered⟩
  · rw [same] at h
    cases h
    exact law
  · rw [delivered] at h
    cases h
    obtain ⟨-, f, -, rfl⟩ := takes_frame takes
    intro up
    rw [State.runOut_pins, pins] at up
    rw [Takes, law up, offer_reset] at takes
    cases takes

/-- An operation of the photo unit that leaves its reset state as it is. -/
def StillUnderReset (f : Photo → Photo) (busy : Bool) : Prop :=
  ∀ pins, f ((State.resetWith pins).photo busy) = (State.resetWith pins).photo busy

theorem onPhoto_reset {f : Photo → Photo} {busy : Bool} (still : StillUnderReset f busy) (pins : Pins)
    (pending : List Instr) :
    ({ State.resetWith pins with pending := pending } : State).onPhoto busy f =
      { State.resetWith pins with pending := pending } := by
  have same := still pins
  unfold State.onPhoto
  rw [show (({ State.resetWith pins with pending := pending } : State).photo busy) =
    (State.resetWith pins).photo busy from rfl, same]
  rfl

theorem resetLaw_onPhoto {f : Photo → Photo} {busy : Bool} (law : ResetLaw s)
    (h : (.next (s.onPhoto busy f) : StepResult) = .next t) (still : StillUnderReset f busy) : ResetLaw t := by
  cases h
  intro up
  rw [State.onPhoto_pins] at up
  rw [State.onPhoto_pins]
  have reset := law up
  generalize s.pins = pins at reset
  generalize s.pending = pending at reset
  subst reset
  rw [onPhoto_reset still]

/-! ### The input levels over the owners of the items -/

theorem State.takeFont_pins (s : State) (f : Nat) : (s.takeFont f).pins = s.pins := by
  unfold State.takeFont
  split <;> rfl

theorem State.takeSave_pins (s : State) (mask : Byte) : (s.takeSave mask).pins = s.pins := by
  unfold State.takeSave
  split <;> rfl

theorem State.takeRestore_pins (s : State) (mask : Byte) : (s.takeRestore mask).pins = s.pins := by
  unfold State.takeRestore
  split
  · rfl
  · exact State.postWhen_pins _ _ _

theorem State.takeDefine_pins (s : State) (n : Nat) (nestable : Bool) : (s.takeDefine n nestable).pins = s.pins := by
  unfold State.takeDefine
  split <;> rfl

theorem State.takeEndDefine_pins (s : State) : s.takeEndDefine.pins = s.pins := by
  unfold State.takeEndDefine
  split
  · rfl
  · rfl
  · dsimp only
    split <;> rfl

theorem State.takeCall_pins (s : State) (n : Nat) : (s.takeCall n).pins = s.pins := by
  unfold State.takeCall
  split <;> rfl

theorem State.commitLoad_pins (s : State) (tab : Table) (b : LoadBlock) : (s.commitLoad tab b).pins = s.pins :=
  State.postWhen_pins _ _ _

theorem State.takeLensLoad_pins (s : State) (b : LoadBlock) : (s.takeLensLoad b).pins = s.pins := by
  unfold State.takeLensLoad
  split
  · rfl
  · split
    · rfl
    · exact State.commitLoad_pins s _ b

theorem State.takeLoad_pins (s : State) (b : LoadBlock) : (s.takeLoad b).pins = s.pins := by
  refine Eq.trans ?_ (State.postWhen_pins s b.directionOut .parameterClamped)
  unfold State.takeLoad
  dsimp only
  split
  · rfl
  · split
    · exact State.takeLensLoad_pins _ b
    · exact State.commitLoad_pins _ _ b
    · rfl

theorem State.endLensWait_pins (s : State) (b : LoadBlock) : (s.endLensWait b).pins = s.pins := by
  unfold State.endLensWait
  dsimp only
  split
  · exact State.commitLoad_pins _ _ b
  · rfl

theorem State.takeLock_pins (s : State) (ident : Byte) : (s.takeLock ident).pins = s.pins := by
  unfold State.takeLock
  split <;> rfl

theorem State.takeDictAdd_pins (s : State) (codes : List Byte) : (s.takeDictAdd codes).pins = s.pins := by
  unfold State.takeDictAdd
  split
  · rfl
  · split
    · rfl
    · dsimp only
      split <;> rfl

theorem State.takeDictDelete_pins (s : State) (codes : List Byte) : (s.takeDictDelete codes).pins = s.pins := by
  unfold State.takeDictDelete
  split
  · rfl
  · dsimp only
    split <;> rfl

theorem State.takeDictClear_pins (s : State) : s.takeDictClear.pins = s.pins := by
  unfold State.takeDictClear
  split <;> rfl

/-! ### The photo unit in its reset state -/

section Still

variable (busy : Bool)

theorem takeLine_still : StillUnderReset Photo.takeLine busy := fun _ => rfl

theorem turretSteps_still (detent : Bool) : StillUnderReset (·.turretSteps detent) busy := fun _ => rfl

theorem expire_still (timer : ImagerTimer) (e : Event) : StillUnderReset (·.expire timer e) busy := by
  intro pins
  cases timer <;> rfl

theorem carriageArrives_still : StillUnderReset Photo.carriageArrives busy := fun _ => rfl

theorem ringSettles_still : StillUnderReset Photo.ringSettles busy := fun _ => rfl

theorem sectorEvent_still (n : Nat) : StillUnderReset (·.sectorEvent n) busy := fun _ => rfl

theorem indexEvent_still (n : Nat) : StillUnderReset (·.indexEvent n) busy := fun _ => rfl

theorem confirm_still : StillUnderReset Photo.confirm busy := fun _ => rfl

theorem notBusy_still : StillUnderReset Photo.notBusy busy := by
  intro pins
  exact if_neg fun h => nomatch h.2

theorem busyExpires_still : StillUnderReset Photo.busyExpires busy := fun _ => rfl

theorem accept_still : StillUnderReset Photo.accept busy := by
  intro pins
  exact if_neg fun h => h.2.elim nofun nofun

theorem ackExpires_still : StillUnderReset Photo.ackExpires busy := fun _ => rfl

/-- An event of the film drive or the cutter finds Film Transport in FILM OUT or NO CASSETTE. -/
theorem runFilm_still {f : Film → FilmResult} (still : ∀ pins, f (.reset pins) = (Film.reset pins).quietly) :
    StillUnderReset (fun p => p.runFilm (f p.film)) busy := by
  intro pins
  change Photo.runFilm _ (f (.reset pins)) = _
  rw [still]
  rfl

end Still

theorem Film.reset_transport (pins : Pins) :
    (Film.reset pins).transport = .filmOut ∨ (Film.reset pins).transport = .noCassette := by
  unfold Film.reset
  dsimp only
  split
  · exact .inl rfl
  · exact .inr rfl

theorem Film.arrive_reset (pins : Pins) : (Film.reset pins).arrive = (Film.reset pins).quietly := by
  rcases Film.reset_transport pins with h | h <;> rw [Film.arrive, h]

theorem Film.moveExpires_reset (pins : Pins) : (Film.reset pins).moveExpires = (Film.reset pins).quietly := by
  rcases Film.reset_transport pins with h | h <;> rw [Film.moveExpires, h]

theorem Film.cutterEnds_reset (pins : Pins) : (Film.reset pins).cutterEnds = (Film.reset pins).quietly := by
  rcases Film.reset_transport pins with h | h <;> rw [Film.cutterEnds, h]

theorem Film.cutterExpires_reset (pins : Pins) : (Film.reset pins).cutterExpires = (Film.reset pins).quietly := by
  rcases Film.reset_transport pins with h | h <;> rw [Film.cutterExpires, h]

/-! ### Every command under RESET -/

/-- The part in its reset state, with input levels and a queue of commands. -/
def resetState (pins : Pins) (pending : List Instr) : State := { State.resetWith pins with pending := pending }

theorem resetState_law (pins : Pins) (pending : List Instr) : ResetLaw (resetState pins pending) := fun _ => rfl

/-- A command that leaves the reset state a reset state, and that does not assert RESET. -/
theorem resetLaw_of_still {c : Instr} (law : ResetLaw s) (h : exec c s = .next t)
    (still : ∀ pins pending, pins.resetLine = true →
      ∃ pins', exec c (resetState pins pending) = .next (resetState pins' pending))
    (released : s.pins.resetLine = false → t.pins.resetLine = false) : ResetLaw t := by
  by_cases up : s.pins.resetLine = true
  · obtain ⟨pins', stays⟩ := still s.pins s.pending up
    rw [law up] at h
    have same : (.next t : StepResult) = .next (resetState pins' s.pending) := h.symm.trans stays
    cases same
    exact resetState_law pins' s.pending
  · exact resetLaw_of_released (released (by simpa using up))

theorem offer_quiet_pins {u : State} (h : s.offer = .quiet u) : u.pins = s.pins := by
  unfold State.offer at h
  split at h
  · cases h
  · split at h
    · cases h
    · cases h
      rfl
    · cases h

theorem resetLaw_frameReceived {data : Byte} {parity stop : Bool} (law : ResetLaw s)
    (h : exec (.frameReceived data parity stop) s = .next t) : ResetLaw t := by
  refine resetLaw_of_still law h (fun pins pending up => ⟨pins, if_pos up⟩) fun down => ?_
  change execFrameReceived data parity stop s = _ at h
  simp only [execFrameReceived, down, Bool.false_eq_true, if_false] at h
  cases h
  exact down

theorem resetLaw_parserTake (law : ResetLaw s) (h : exec .parserTake s = .next t) : ResetLaw t := by
  refine resetLaw_of_still law h (fun pins pending _ => ⟨pins, rfl⟩) fun down => ?_
  change execParserTake s = _ at h
  unfold execParserTake at h
  split at h
  · next u offers =>
    cases h
    rw [State.runOut_pins, offer_quiet_pins offers]
    exact down
  · cases h
    exact down

theorem resetLaw_resetEnd {detent : Bool} (law : ResetLaw s) (h : exec (.resetEnd detent) s = .next t) :
    ResetLaw t := by
  change execResetEnd detent s = _ at h
  unfold execResetEnd at h
  split at h
  · cases h
    exact resetLaw_of_released rfl
  · cases h
    exact law

theorem resetLaw_waitSlotResume (law : ResetLaw s) (h : exec .waitSlotResume s = .next t) : ResetLaw t := by
  refine resetLaw_of_still law h (fun pins pending _ => ⟨pins, rfl⟩) fun down => ?_
  change execWaitSlotResume s = _ at h
  unfold execWaitSlotResume at h
  split at h
  · split at h
    · cases h
      rw [State.runOut_pins]
      exact down
    · cases h
      exact down
  · cases h
    exact down

theorem resetLaw_lensCommitAfterWait (law : ResetLaw s) (h : exec .lensCommitAfterWait s = .next t) : ResetLaw t := by
  refine resetLaw_of_still law h (fun pins pending _ => ⟨pins, rfl⟩) fun down => ?_
  change execLensCommitAfterWait s = _ at h
  unfold execLensCommitAfterWait at h
  split at h
  · split at h
    · cases h
      rw [State.runOut_pins, State.endLensWait_pins]
      exact down
    · cases h
      exact down
  · cases h
    exact down

/-! #### The switches: their levels change, and what the reset state takes from them (log entry 27) -/

theorem resetLaw_switch {quiet live : State} (pins : Pins) (law : ResetLaw s)
    (h : (if pins.resetLine then .next quiet else .next live : StepResult) = .next t)
    (level : pins.resetLine = s.pins.resetLine)
    (underReset : s = resetState s.pins s.pending → quiet = resetState pins s.pending) (livePins : live.pins = pins) :
    ResetLaw t := by
  by_cases up : pins.resetLine = true
  · rw [if_pos up, underReset (law (level ▸ up))] at h
    cases h
    exact resetState_law pins s.pending
  · rw [if_neg up] at h
    cases h
    exact resetLaw_of_released (by rw [livePins]; simpa using up)

theorem resetLaw_coverOpens (law : ResetLaw s) (h : exec .coverOpens s = .next t) : ResetLaw t := by
  change execCoverOpens s = _ at h
  unfold execCoverOpens at h
  split at h
  · cases h
    exact law
  · exact resetLaw_switch { s.pins with coverOpen := true } law h rfl (fun reset => by rw [reset]; rfl)
      (State.onPhoto_pins _ _ _)

theorem resetLaw_coverCloses {detent busy : Bool} (law : ResetLaw s) (h : exec (.coverCloses detent busy) s = .next t) :
    ResetLaw t := by
  change execCoverCloses detent s busy = _ at h
  unfold execCoverCloses at h
  split at h
  · exact resetLaw_switch { s.pins with coverOpen := false } law h rfl (fun reset => by rw [reset]; rfl)
      (State.onPhoto_pins _ _ _)
  · cases h
    exact law

theorem resetLaw_cassetteRemoved {busy : Bool} (law : ResetLaw s) (h : exec (.cassetteRemoved busy) s = .next t) :
    ResetLaw t := by
  change execCassetteRemoved s busy = _ at h
  unfold execCassetteRemoved at h
  split at h
  · exact resetLaw_switch { s.pins with cassetteIn := false } law h rfl (fun reset => by rw [reset]; rfl)
      (State.onPhoto_pins _ _ _)
  · cases h
    exact law

theorem resetLaw_cassetteInserted {busy : Bool} (law : ResetLaw s) (h : exec (.cassetteInserted busy) s = .next t) :
    ResetLaw t := by
  change execCassetteInserted s busy = _ at h
  unfold execCassetteInserted at h
  split at h
  · cases h
    exact law
  · exact resetLaw_switch { s.pins with cassetteIn := true } law h rfl (fun reset => by rw [reset]; rfl)
      (State.onPhoto_pins _ _ _)

theorem resetLaw_selectInactive (law : ResetLaw s) (h : exec .selectInactive s = .next t) : ResetLaw t := by
  change execSelectInactive s = _ at h
  unfold execSelectInactive at h
  split at h
  · exact resetLaw_switch { s.pins with select := false } law h rfl (fun reset => by rw [reset]; rfl)
      (State.onPhoto_pins _ _ _)
  · cases h
    exact law

theorem resetLaw_selectActive {busy : Bool} (law : ResetLaw s) (h : exec (.selectActive busy) s = .next t) :
    ResetLaw t := by
  change execSelectActive busy s = _ at h
  unfold execSelectActive at h
  split at h
  · cases h
    exact law
  · exact resetLaw_switch { s.pins with select := true } law h rfl (fun reset => by rw [reset]; rfl)
      (State.onPhoto_pins _ _ _)

theorem resetLaw_serviceSwitchChange {on : Bool} (law : ResetLaw s) (h : exec (.serviceSwitchChange on) s = .next t) :
    ResetLaw t := by
  refine resetLaw_of_still law h (fun pins pending _ => ⟨{ pins with serviceSwitch := on }, rfl⟩) fun down => ?_
  cases h
  exact down

/-! #### The return link: its queue is empty under RESET -/

theorem resetLaw_clearToSend {level : Bool} {bytes : Byte} (law : ResetLaw s)
    (h : exec (.clearToSend level bytes) s = .next t) : ResetLaw t := by
  refine resetLaw_of_still law h (fun pins pending _ => ?_) fun down => ?_
  · change ∃ pins', (.next (State.setClearToSend _ _ _) : StepResult) = _
    unfold State.setClearToSend
    split
    · exact ⟨pins, rfl⟩
    · refine ⟨{ pins with cts := level }, ?_⟩
      have goOn : ReplyUnit.reset.goOn bytes.toNat = ReplyUnit.reset := rfl
      have halt : ReplyUnit.reset.halt bytes.toNat = ReplyUnit.reset := by
        change ({ ReplyUnit.reset with begun := max 0 (min bytes.toNat 0) } : ReplyUnit) = _
        rw [Nat.min_zero]
        rfl
      change (Host.Outcome.next (State.withReply _
        (if level then ReplyUnit.reset.goOn bytes.toNat else ReplyUnit.reset.halt bytes.toNat)) : StepResult) = _
      rw [goOn, halt, ite_self]
      rfl
  · change (.next (s.setClearToSend level bytes.toNat) : StepResult) = _ at h
    cases h
    unfold State.setClearToSend
    split
    · exact down
    · exact down

theorem resetLaw_replyRecordSent {heldFirst : Bool} (law : ResetLaw s)
    (h : exec (.replyRecordSent heldFirst) s = .next t) : ResetLaw t := by
  refine resetLaw_of_still law h (fun pins pending _ => ⟨pins, rfl⟩) fun down => ?_
  change (.next (s.recordSent heldFirst) : StepResult) = _ at h
  cases h
  unfold State.recordSent
  split
  · dsimp only
    split
    · rw [State.retryHeld_pins]
      exact down
    · exact down
  · exact down

theorem resetLaw_syncAnswer (law : ResetLaw s) (h : exec .syncAnswer s = .next t) : ResetLaw t := by
  refine resetLaw_of_still law h (fun pins pending _ => ⟨pins, rfl⟩) fun down => ?_
  change (.next s.answerWaiting : StepResult) = _ at h
  cases h
  unfold State.answerWaiting
  split
  · rw [State.retryHeld_pins]
    exact down
  · exact down

/-! #### All of them -/

theorem exec_resetLaw {c : Instr} (law : ResetLaw s) (h : exec c s = .next t) : ResetLaw t := by
  cases c with
  | reset => cases h; exact fun _ => rfl
  | resetEnd detent => exact resetLaw_resetEnd law h
  | frameReceived data parity stop => exact resetLaw_frameReceived law h
  | parserTake => exact resetLaw_parserTake law h
  | textCode c => exact resetLaw_deliver law h fun _ => rfl
  | interwordSpace => exact resetLaw_deliver law h fun _ => rfl
  | damagedCode => exact resetLaw_deliver law h fun _ => rfl
  | thinSpace => exact resetLaw_deliver law h fun _ => rfl
  | enSpace => exact resetLaw_deliver law h fun _ => rfl
  | emSpace => exact resetLaw_deliver law h fun _ => rfl
  | discretionaryHyphen => exact resetLaw_deliver law h fun _ => rfl
  | noHyphenate => exact resetLaw_deliver law h fun _ => rfl
  | noBreakSpace => exact resetLaw_deliver law h fun _ => rfl
  | killLine => exact resetLaw_deliver law h fun _ => rfl
  | endLine => exact resetLaw_deliver law h fun _ => rfl
  | endPara => exact resetLaw_deliver law h fun _ => rfl
  | font number =>
    exact resetLaw_deliver law h fun u => (State.postWhen_pins _ _ _).trans (State.takeFont_pins u _)
  | size halfPoints => exact resetLaw_deliver law h fun _ => State.postWhen_pins _ _ _
  | lead halfPoints => exact resetLaw_deliver law h fun _ => State.postWhen_pins _ _ _
  | measure halfPoints => exact resetLaw_deliver law h fun _ => State.postWhen_pins _ _ _
  | indent left right => exact resetLaw_deliver law h fun _ => State.postWhen_pins _ _ _
  | quad mode lastLine => exact resetLaw_deliver law h fun _ => State.postWhen_pins _ _ _
  | spaceband minimum normal maximum => exact resetLaw_deliver law h fun _ => State.postWhen_pins _ _ _
  | track units => exact resetLaw_deliver law h fun _ => State.postWhen_pins _ _ _
  | letterspace steps => exact resetLaw_deliver law h fun _ => State.postWhen_pins _ _ _
  | kerning switch => exact resetLaw_deliver law h fun _ => rfl
  | manualKern units => exact resetLaw_deliver law h fun _ => State.postWhen_pins _ _ _
  | hyphenation switch threshold => exact resetLaw_deliver law h fun _ => State.postWhen_pins _ _ _
  | hyphenLimits left right ladder capitals => exact resetLaw_deliver law h fun _ => State.postWhen_pins _ _ _
  | advance halfPoints => exact resetLaw_deliver law h fun _ => State.postWhen_pins _ _ _
  | reverse halfPoints => exact resetLaw_deliver law h fun _ => State.postWhen_pins _ _ _
  | columnMark => exact resetLaw_deliver law h fun _ => rfl
  | cut => exact resetLaw_deliver law h fun _ => rfl
  | cassette points busy => exact resetLaw_deliver law h fun _ => State.postWhen_pins _ _ _
  | stopDisc => exact resetLaw_deliver law h fun _ => rfl
  | save mask => exact resetLaw_deliver law h fun u => State.takeSave_pins u mask
  | restore mask => exact resetLaw_deliver law h fun u => State.takeRestore_pins u mask
  | define number nestable => exact resetLaw_deliver law h fun u => State.takeDefine_pins u _ _
  | endDefine => exact resetLaw_deliver law h State.takeEndDefine_pins
  | call number => exact resetLaw_deliver law h fun u => State.takeCall_pins u _
  | load ident start count direction sum => exact resetLaw_deliver law h fun u => State.takeLoad_pins u _
  | lock ident => exact resetLaw_deliver law h fun u => State.takeLock_pins u ident
  | dictAdd codes => exact resetLaw_deliver law h fun u => State.takeDictAdd_pins u codes
  | dictDelete codes => exact resetLaw_deliver law h fun u => State.takeDictDelete_pins u codes
  | dictClear => exact resetLaw_deliver law h State.takeDictClear_pins
  | proof mode policy => exact resetLaw_deliver law h fun _ => State.postWhen_pins _ _ _
  | lamp window most => exact resetLaw_deliver law h fun _ => State.postWhen_pins _ _ _
  | query => exact resetLaw_deliver law h fun u => State.replyItem_pins u _
  | events => exact resetLaw_deliver law h fun u => State.replyItem_pins u _
  | mask set => exact resetLaw_deliver law h fun _ => rfl
  | readLog count =>
    exact resetLaw_deliver law h fun u => (State.replyItem_pins _ _).trans (State.postWhen_pins u _ _)
  | sync token => exact resetLaw_deliver law h fun u => State.replyItem_pins u _
  | clear => exact resetLaw_deliver law h fun _ => rfl
  | waitSlotResume => exact resetLaw_waitSlotResume law h
  | lensCommitAfterWait => exact resetLaw_lensCommitAfterWait law h
  | takeLine busy => exact resetLaw_onPhoto law h (takeLine_still busy)
  | turretStepDone detent busy => exact resetLaw_onPhoto law h (turretSteps_still busy detent)
  | turretStepTimeout busy => exact resetLaw_onPhoto law h (expire_still busy _ _)
  | carriageArrival busy => exact resetLaw_onPhoto law h (carriageArrives_still busy)
  | carriageTimeout busy => exact resetLaw_onPhoto law h (expire_still busy _ _)
  | ringSettleExpiry => exact resetLaw_onPhoto law h (ringSettles_still false)
  | sectorEvent sector busy => exact resetLaw_onPhoto law h (sectorEvent_still busy _)
  | indexEvent identity busy => exact resetLaw_onPhoto law h (indexEvent_still busy _)
  | spinUpTimeout busy => exact resetLaw_onPhoto law h (expire_still busy _ _)
  | sectorGapTimeout busy => exact resetLaw_onPhoto law h (expire_still busy _ _)
  | recheckTimeout busy => exact resetLaw_onPhoto law h (expire_still busy _ _)
  | flashConfirm busy => exact resetLaw_onPhoto law h (confirm_still busy)
  | coverOpens => exact resetLaw_coverOpens law h
  | coverCloses detent busy => exact resetLaw_coverCloses law h
  | filmArrival busy => exact resetLaw_onPhoto law h (runFilm_still busy Film.arrive_reset)
  | filmMoveTimeout busy => exact resetLaw_onPhoto law h (runFilm_still busy Film.moveExpires_reset)
  | cutterDone busy => exact resetLaw_onPhoto law h (runFilm_still busy Film.cutterEnds_reset)
  | cutterTimeout busy => exact resetLaw_onPhoto law h (runFilm_still busy Film.cutterExpires_reset)
  | cassetteRemoved busy => exact resetLaw_cassetteRemoved law h
  | cassetteInserted busy => exact resetLaw_cassetteInserted law h
  | selectInactive => exact resetLaw_selectInactive law h
  | selectActive busy => exact resetLaw_selectActive law h
  | busyInactive => exact resetLaw_onPhoto law h (notBusy_still false)
  | busyTimeout => exact resetLaw_onPhoto law h (busyExpires_still false)
  | ack busy => exact resetLaw_onPhoto law h (accept_still busy)
  | ackTimeout => exact resetLaw_onPhoto law h (ackExpires_still false)
  | clearToSend asserted bytes => exact resetLaw_clearToSend law h
  | replyRecordSent heldFirst => exact resetLaw_replyRecordSent law h
  | syncAnswer => exact resetLaw_syncAnswer law h
  | serviceSwitchChange on => exact resetLaw_serviceSwitchChange law h

/-- Settles O5, command by command: an item's step, an operation of the photo unit, a switch, or the return link. -/
theorem stepsUnderResetKeepTheResetState : Obligations.StepsUnderResetKeepTheResetState := by
  unfold Obligations.StepsUnderResetKeepTheResetState
  exact fun c s t law h => exec_resetLaw law h

end Sys2Proof.Machine
end

section
/-! PROOFS. The parameters and the exception dictionary: which operations of the Composer leave the settings alone, what
keeps a group of parameters in its range, and what the edits do to the order of the dictionary. -/

namespace Sys2Proof.Machine

open Sys2Proof Sys2Proof.Safety

/-! ### Operations of the desk that set no parameter -/

/-- The settings in `e` are those in `d`: the parameters and the stack as they were, the manual kern pending or spent
(R25). -/
structure Composer.SameSettings (d e : Composer) : Prop where
  params : e.params = d.params
  stack : e.stack = d.stack
  kern : e.manualKern = d.manualKern ∨ e.manualKern = 0

theorem Composer.SameSettings.refl {c : Composer} : c.SameSettings c := ⟨rfl, rfl, .inl rfl⟩

theorem Composer.SameSettings.trans {c d e : Composer} (hcd : c.SameSettings d) (hde : d.SameSettings e) :
    c.SameSettings e :=
  ⟨hde.params.trans hcd.params, hde.stack.trans hcd.stack,
    hde.kern.elim (fun same => hcd.kern.imp same.trans same.trans) .inr⟩

/-- `Composer.SameSettings.trans` with the later operation first. -/
theorem Composer.SameSettings.after {c d e : Composer} (hde : d.SameSettings e) (hcd : c.SameSettings d) :
    c.SameSettings e :=
  hcd.trans hde

section Desk

variable (d : Desk) (t : Tables) (dict : List DictEntry)

theorem Desk.openLine_settings {d e : Desk} {line : OpenLine} (h : d.openLine = some (e, line)) :
    d.composer.SameSettings e.composer := by
  obtain ⟨-, -, composer, -⟩ := Desk.openLine_some h
  rw [composer]
  exact ⟨rfl, rfl, .inl rfl⟩

theorem Desk.closeOpen_settings (line : OpenLine) (lastLine : Bool) :
    d.composer.SameSettings (d.closeOpen line lastLine).composer := ⟨rfl, rfl, .inl rfl⟩

theorem Desk.takeSpace_settings (line : OpenLine) (kind : SpaceKind) :
    d.composer.SameSettings (d.takeSpace t line kind).composer := by
  unfold Desk.takeSpace
  dsimp only
  split
  · exact .refl
  · split
    · exact .refl
    · split
      · exact ⟨rfl, rfl, .inl rfl⟩
      · exact .refl

theorem Desk.emit_settings {d e : Desk} {r : LineRecord} {c : Composer} (h : d.emit r c = some e) :
    c.SameSettings e.composer := by
  unfold Desk.emit at h
  split at h
  · exact nomatch h
  · cases h; exact ⟨rfl, rfl, .inl rfl⟩

theorem Desk.emitCut_settings : d.composer.SameSettings d.emitCut.composer := by
  unfold Desk.emitCut
  split
  · next e emitted =>
    have emptied : d.composer.SameSettings { d.composer with adjust := 0, columnMark := false } := ⟨rfl, rfl, .inl rfl⟩
    exact emptied.trans (Desk.emit_settings emitted)
  · exact ⟨rfl, rfl, .inl rfl⟩

theorem Desk.emitStop_settings : d.composer.SameSettings d.emitStop.composer := by
  unfold Desk.emitStop
  split
  · next e emitted => exact Desk.emit_settings emitted
  · exact ⟨rfl, rfl, .inl rfl⟩

theorem Desk.spaceAfterWord_settings (code : Instr) (kind : SpaceKind) :
    d.composer.SameSettings (d.spaceAfterWord t code kind).composer := by
  unfold Desk.spaceAfterWord
  split
  · exact d.takeSpace_settings t _ kind
  · split
    · exact .refl
    · split
      · next e line opened => exact (Desk.openLine_settings opened).trans (e.takeSpace_settings t line kind)
      · exact ⟨rfl, rfl, .inl rfl⟩
  · exact .refl

theorem Desk.endAfterWord_settings (code : Instr) (lastLine : Bool) :
    d.composer.SameSettings (d.endAfterWord code lastLine).composer := by
  unfold Desk.endAfterWord
  split
  · exact d.closeOpen_settings _ lastLine
  · split
    · next e line opened => exact (Desk.openLine_settings opened).trans (e.closeOpen_settings line lastLine)
    · exact ⟨rfl, rfl, .inl rfl⟩
  · exact .refl

theorem Desk.closeForRecord_settings : d.composer.SameSettings d.closeForRecord.composer := by
  unfold Desk.closeForRecord
  split
  · exact d.closeOpen_settings _ true
  · exact .refl

theorem Desk.afterWord_settings (code : Instr) : d.composer.SameSettings (d.afterWord t code).composer := by
  unfold Desk.afterWord
  split
  · exact d.spaceAfterWord_settings t _ _
  · exact d.spaceAfterWord_settings t _ _
  · exact d.spaceAfterWord_settings t _ _
  · exact d.spaceAfterWord_settings t _ _
  · exact d.spaceAfterWord_settings t _ _
  · exact d.endAfterWord_settings _ false
  · exact d.endAfterWord_settings _ true
  · exact d.closeForRecord_settings.trans (Desk.emitCut_settings _)
  · exact d.closeForRecord_settings.trans (Desk.emitStop_settings _)
  · exact .refl

theorem Desk.afterBreak_settings (ending : Option Instr) :
    d.composer.SameSettings (d.afterBreak t ending).composer := by
  cases ending with
  | some code => exact d.afterWord_settings t code
  | none => exact .refl

theorem Desk.closeAtBreak_settings (slot : Nat) (cut : Cut) :
    d.composer.SameSettings (d.closeAtBreak slot cut).composer := ⟨rfl, rfl, .inl rfl⟩

theorem Desk.placeCarry_settings (ending : Option Instr) (fuel : Nat) (carry : Carry) (d : Desk) :
    d.composer.SameSettings (d.placeCarry t dict ending fuel carry).composer := by
  induction fuel generalizing carry d with
  | zero => exact .refl
  | succ fuel ih =>
    unfold Desk.placeCarry
    split
    · exact ⟨rfl, rfl, .inl rfl⟩
    · next e line opened =>
      refine (Desk.openLine_settings opened).trans ?_
      dsimp only
      split
      · split
        · exact (Desk.afterBreak_settings _ t ending).after ⟨rfl, rfl, .inl rfl⟩
        · exact (ih _ _).after ⟨rfl, rfl, .inl rfl⟩
      · exact (Desk.afterBreak_settings _ t ending).after ⟨rfl, rfl, .inl rfl⟩

theorem Desk.breakLine_settings (line : OpenLine) (ending : Option Instr) :
    d.composer.SameSettings (d.breakLine t dict line ending).composer := by
  unfold Desk.breakLine
  dsimp only
  split
  · exact (d.closeAtBreak_settings _ _).trans (Desk.afterBreak_settings _ t ending)
  · exact (d.closeAtBreak_settings _ _).trans (Desk.placeCarry_settings t dict ending _ _ _)

theorem Desk.settleWord_settings (line : OpenLine) : d.composer.SameSettings (d.settleWord line).composer :=
  ⟨rfl, rfl, .inl rfl⟩

theorem Desk.takeEnding_settings (code : Instr) : d.composer.SameSettings (d.takeEnding t dict code).composer := by
  unfold Desk.takeEnding
  split
  · exact d.afterWord_settings t code
  · exact (d.settleWord_settings _).trans (Desk.afterWord_settings _ t code)
  · exact d.breakLine_settings t dict _ _
  · exact .refl

theorem Composer.bufferGlyph_settings (c : Composer) (g : Glyph) : c.SameSettings (c.bufferGlyph g) := by
  unfold Composer.bufferGlyph
  split <;> exact ⟨rfl, rfl, .inl rfl⟩

theorem Desk.setGlyph_settings (line : OpenLine) (was : Bool) (code : Option Byte) :
    d.composer.SameSettings (d.setGlyph t dict line was code).composer := by
  unfold Desk.setGlyph
  split
  · exact .refl
  · next g _ =>
    extract_lets r further full _ c _ e
    have buffered := d.composer.bufferGlyph_settings g
    have set : d.composer.SameSettings e.composer := ⟨buffered.params, buffered.stack, .inr rfl⟩
    split
    · exact set
    · split
      · exact set.trans (e.breakLine_settings t dict further none)
      · exact set.trans (e.settleWord_settings further)

theorem Desk.takeGlyph_settings (code : Option Byte) (item : Instr) :
    d.composer.SameSettings (d.takeGlyph t dict code item).composer := by
  unfold Desk.takeGlyph
  split
  · exact d.setGlyph_settings t dict _ false code
  · exact d.setGlyph_settings t dict _ true code
  · split
    · next e line opened => exact (Desk.openLine_settings opened).trans (e.setGlyph_settings t dict line false code)
    · exact ⟨rfl, rfl, .inl rfl⟩
  · exact .refl

theorem Desk.whenSettable_settings {f : Desk → Desk} (hf : d.composer.SameSettings (f d).composer) :
    d.composer.SameSettings (d.whenSettable t f).composer := by
  unfold Desk.whenSettable
  split
  · exact hf
  · exact .refl

theorem Desk.resumeHeld_settings (held : Waiting) : d.composer.SameSettings (d.resumeHeld t dict held).composer := by
  unfold Desk.resumeHeld
  split
  · exact d.takeGlyph_settings t dict _ _
  · exact d.takeGlyph_settings t dict _ _
  · exact d.afterWord_settings t _
  · exact Desk.placeCarry_settings t dict _ _ _ d

theorem Desk.resume_settings : d.composer.SameSettings (d.resume t dict).composer := by
  unfold Desk.resume
  split
  · split
    · exact (Desk.resumeHeld_settings (d.withPhase .idle) t dict _).after ⟨rfl, rfl, .inl rfl⟩
    · exact .refl
  · exact .refl

theorem Desk.markDiscretionary_settings : d.composer.SameSettings d.markDiscretionary.composer := by
  unfold Desk.markDiscretionary
  dsimp only
  split
  · exact .refl
  · exact ⟨rfl, rfl, .inl rfl⟩

theorem Desk.adjustFilm_settings (steps : Int) : d.composer.SameSettings (d.adjustFilm steps).composer :=
  ⟨rfl, rfl, .inl rfl⟩

theorem Desk.killLine_settings : d.composer.SameSettings d.killLine.composer := by
  unfold Desk.killLine
  split
  · exact ⟨rfl, rfl, .inl rfl⟩
  · exact ⟨rfl, rfl, .inl rfl⟩
  · exact .refl
  · exact .refl

end Desk

/-! ### The groups of parameters in their ranges (section 2.1, R11, R22 to R24) -/

def FontFits (font : Option Nat) : Prop := ∀ n, font = some n → n ≤ 63

def SizeFits (size : Nat) : Prop := 8 ≤ size ∧ size ≤ 192

/-- Measure, left and right indent (R23). -/
def MeasureFits (m : Nat × Nat × Nat) : Prop := 24 ≤ m.1 ∧ m.1 ≤ 1680 ∧ m.2.1 + m.2.2 + 24 ≤ m.1

/-- The spaceband's minimum, normal and maximum (R24), the track and the letterspace. -/
def SpacingFits (x : Nat × Nat × Nat × Int × Nat) : Prop :=
  x.1 ≤ x.2.1 ∧ x.2.1 ≤ x.2.2.1 ∧ x.2.2.1 ≤ 96 ∧ -16 ≤ x.2.2.2.1 ∧ x.2.2.2.1 ≤ 16 ∧ x.2.2.2.2 ≤ 20

/-- The hyphenation switch, the threshold, the fragment minimums, the ladder limit and capitals allowed. -/
def HyphenationFits (x : Bool × Nat × Nat × Nat × Nat × Bool) : Prop :=
  (1 ≤ x.2.1 ∧ x.2.1 ≤ 3) ∧ (1 ≤ x.2.2.1 ∧ x.2.2.1 ≤ 7) ∧ (1 ≤ x.2.2.2.1 ∧ x.2.2.2.1 ≤ 7) ∧ x.2.2.2.2.1 ≤ 7

/-- `ParamsInRange`, group by group as a frame of the stack holds them (section 2.4). -/
structure Params.Fits (p : Params) : Prop where
  font : FontFits p.font
  size : SizeFits p.size
  lead : p.lead ≤ 400
  measure : MeasureFits (p.measure, p.left, p.right)
  spacing : SpacingFits (p.spaceMin, p.spaceNormal, p.spaceMax, p.track, p.letterspace)
  hyphenation : HyphenationFits (p.hyphenation, p.threshold, p.leftMin, p.rightMin, p.ladderLimit, p.capitals)

theorem paramsInRange_iff (p : Params) : ParamsInRange p ↔ p.Fits := by
  constructor
  · rintro ⟨font, size, size', lead, narrow, wide, indents, low, high, top, track, track', gap, t1, t3, l1, l7, r1, r7,
      ladder⟩
    exact ⟨font, ⟨size, size'⟩, lead, ⟨narrow, wide, indents⟩, ⟨low, high, top, track, track', gap⟩,
      ⟨t1, t3⟩, ⟨l1, l7⟩, ⟨r1, r7⟩, ladder⟩
  · rintro ⟨font, ⟨size, size'⟩, lead, ⟨narrow, wide, indents⟩, ⟨low, high, top, track, track', gap⟩,
      ⟨t1, t3⟩, ⟨l1, l7⟩, ⟨r1, r7⟩, ladder⟩
    exact ⟨font, size, size', lead, narrow, wide, indents, low, high, top, track, track', gap, t1, t3, l1, l7, r1, r7,
      ladder⟩

theorem Params.reset_fits : Params.reset.Fits := (paramsInRange_iff _).mp ⟨nofun, by decide⟩

theorem clampNat_mem {lo hi : Nat} (h : lo ≤ hi) (v : Nat) : lo ≤ clampNat lo hi v ∧ clampNat lo hi v ≤ hi := by
  rw [clampNat_eq h]
  omega

/-- R23 leaves 24 half-points between the indents, and touches nothing but them. -/
theorem Params.relate_spec {p : Params} (h : 24 ≤ p.measure) :
    ∃ l r, p.relate = { p with left := l, right := r } ∧ l + r + 24 ≤ p.measure := by
  unfold Params.relate
  split_ifs with both left
  · exact ⟨p.left, p.right, rfl, both⟩
  · exact ⟨p.left, _, rfl, by omega⟩
  · exact ⟨_, 0, rfl, by omega⟩

/-- R24 brings values of 0 to 96 units into order within that range. -/
theorem orderSpaceband_spec {lo mid hi : Nat} (hlo : lo ≤ 96) (hhi : hi ≤ 96) :
    let o := orderSpaceband lo mid hi
    o.1 ≤ o.2.1 ∧ o.2.1 ≤ o.2.2 ∧ o.2.2 ≤ 96 := by
  obtain ⟨above, below⟩ := clampNat_mem (Nat.le_max_left lo hi) mid
  exact ⟨above, below, Nat.max_le.mpr ⟨hlo, hhi⟩⟩

/-! ### The stack (R33 to R35) -/

/-- A group restored is the current one or the saved one. -/
theorem restored_of {α : Type} {P : α → Prop} {saved : Option α} {current : α} (selected : Bool)
    (hsaved : ∀ x, saved = some x → P x) (hcurrent : P current) : P (restored selected saved current) := by
  unfold restored
  cases selected with
  | false => exact hcurrent
  | true =>
    cases saved with
    | none => exact hcurrent
    | some x => exact hsaved x rfl

/-- A group in a frame, where the mask selects it, is the value at the SAVE. -/
theorem selected_of {α : Type} {P : α → Prop} {value : α} (h : P value) (selected : Bool) (x : α)
    (hx : (if selected then some value else none) = some x) : P x := by
  cases selected with
  | false => exact nomatch hx
  | true => exact Option.some.inj hx ▸ h

/-- What a frame pushed from parameters in range gives back, the rest staying in force, is in range. -/
theorem Params.Fits.restore {p q : Params} (hp : p.Fits) (hq : q.Fits) (t : Tables) (saved mask : Byte) :
    (p.restore t (q.frame saved) mask).Fits where
  font := by
    unfold Params.restore
    dsimp only
    split
    · exact hp.font
    · exact restored_of _ (selected_of hq.font _) hp.font
  size := restored_of _ (selected_of hq.size _) hp.size
  lead := restored_of (P := (· ≤ 400)) _ (selected_of (P := (· ≤ 400)) hq.lead _) hp.lead
  measure := restored_of (P := MeasureFits) _ (selected_of hq.measure _) hp.measure
  spacing := restored_of (P := SpacingFits) _ (selected_of hq.spacing _) hp.spacing
  hyphenation := restored_of (P := HyphenationFits) _ (selected_of hq.hyphenation _) hp.hyphenation

/-- The Composer's share of `ParameterLaw`, which is all of it. -/
structure Composer.InRange (c : Composer) : Prop where
  params : c.params.Fits
  above : -48 ≤ c.manualKern
  below : c.manualKern ≤ 47
  stack : ∀ f ∈ c.stack, ∃ p : Params, p.Fits ∧ f = p.frame f.mask

theorem parameterLaw_iff (s : State) : ParameterLaw s ↔ s.composer.InRange := by
  simp only [ParameterLaw, paramsInRange_iff]
  exact ⟨fun ⟨params, above, below, stack⟩ => ⟨params, above, below, stack⟩,
    fun ⟨params, above, below, stack⟩ => ⟨params, above, below, stack⟩⟩

theorem Composer.SameSettings.inRange {c d : Composer} (h : c.SameSettings d) (law : c.InRange) : d.InRange := by
  have above := law.above
  have below := law.below
  refine ⟨h.params ▸ law.params, ?_, ?_, h.stack ▸ law.stack⟩
  · rcases h.kern with kern | kern <;> omega
  · rcases h.kern with kern | kern <;> omega

theorem Composer.InRange.setParams {c : Composer} (law : c.InRange) {p : Params} (hp : p.Fits) :
    Composer.InRange { c with params := p } :=
  ⟨hp, law.above, law.below, law.stack⟩

/-- The settings after RESET or CLEAR; the counter is none of them (R37, R88). -/
theorem Composer.reset_inRange (counter : Nat) : Composer.InRange { Composer.reset with counter := counter } :=
  ⟨Params.reset_fits, neg_nonpos.mpr (by decide), Int.zero_le_ofNat _, fun _ none => absurd none List.not_mem_nil⟩

theorem Composer.InRange.save {c : Composer} (law : c.InRange) (mask : Byte) :
    Composer.InRange { c with stack := c.params.frame mask :: c.stack } := by
  refine ⟨law.params, law.above, law.below, fun f hf => ?_⟩
  rcases List.mem_cons.mp hf with rfl | old
  · exact ⟨c.params, law.params, rfl⟩
  · exact law.stack f old

theorem Composer.InRange.restore {c : Composer} (law : c.InRange) {f : Frame} {rest : List Frame}
    (stack : c.stack = f :: rest) (t : Tables) (mask : Byte) :
    Composer.InRange { c with params := c.params.restore t f mask, stack := rest } := by
  obtain ⟨q, hq, saved⟩ := law.stack f (stack ▸ List.mem_cons_self)
  refine ⟨?_, law.above, law.below, fun g hg => law.stack g (stack ▸ List.mem_cons_of_mem f hg)⟩
  rw [saved]
  exact law.params.restore hq t _ mask

/-! ### The order of dictionary words (R104) -/

@[simp] theorem wordBefore_cons_same (x : Byte) (a b : List Byte) : wordBefore (x :: a) (x :: b) = wordBefore a b := by
  simp [wordBefore]

theorem wordBefore_cons_ne {x y : Byte} (ne : x ≠ y) (a b : List Byte) :
    wordBefore (x :: a) (y :: b) = decide (x.toNat < y.toNat) := by
  simp [wordBefore, ne]

theorem wordBefore_irrefl (a : List Byte) : wordBefore a a = false := by
  induction a with
  | nil => rfl
  | cons x a ih => rw [wordBefore_cons_same, ih]

theorem wordBefore_trans {a b c : List Byte} (hab : wordBefore a b = true) (hbc : wordBefore b c = true) :
    wordBefore a c = true := by
  induction a generalizing b c with
  | nil =>
    cases c with
    | nil => cases b <;> simp [wordBefore] at hab hbc
    | cons z c => rfl
  | cons x a ih =>
    cases b with
    | nil => exact nomatch hab
    | cons y b =>
      cases c with
      | nil => exact nomatch hbc
      | cons z c =>
        by_cases hxy : x = y
        · subst hxy
          by_cases hxz : x = z
          · subst hxz
            rw [wordBefore_cons_same] at hab hbc ⊢
            exact ih hab hbc
          · rwa [wordBefore_cons_ne hxz] at hbc ⊢
        · by_cases hyz : y = z
          · subst hyz
            rwa [wordBefore_cons_ne hxy] at hab ⊢
          · rw [wordBefore_cons_ne hxy, decide_eq_true_eq] at hab
            rw [wordBefore_cons_ne hyz, decide_eq_true_eq] at hbc
            have hxz : x ≠ z := fun same => by rw [same] at hab; omega
            rw [wordBefore_cons_ne hxz, decide_eq_true_eq]
            exact hab.trans hbc

theorem wordBefore_total {a b : List Byte} (ne : a ≠ b) (h : wordBefore a b = false) : wordBefore b a = true := by
  induction a generalizing b with
  | nil =>
    cases b with
    | nil => exact absurd rfl ne
    | cons y b => exact nomatch h
  | cons x a ih =>
    cases b with
    | nil => rfl
    | cons y b =>
      by_cases hxy : x = y
      · subst hxy
        rw [wordBefore_cons_same] at h ⊢
        exact ih (fun same => ne (same ▸ rfl)) h
      · rw [wordBefore_cons_ne hxy, decide_eq_false_iff_not] at h
        rw [wordBefore_cons_ne (Ne.symm hxy), decide_eq_true_eq]
        have apart : x.toNat ≠ y.toNat := fun same => hxy (BitVec.eq_of_toNat_eq same)
        omega

/-! ### The exception dictionary's edits (R104, R106 to R109) -/

/-- The words of the dictionary in ascending order. -/
def DictOrdered (d : List DictEntry) : Prop := d.Pairwise fun a b => wordBefore a.word b.word = true

/-- An entry of the dictionary: 2 to 24 codes, with its breaks inside them. -/
def DictEntry.Formed (e : DictEntry) : Prop :=
  2 ≤ e.word.length ∧ e.word.length ≤ 24 ∧ ∀ k ∈ e.breaks, 1 ≤ k ∧ k < e.word.length

theorem mem_dictPut {e y : DictEntry} {d : List DictEntry} (h : y ∈ dictPut e d) : y = e ∨ y ∈ d := by
  induction d with
  | nil => exact .inl (List.mem_singleton.mp h)
  | cons x rest ih =>
    unfold dictPut at h
    split_ifs at h with same first
    · rcases List.mem_cons.mp h with rfl | old
      · exact .inl rfl
      · exact .inr (List.mem_cons_of_mem _ old)
    · exact List.mem_cons.mp h
    · rcases List.mem_cons.mp h with rfl | later
      · exact .inr List.mem_cons_self
      · exact (ih later).imp id (List.mem_cons_of_mem _)

theorem dictPut_ordered {d : List DictEntry} (h : DictOrdered d) (e : DictEntry) : DictOrdered (dictPut e d) := by
  induction d with
  | nil => exact List.pairwise_singleton _ _
  | cons x rest ih =>
    obtain ⟨head, tail⟩ := List.pairwise_cons.mp h
    unfold dictPut
    split_ifs with same first
    · exact List.pairwise_cons.mpr ⟨fun y hy => same ▸ head y hy, tail⟩
    · refine List.pairwise_cons.mpr ⟨fun y hy => ?_, h⟩
      rcases List.mem_cons.mp hy with rfl | later
      · exact first
      · exact wordBefore_trans first (head y later)
    · refine List.pairwise_cons.mpr ⟨fun y hy => ?_, ih tail⟩
      rcases mem_dictPut hy with rfl | later
      · exact wordBefore_total (Ne.symm same) (by simpa using first)
      · exact head y later

/-- A word that the dictionary has keeps its place: the words stay what they are. -/
theorem dictPut_words {d : List DictEntry} (h : DictOrdered d) {e : DictEntry} (known : inDict d e.word = true) :
    (dictPut e d).map (·.word) = d.map (·.word) := by
  induction d with
  | nil => simp [inDict] at known
  | cons x rest ih =>
    obtain ⟨head, tail⟩ := List.pairwise_cons.mp h
    unfold dictPut
    split_ifs with same first
    · simp [same]
    · obtain ⟨y, hy, word⟩ : ∃ y ∈ rest, y.word = e.word := by simpa [inDict, same] using known
      have circle := wordBefore_trans first (word ▸ head y hy)
      rw [wordBefore_irrefl] at circle
      exact nomatch circle
    · rw [List.map_cons, List.map_cons, ih tail (by simpa [inDict, same] using known)]

/-- A new word takes one entry and its codes; a known one no more than that. -/
theorem dictPut_room (e : DictEntry) (d : List DictEntry) :
    (dictPut e d).length ≤ d.length + 1 ∧ codeTotal (dictPut e d) ≤ codeTotal d + e.word.length := by
  induction d with
  | nil => simp [dictPut, codeTotal]
  | cons x rest ih =>
    obtain ⟨length, total⟩ := ih
    unfold codeTotal at total ⊢
    unfold dictPut
    split_ifs with same first <;> simp only [List.length_cons, List.map_cons, List.sum_cons] <;> omega

/-- What the good forms of R106 come to: 2 to 24 word codes, and each break after one of them but the last. -/
theorem dictForm_formed {codes word w : List Byte} {breaks b : List Nat} {afterMark : Bool}
    (h : dictForm codes word breaks afterMark = some (w, b))
    (within : ∀ k ∈ breaks, 1 ≤ k ∧ k < word.length + afterMark.toNat) : DictEntry.Formed ⟨w, b⟩ := by
  induction codes generalizing word breaks afterMark with
  | nil =>
    unfold dictForm at h
    split_ifs at h with bad
    obtain ⟨rfl, rfl⟩ := Prod.mk.inj (Option.some.inj h)
    simp only [not_or, Bool.not_eq_true, Nat.not_lt, Config.dictWord] at bad
    obtain ⟨noMark, two, most⟩ := bad
    subst noMark
    exact ⟨two, most, within⟩
  | cons c rest ih =>
    unfold dictForm at h
    split_ifs at h with mark bad low
    · refine ih h fun k hk => ?_
      simp only [not_or, ← List.length_eq_zero_iff] at bad
      rcases List.mem_append.mp hk with old | new
      · have := within k old
        simp [bad.1] at this ⊢
        omega
      · rw [List.mem_singleton.mp new]
        simp only [Bool.toNat_true]
        omega
    · refine ih h fun k hk => ?_
      have := within k hk
      have := afterMark.toNat_le
      simp only [List.length_append, List.length_singleton, Bool.toNat_false]
      omega

/-- The dictionary's share of `DictionaryLaw`, which is all of it. -/
structure DictLawful (d : List DictEntry) : Prop where
  ordered : DictOrdered d
  formed : ∀ e ∈ d, e.Formed
  entries : d.length ≤ 384
  codes : codeTotal d ≤ 4096

theorem dictionaryLaw_iff (s : State) : DictionaryLaw s ↔ DictLawful s.dict :=
  ⟨fun ⟨ordered, formed, entries, codes⟩ => ⟨ordered, formed, entries, codes⟩,
    fun ⟨ordered, formed, entries, codes⟩ => ⟨ordered, formed, entries, codes⟩⟩

theorem DictLawful.nil : DictLawful [] := ⟨List.Pairwise.nil, nofun, Nat.zero_le _, Nat.zero_le _⟩

theorem DictLawful.filter {d : List DictEntry} (h : DictLawful d) (keep : DictEntry → Bool) :
    DictLawful (d.filter keep) := by
  refine ⟨h.ordered.filter _, fun e he => h.formed e (List.mem_of_mem_filter he),
    (List.length_filter_le _ _).trans h.entries, le_trans ?_ h.codes⟩
  exact (List.filter_sublist.map _).sum_le_sum fun _ _ => Nat.zero_le _

/-- A formed word put where the dictionary has it, or has room for it (R107). -/
theorem DictLawful.put {d : List DictEntry} (h : DictLawful d) {e : DictEntry} (formed : e.Formed)
    (fits : (inDict d e.word || dictRoom d e.word.length) = true) : DictLawful (dictPut e d) := by
  have entries : ∀ y ∈ dictPut e d, y.Formed := fun y hy => by
    rcases mem_dictPut hy with rfl | old
    · exact formed
    · exact h.formed y old
  rcases Bool.or_eq_true_iff.mp fits with known | room
  · have words := dictPut_words h.ordered known
    refine ⟨dictPut_ordered h.ordered e, entries, ?_, ?_⟩
    · simpa using (congrArg List.length words).trans_le (by simpa using h.entries)
    · have lengths := congrArg (List.map List.length) words
      simp only [List.map_map] at lengths
      exact (congrArg List.sum lengths).trans_le h.codes
  · simp only [dictRoom, Bool.and_eq_true, decide_eq_true_eq] at room
    obtain ⟨length, total⟩ := dictPut_room e d
    exact ⟨dictPut_ordered h.ordered e, entries, length.trans room.1, total.trans room.2⟩

@[simp] theorem foldCodes_length (t : Tables) (word : List Byte) : (foldCodes t word).length = word.length :=
  List.length_map _

theorem State.takeDictAdd_lawful {s : State} (h : DictLawful s.dict) (codes : List Byte) :
    DictLawful (s.takeDictAdd codes).dict := by
  unfold State.takeDictAdd
  split
  · exact h
  · split
    · exact h
    · next word breaks form =>
      dsimp only
      split
      · next fits =>
        have formed : DictEntry.Formed ⟨word, breaks⟩ := dictForm_formed form nofun
        exact h.put (e := ⟨foldCodes s.tables word, breaks⟩) (by simpa [DictEntry.Formed] using formed) fits
      · exact h

theorem State.takeDictDelete_lawful {s : State} (h : DictLawful s.dict) (codes : List Byte) :
    DictLawful (s.takeDictDelete codes).dict := by
  unfold State.takeDictDelete
  split
  · exact h
  · dsimp only
    split
    · exact h.filter _
    · exact h

theorem State.takeDictClear_lawful {s : State} (h : DictLawful s.dict) : DictLawful s.takeDictClear.dict := by
  unfold State.takeDictClear
  split
  · exact h
  · exact .nil

end Sys2Proof.Machine
end

section
/-! PROOFS. The parameters and the dictionary over a step (`EveryStepKeepsParametersAndDictionary`): for each owner of
an item and each other command, that it keeps both laws. -/

namespace Sys2Proof.Machine

open Sys2Proof Sys2Proof.Safety

/-! ### The whole part -/

/-- `t` comes of `s` by a step that keeps both laws. -/
structure State.KeepsSettings (s t : State) : Prop where
  params : s.composer.InRange → t.composer.InRange
  dict : DictLawful s.dict → DictLawful t.dict

section Whole

variable {s t : State}

theorem State.KeepsSettings.trans {u : State} (hst : s.KeepsSettings t) (htu : t.KeepsSettings u) :
    s.KeepsSettings u :=
  ⟨htu.params ∘ hst.params, htu.dict ∘ hst.dict⟩

/-- A step of another block. -/
theorem State.keepsSettings_of_eq (composer : t.composer = s.composer) (dict : t.dict = s.dict) : s.KeepsSettings t :=
  ⟨fun h => composer ▸ h, fun h => dict ▸ h⟩

theorem State.KeepsSettings.refl : s.KeepsSettings s := State.keepsSettings_of_eq rfl rfl

@[simp] theorem State.postWhen_composer (s : State) (c : Bool) (e : Event) :
    (s.postWhen c e).composer = s.composer := by
  cases c <;> rfl

@[simp] theorem State.postWhen_dict (s : State) (c : Bool) (e : Event) : (s.postWhen c e).dict = s.dict := by
  cases c <;> rfl

@[simp] theorem State.runOut_composer (s : State) : s.runOut.composer = s.composer := by
  obtain ⟨mode, sources, frame⟩ := runOut_frame s
  rw [frame]

@[simp] theorem State.runOut_dict (s : State) : s.runOut.dict = s.dict := by
  obtain ⟨mode, sources, frame⟩ := runOut_frame s
  rw [frame]

theorem State.postWhen_settings (c : Bool) (e : Event) : s.KeepsSettings (s.postWhen c e) :=
  State.keepsSettings_of_eq (by simp) (by simp)

theorem State.runOut_settings : s.KeepsSettings s.runOut := State.keepsSettings_of_eq (by simp) (by simp)

/-- An owner's step, then the note of a clamp. -/
theorem State.KeepsSettings.noted (h : s.KeepsSettings t) (c : Bool) (e : Event) : s.KeepsSettings (t.postWhen c e) :=
  h.trans (State.postWhen_settings c e)

theorem State.onDesk_settings {f : Tables → List DictEntry → Desk → Desk}
    (h : s.composer.SameSettings (f s.tables s.dict s.desk).composer) : s.KeepsSettings (s.onDesk f) :=
  ⟨h.inRange, id⟩

theorem State.withParams_settings {p : Params} (h : s.composer.params.Fits → p.Fits) :
    s.KeepsSettings (s.withParams p) :=
  ⟨fun law => law.setParams (h law.params), id⟩

/-- A code that sets a glyph, checked at the take (R31). -/
theorem State.glyphItem_settings (s : State) (code : Option Byte) (item : Instr) :
    s.KeepsSettings (s.onDesk fun t dict d => d.whenSettable t fun d => d.takeGlyph t dict code item) :=
  State.onDesk_settings (s.desk.whenSettable_settings _ (s.desk.takeGlyph_settings _ _ code item))

/-- A code that sets a space, checked at the take (R31). -/
theorem State.spaceItem_settings (s : State) (code : Instr) :
    s.KeepsSettings (s.onDesk fun t dict d => d.whenSettable t fun d => d.takeEnding t dict code) :=
  State.onDesk_settings (s.desk.whenSettable_settings _ (s.desk.takeEnding_settings _ _ code))

/-! ### What other blocks hold and retry (R10, R184) -/

theorem State.takeReplyItem_settings (h : HeldReply) : s.KeepsSettings (s.takeReplyItem h) := by
  cases h <;> exact State.keepsSettings_of_eq rfl rfl

theorem State.replyItem_settings (h : HeldReply) : s.KeepsSettings (s.replyItem h) := by
  unfold State.replyItem
  split
  · exact State.takeReplyItem_settings h
  · exact State.keepsSettings_of_eq rfl rfl

theorem State.retryHeld_settings : s.KeepsSettings s.retryHeld := by
  unfold State.retryHeld
  split
  · exact .refl
  · next h _ =>
    split
    · have released : s.KeepsSettings (s.withReply { s.reply with held := none }) := State.keepsSettings_of_eq rfl rfl
      exact (released.trans (State.takeReplyItem_settings h)).trans State.runOut_settings
    · exact .refl

theorem State.onPhoto_settings (busy : Bool) (f : Photo → Photo) : s.KeepsSettings (s.onPhoto busy f) := by
  have photo : s.KeepsSettings (s.withPhoto (f (s.photo busy))) := State.keepsSettings_of_eq rfl rfl
  unfold State.onPhoto
  rcases (s.withPhoto (f (s.photo busy))).retrySync_cases with ⟨same, -⟩ | looks
  · rw [same]; exact photo
  · rw [looks]; exact photo.trans State.retryHeld_settings

theorem State.recordSent_settings (heldFirst : Bool) : s.KeepsSettings (s.recordSent heldFirst) := by
  have sent : s.KeepsSettings (s.withReply (s.reply.sent s.pins.cts)) := State.keepsSettings_of_eq rfl rfl
  unfold State.recordSent
  split
  · dsimp only
    split
    · exact sent.trans State.retryHeld_settings
    · exact sent
  · exact .refl

theorem State.answerWaiting_settings : s.KeepsSettings s.answerWaiting := by
  have answered : s.KeepsSettings (s.withReply (s.reply.answerOne s.pins.cts)) := State.keepsSettings_of_eq rfl rfl
  unfold State.answerWaiting
  split
  · exact answered.trans State.retryHeld_settings
  · exact .refl

theorem State.setClearToSend_settings (level : Bool) (bytes : Nat) :
    s.KeepsSettings (s.setClearToSend level bytes) := by
  unfold State.setClearToSend
  split
  · exact .refl
  · exact State.keepsSettings_of_eq rfl rfl

/-! ### The owners of the items -/

theorem State.takeFont_settings {f : Nat} (hf : f ≤ 63) : s.KeepsSettings (s.takeFont f) := by
  unfold State.takeFont
  split
  · exact State.withParams_settings fun h => { h with font := fun n hn => Option.some.inj hn ▸ hf }
  · exact State.keepsSettings_of_eq rfl rfl

/-- MEASURE and INDENT keep the ranges where the relation of R23 restores them. -/
theorem State.takeMeasure_settings {p : Params} (out : Bool)
    (h : s.composer.params.Fits → p.relate.Fits) : s.KeepsSettings (s.takeMeasure p out) :=
  (State.withParams_settings h).noted _ _

theorem State.takeSpaceband_settings {lo mid hi : Nat} (out : Bool) (hlo : lo ≤ 96) (hhi : hi ≤ 96) :
    s.KeepsSettings (s.takeSpaceband lo mid hi out) := by
  refine (State.withParams_settings fun h => ?_).noted _ _
  obtain ⟨low, high, top⟩ := orderSpaceband_spec (mid := mid) hlo hhi
  obtain ⟨-, -, -, rest⟩ := h.spacing
  exact { h with spacing := ⟨low, high, top, rest⟩ }

theorem State.takeSave_settings (mask : Byte) : s.KeepsSettings (s.takeSave mask) := by
  unfold State.takeSave
  split
  · exact ⟨fun law => law.save mask, id⟩
  · exact State.keepsSettings_of_eq rfl rfl

theorem State.takeRestore_settings (mask : Byte) : s.KeepsSettings (s.takeRestore mask) := by
  unfold State.takeRestore
  split
  · exact State.keepsSettings_of_eq rfl rfl
  · next f rest stack =>
    refine State.KeepsSettings.noted ?_ _ _
    exact ⟨fun law => law.restore stack s.tables mask, id⟩

theorem State.takeDefine_settings (n : Nat) (nestable : Bool) : s.KeepsSettings (s.takeDefine n nestable) := by
  unfold State.takeDefine
  split <;> exact State.keepsSettings_of_eq rfl rfl

theorem State.takeEndDefine_settings : s.KeepsSettings s.takeEndDefine := by
  unfold State.takeEndDefine
  split
  · exact State.keepsSettings_of_eq rfl rfl
  · exact State.keepsSettings_of_eq rfl rfl
  · dsimp only
    split <;> exact State.keepsSettings_of_eq rfl rfl

theorem State.takeCall_settings (n : Nat) : s.KeepsSettings (s.takeCall n) := by
  unfold State.takeCall
  split <;> exact State.keepsSettings_of_eq rfl rfl

theorem State.takeLock_settings (ident : Byte) : s.KeepsSettings (s.takeLock ident) := by
  unfold State.takeLock
  split <;> exact State.keepsSettings_of_eq rfl rfl

theorem State.refuseLoad_settings (r : Reason) : s.KeepsSettings (s.refuseLoad r) := State.keepsSettings_of_eq rfl rfl

theorem State.commitLoad_settings (tab : Table) (b : LoadBlock) : s.KeepsSettings (s.commitLoad tab b) :=
  have committed : s.KeepsSettings (s.withTables (s.tables.commit tab b)) := State.keepsSettings_of_eq rfl rfl
  committed.noted _ _

theorem State.takeLensLoad_settings (b : LoadBlock) : s.KeepsSettings (s.takeLensLoad b) := by
  unfold State.takeLensLoad
  split
  · exact State.refuseLoad_settings _
  · split
    · exact State.keepsSettings_of_eq rfl rfl
    · exact State.commitLoad_settings _ b

theorem State.takeLoad_settings (b : LoadBlock) : s.KeepsSettings (s.takeLoad b) := by
  unfold State.takeLoad
  refine (State.postWhen_settings b.directionOut .parameterClamped).trans ?_
  dsimp only
  split
  · exact State.refuseLoad_settings _
  · split
    · exact State.takeLensLoad_settings b
    · exact State.commitLoad_settings _ b
    · exact .refl

theorem State.endLensWait_settings (b : LoadBlock) : s.KeepsSettings (s.endLensWait b) := by
  unfold State.endLensWait
  extract_lets _ u
  have ended : State.KeepsSettings s u := State.keepsSettings_of_eq rfl rfl
  split
  · exact ended.trans (State.commitLoad_settings _ b)
  · exact ended.trans (State.refuseLoad_settings _)

theorem State.takeDictAdd_settings (codes : List Byte) : s.KeepsSettings (s.takeDictAdd codes) := by
  refine ⟨fun law => ?_, fun h => State.takeDictAdd_lawful h codes⟩
  unfold State.takeDictAdd
  split
  · exact law
  · split
    · exact law
    · dsimp only
      split <;> exact law

theorem State.takeDictDelete_settings (codes : List Byte) : s.KeepsSettings (s.takeDictDelete codes) := by
  refine ⟨fun law => ?_, fun h => State.takeDictDelete_lawful h codes⟩
  unfold State.takeDictDelete
  split
  · exact law
  · dsimp only
    split <;> exact law

theorem State.takeDictClear_settings : s.KeepsSettings s.takeDictClear := by
  refine ⟨fun law => ?_, State.takeDictClear_lawful⟩
  unfold State.takeDictClear
  split <;> exact law

/-! ### Delivery and the commands that are no item -/

theorem deliver_settings {c : Instr} {owner : State → State} (h : deliver c owner s = .next t)
    (howner : ∀ u : State, u.KeepsSettings (owner u)) : s.KeepsSettings t := by
  rcases deliver_cases c owner s with same | ⟨u, takes, delivered⟩
  · rw [same] at h
    cases h
    exact .refl
  · rw [delivered] at h
    cases h
    obtain ⟨-, f, -, rfl⟩ := takes_frame takes
    have taken : s.KeepsSettings (s.withFront f) := State.keepsSettings_of_eq rfl rfl
    exact (taken.trans (howner _)).trans State.runOut_settings

theorem next_settings {u : State} (h : (.next u : StepResult) = .next t) (hu : s.KeepsSettings u) :
    s.KeepsSettings t := by
  cases h
  exact hu

theorem execReset_settings (h : execReset s = .next t) : s.KeepsSettings t :=
  next_settings h ⟨fun _ => Composer.reset_inRange 0, fun _ => .nil⟩

theorem execResetEnd_settings {detent : Bool} (h : execResetEnd detent s = .next t) : s.KeepsSettings t := by
  unfold execResetEnd at h
  split at h <;> exact next_settings h (State.keepsSettings_of_eq rfl rfl)

theorem execFrameReceived_settings {data : Byte} {parity stop : Bool}
    (h : execFrameReceived data parity stop s = .next t) : s.KeepsSettings t := by
  unfold execFrameReceived at h
  split at h <;> exact next_settings h (State.keepsSettings_of_eq rfl rfl)

theorem offer_quiet_settings {u : State} (h : s.offer = .quiet u) : s.KeepsSettings u := by
  unfold State.offer at h
  split at h
  · exact nomatch h
  · split at h
    · exact nomatch h
    · cases h; exact State.keepsSettings_of_eq rfl rfl
    · exact nomatch h

theorem execParserTake_settings (h : execParserTake s = .next t) : s.KeepsSettings t := by
  unfold execParserTake at h
  split at h
  · next u quiet => exact next_settings h ((offer_quiet_settings quiet).trans State.runOut_settings)
  · exact next_settings h .refl

theorem execWaitSlotResume_settings (h : execWaitSlotResume s = .next t) : s.KeepsSettings t := by
  unfold execWaitSlotResume at h
  split at h
  · split at h
    · have resumed := State.onDesk_settings (s.desk.resume_settings s.tables s.dict)
      exact next_settings h (resumed.trans State.runOut_settings)
    · exact next_settings h .refl
  · exact next_settings h .refl

theorem execLensCommitAfterWait_settings (h : execLensCommitAfterWait s = .next t) : s.KeepsSettings t := by
  unfold execLensCommitAfterWait at h
  split at h
  · next b _ =>
    split at h
    · exact next_settings h ((State.endLensWait_settings b).trans State.runOut_settings)
    · exact next_settings h .refl
  · exact next_settings h .refl

/-- What a switch does once its level stands in `u`: a block's reset state under RESET, otherwise a step of the photo
unit. -/
theorem State.switch_settings {u quiet : State} {busy : Bool} {f : Photo → Photo}
    (h : (if u.pins.resetLine then .next quiet else .next (u.onPhoto busy f) : StepResult) = .next t)
    (switched : s.KeepsSettings u) (reset : s.KeepsSettings quiet) : s.KeepsSettings t := by
  split at h
  · exact next_settings h reset
  · exact next_settings h (switched.trans (State.onPhoto_settings busy f))

theorem execCassetteRemoved_settings {busy : Bool} (h : execCassetteRemoved s busy = .next t) : s.KeepsSettings t := by
  unfold execCassetteRemoved at h
  dsimp only at h
  split at h
  · exact State.switch_settings h (State.keepsSettings_of_eq rfl rfl) (State.keepsSettings_of_eq rfl rfl)
  · exact next_settings h .refl

theorem execCassetteInserted_settings {busy : Bool} (h : execCassetteInserted s busy = .next t) :
    s.KeepsSettings t := by
  unfold execCassetteInserted at h
  dsimp only at h
  split at h
  · exact next_settings h .refl
  · exact State.switch_settings h (State.keepsSettings_of_eq rfl rfl) (State.keepsSettings_of_eq rfl rfl)

theorem execCoverOpens_settings (h : execCoverOpens s = .next t) : s.KeepsSettings t := by
  unfold execCoverOpens at h
  dsimp only at h
  split at h
  · exact next_settings h .refl
  · exact State.switch_settings h (State.keepsSettings_of_eq rfl rfl) (State.keepsSettings_of_eq rfl rfl)

theorem execCoverCloses_settings {detent busy : Bool} (h : execCoverCloses detent s busy = .next t) :
    s.KeepsSettings t := by
  unfold execCoverCloses at h
  dsimp only at h
  split at h
  · exact State.switch_settings h (State.keepsSettings_of_eq rfl rfl) (State.keepsSettings_of_eq rfl rfl)
  · exact next_settings h .refl

theorem execSelectInactive_settings (h : execSelectInactive s = .next t) : s.KeepsSettings t := by
  unfold execSelectInactive at h
  dsimp only at h
  split at h
  · exact State.switch_settings h (State.keepsSettings_of_eq rfl rfl) (State.keepsSettings_of_eq rfl rfl)
  · exact next_settings h .refl

theorem execSelectActive_settings {busy : Bool} (h : execSelectActive busy s = .next t) : s.KeepsSettings t := by
  unfold execSelectActive at h
  dsimp only at h
  split at h
  · exact next_settings h .refl
  · exact State.switch_settings h (State.keepsSettings_of_eq rfl rfl) (State.keepsSettings_of_eq rfl rfl)

/-! ### Every command -/

theorem exec_settings {c : Instr} (h : exec c s = .next t) : s.KeepsSettings t := by
  cases c with
  | reset => exact execReset_settings h
  | resetEnd detent => exact execResetEnd_settings h
  | frameReceived data parity stop => exact execFrameReceived_settings h
  | parserTake => exact execParserTake_settings h
  | textCode c => exact deliver_settings h fun u => State.glyphItem_settings u _ _
  | damagedCode => exact deliver_settings h fun u => State.glyphItem_settings u _ _
  | interwordSpace => exact deliver_settings h fun u => State.spaceItem_settings u _
  | thinSpace => exact deliver_settings h fun u => State.spaceItem_settings u _
  | enSpace => exact deliver_settings h fun u => State.spaceItem_settings u _
  | emSpace => exact deliver_settings h fun u => State.spaceItem_settings u _
  | noBreakSpace => exact deliver_settings h fun u => State.spaceItem_settings u _
  | discretionaryHyphen =>
    exact deliver_settings h fun u => State.onDesk_settings u.desk.markDiscretionary_settings
  | noHyphenate =>
    exact deliver_settings h fun u => ⟨Composer.SameSettings.inRange ⟨rfl, rfl, .inl rfl⟩, id⟩
  | killLine => exact deliver_settings h fun u => State.onDesk_settings u.desk.killLine_settings
  | endLine => exact deliver_settings h fun u => State.onDesk_settings (u.desk.takeEnding_settings ..)
  | endPara => exact deliver_settings h fun u => State.onDesk_settings (u.desk.takeEnding_settings ..)
  | font number =>
    exact deliver_settings h fun u => (State.takeFont_settings (clampNat_mem (Nat.zero_le _) _).2).noted _ _
  | size halfPoints =>
    refine deliver_settings h fun u => (State.withParams_settings fun law => ?_).noted _ _
    exact { law with size := clampNat_mem (by decide) _ }
  | lead halfPoints =>
    refine deliver_settings h fun u => (State.withParams_settings fun law => ?_).noted _ _
    exact { law with lead := (clampNat_mem (Nat.zero_le _) _).2 }
  | measure halfPoints =>
    refine deliver_settings h fun u => State.takeMeasure_settings _ fun law => ?_
    obtain ⟨narrow, wide⟩ := clampNat_mem (lo := 24) (hi := 1680) (by decide) halfPoints.toNat
    obtain ⟨l, r, related, room⟩ :=
      Params.relate_spec (p := { u.composer.params with measure := clampNat 24 1680 halfPoints.toNat }) narrow
    rw [related]
    exact { law with measure := ⟨narrow, wide, room⟩ }
  | indent left right =>
    refine deliver_settings h fun u => State.takeMeasure_settings _ fun law => ?_
    obtain ⟨narrow, wide, -⟩ := law.measure
    obtain ⟨l, r, related, room⟩ := Params.relate_spec (p := { u.composer.params with
      left := clampNat 0 1680 left.toNat, right := clampNat 0 1680 right.toNat }) narrow
    rw [related]
    exact { law with measure := ⟨narrow, wide, room⟩ }
  | quad mode lastLine =>
    refine deliver_settings h fun u => (State.withParams_settings fun law => ?_).noted _ _
    exact { law with }
  | spaceband minimum normal maximum =>
    exact deliver_settings h fun u =>
      State.takeSpaceband_settings _ (clampNat_mem (Nat.zero_le _) _).2 (clampNat_mem (Nat.zero_le _) _).2
  | track units =>
    refine deliver_settings h fun u => (State.withParams_settings fun law => ?_).noted _ _
    obtain ⟨low, high, top, -, -, gap⟩ := law.spacing
    obtain ⟨above, below⟩ := clampInt_mem (lo := -16) (hi := 16) (by decide) (signedByte units)
    exact { law with spacing := ⟨low, high, top, above, below, gap⟩ }
  | letterspace steps =>
    refine deliver_settings h fun u => (State.withParams_settings fun law => ?_).noted _ _
    obtain ⟨low, high, top, above, below, -⟩ := law.spacing
    exact { law with spacing := ⟨low, high, top, above, below, (clampNat_mem (Nat.zero_le _) _).2⟩ }
  | kerning switch =>
    refine deliver_settings h fun u => State.withParams_settings fun law => ?_
    exact { law with }
  | manualKern units =>
    refine deliver_settings h fun u => State.KeepsSettings.noted ?_ _ _
    refine ⟨fun law => ?_, id⟩
    obtain ⟨above, below⟩ := clampInt_mem (lo := -48) (hi := 47) (by decide) (signedByte units)
    exact ⟨law.params, above, below, law.stack⟩
  | hyphenation switch threshold =>
    refine deliver_settings h fun u => (State.withParams_settings fun law => ?_).noted _ _
    obtain ⟨-, limits⟩ := law.hyphenation
    exact { law with hyphenation := ⟨clampNat_mem (by decide) _, limits⟩ }
  | hyphenLimits left right ladder capitals =>
    refine deliver_settings h fun u => (State.withParams_settings fun law => ?_).noted _ _
    obtain ⟨threshold, -⟩ := law.hyphenation
    exact { law with hyphenation := ⟨threshold, clampNat_mem (by decide) _, clampNat_mem (by decide) _,
      (clampNat_mem (Nat.zero_le _) _).2⟩ }
  | advance halfPoints =>
    exact deliver_settings h fun u => (State.onDesk_settings (u.desk.adjustFilm_settings _)).noted _ _
  | reverse halfPoints =>
    exact deliver_settings h fun u => (State.onDesk_settings (u.desk.adjustFilm_settings _)).noted _ _
  | columnMark =>
    exact deliver_settings h fun u => ⟨Composer.SameSettings.inRange ⟨rfl, rfl, .inl rfl⟩, id⟩
  | cut => exact deliver_settings h fun u => State.onDesk_settings (u.desk.takeEnding_settings ..)
  | cassette points busy =>
    exact deliver_settings h fun u => (State.postWhen_settings _ _).trans (State.keepsSettings_of_eq rfl rfl)
  | stopDisc => exact deliver_settings h fun u => State.onDesk_settings (u.desk.takeEnding_settings ..)
  | save mask => exact deliver_settings h fun u => State.takeSave_settings mask
  | restore mask => exact deliver_settings h fun u => State.takeRestore_settings mask
  | define number nestable => exact deliver_settings h fun u => State.takeDefine_settings _ _
  | endDefine => exact deliver_settings h fun u => State.takeEndDefine_settings
  | call number => exact deliver_settings h fun u => State.takeCall_settings _
  | load ident start count direction sum => exact deliver_settings h fun u => State.takeLoad_settings _
  | lock ident => exact deliver_settings h fun u => State.takeLock_settings ident
  | dictAdd codes => exact deliver_settings h fun u => State.takeDictAdd_settings codes
  | dictDelete codes => exact deliver_settings h fun u => State.takeDictDelete_settings codes
  | dictClear => exact deliver_settings h fun u => State.takeDictClear_settings
  | proof mode policy =>
    refine deliver_settings h fun u => State.KeepsSettings.noted ?_ _ _
    exact State.keepsSettings_of_eq rfl rfl
  | lamp window most =>
    refine deliver_settings h fun u => State.KeepsSettings.noted ?_ _ _
    exact State.keepsSettings_of_eq rfl rfl
  | query => exact deliver_settings h fun u => State.replyItem_settings _
  | events => exact deliver_settings h fun u => State.replyItem_settings _
  | mask set => exact deliver_settings h fun u => State.keepsSettings_of_eq rfl rfl
  | readLog count =>
    exact deliver_settings h fun u => (State.postWhen_settings _ _).trans (State.replyItem_settings _)
  | sync token => exact deliver_settings h fun u => State.replyItem_settings _
  | clear => exact deliver_settings h fun u => ⟨fun _ => Composer.reset_inRange _, id⟩
  | waitSlotResume => exact execWaitSlotResume_settings h
  | lensCommitAfterWait => exact execLensCommitAfterWait_settings h
  | takeLine busy => exact next_settings h (State.onPhoto_settings _ _)
  | turretStepDone detent busy => exact next_settings h (State.onPhoto_settings _ _)
  | turretStepTimeout busy => exact next_settings h (State.onPhoto_settings _ _)
  | carriageArrival busy => exact next_settings h (State.onPhoto_settings _ _)
  | carriageTimeout busy => exact next_settings h (State.onPhoto_settings _ _)
  | ringSettleExpiry => exact next_settings h (State.onPhoto_settings _ _)
  | sectorEvent sector busy => exact next_settings h (State.onPhoto_settings _ _)
  | indexEvent identity busy => exact next_settings h (State.onPhoto_settings _ _)
  | spinUpTimeout busy => exact next_settings h (State.onPhoto_settings _ _)
  | sectorGapTimeout busy => exact next_settings h (State.onPhoto_settings _ _)
  | recheckTimeout busy => exact next_settings h (State.onPhoto_settings _ _)
  | flashConfirm busy => exact next_settings h (State.onPhoto_settings _ _)
  | coverOpens => exact execCoverOpens_settings h
  | coverCloses detent busy => exact execCoverCloses_settings h
  | filmArrival busy => exact next_settings h (State.onPhoto_settings _ _)
  | filmMoveTimeout busy => exact next_settings h (State.onPhoto_settings _ _)
  | cutterDone busy => exact next_settings h (State.onPhoto_settings _ _)
  | cutterTimeout busy => exact next_settings h (State.onPhoto_settings _ _)
  | cassetteRemoved busy => exact execCassetteRemoved_settings h
  | cassetteInserted busy => exact execCassetteInserted_settings h
  | selectInactive => exact execSelectInactive_settings h
  | selectActive busy => exact execSelectActive_settings h
  | busyInactive => exact next_settings h (State.onPhoto_settings _ _)
  | busyTimeout => exact next_settings h (State.onPhoto_settings _ _)
  | ack busy => exact next_settings h (State.onPhoto_settings _ _)
  | ackTimeout => exact next_settings h (State.onPhoto_settings _ _)
  | clearToSend asserted bytes => exact next_settings h (State.setClearToSend_settings _ _)
  | replyRecordSent heldFirst => exact next_settings h (State.recordSent_settings _)
  | syncAnswer => exact next_settings h State.answerWaiting_settings
  | serviceSwitchChange on => exact next_settings h (State.keepsSettings_of_eq rfl rfl)

theorem step_settings (h : step s = .next t) : s.KeepsSettings t := by
  rcases step_cases h with rfl | ⟨c, rest, -, run⟩
  · exact .refl
  · have queue : s.KeepsSettings (s.withQueue rest) := State.keepsSettings_of_eq rfl rfl
    exact queue.trans (exec_settings run)

end Whole

/-- Settles O55: every command keeps both laws, read as the Composer's and the dictionary's. -/
theorem everyStepKeepsParametersAndDictionary : Obligations.EveryStepKeepsParametersAndDictionary := by
  unfold Obligations.EveryStepKeepsParametersAndDictionary
  intro s t h
  rw [parameterLaw_iff, parameterLaw_iff, dictionaryLaw_iff, dictionaryLaw_iff]
  exact ⟨(step_settings h).params, (step_settings h).dict⟩

end Sys2Proof.Machine
end

section
/-! PROOFS. The related parameters, the font and the parameter stack (`RelatedParametersAreBroughtIntoRelation`,
`FontIsSelectedOnlyWhenSettable`, `SavePushesTheSelectedGroups`, `RestorePopsAndRestoresSelectedGroups`). -/

namespace Sys2Proof.Machine

open Sys2Proof Sys2Proof.Safety

/-! ### MEASURE, INDENT and SPACEBAND (R23, R24) -/

/-- The indents that R23 leaves: the right one reduced first, then the left one. -/
def relatedIndents (m l r : Nat) : Nat × Nat :=
  let r' := if l + r + 24 ≤ m then r else m - 24 - l
  (if l + r' + 24 ≤ m then l else m - 24, r')

theorem relatedIndents_eq {m : Nat} (h : 24 ≤ m) (l r : Nat) :
    relatedIndents m l r =
      if l + r + 24 ≤ m then (l, r) else if l + 24 ≤ m then (l, m - 24 - l) else (m - 24, 0) := by
  unfold relatedIndents
  split_ifs <;> simp <;> omega

theorem Params.relate_eq {p : Params} (h : 24 ≤ p.measure) :
    p.relate = { p with
      left := (relatedIndents p.measure p.left p.right).1, right := (relatedIndents p.measure p.left p.right).2 } := by
  rw [relatedIndents_eq h]
  unfold Params.relate
  split_ifs <;> rfl

/-- R23 posts exactly where it changes an indent. -/
theorem Params.relate_ne {p : Params} (h : 24 ≤ p.measure) :
    (p.relate != p) = !decide (relatedIndents p.measure p.left p.right = (p.left, p.right)) := by
  have changed (l r : Nat) : { p with left := l, right := r } = p ↔ (l, r) = (p.left, p.right) := by
    cases p
    simp
  rw [Params.relate_eq h, bne, beq_eq_decide]
  simp only [changed]

theorem State.takeMeasure_eq (s : State) {p : Params} (h : 24 ≤ p.measure) (a b : Prop) [Decidable a] [Decidable b] :
    s.takeMeasure p (!decide (a ∧ b)) =
      clampNote (decide (a ∧ b ∧ relatedIndents p.measure p.left p.right = (p.left, p.right)))
        (withParameters s { p with
          left := (relatedIndents p.measure p.left p.right).1
          right := (relatedIndents p.measure p.left p.right).2 }) := by
  unfold State.takeMeasure
  rw [Params.relate_ne h, ← Bool.not_and, ← Bool.decide_and, postWhen_clamped, Params.relate_eq h]
  simp only [and_assoc]
  rfl

/-- R24 as maximum and minimum, and posting exactly where it changes a value. -/
theorem orderSpaceband_eq (lo mid hi : Nat) :
    orderSpaceband lo mid hi = (lo, max lo (min (max lo hi) mid), max lo hi) := by
  rw [orderSpaceband, clampNat_eq (Nat.le_max_left lo hi)]

theorem orderSpaceband_ne (lo mid hi : Nat) :
    (orderSpaceband lo mid hi != (lo, mid, hi)) = !decide (lo ≤ mid ∧ mid ≤ hi) := by
  have kept : orderSpaceband lo mid hi = (lo, mid, hi) ↔ lo ≤ mid ∧ mid ≤ hi := by
    simp only [orderSpaceband_eq, Prod.mk.injEq, true_and]
    omega
  rw [bne, beq_eq_decide]
  simp only [kept]

/-- Settles O11: the owners of the three commands by what R23 and R24 come to. -/
theorem relatedParametersAreBroughtIntoRelation : Obligations.RelatedParametersAreBroughtIntoRelation := by
  unfold Obligations.RelatedParametersAreBroughtIntoRelation
  intro s u
  refine ⟨fun n takes => ?_, fun l r takes narrow => ?_, fun a b c takes => ?_⟩
  · have narrow : 24 ≤ clampNat 24 1680 n.toNat := (clampNat_mem (by decide) _).1
    calc exec (.measure n) s = _ := deliver_of_takes takes _
      _ = _ := by
        rw [natOut_eq, State.takeMeasure_eq _ narrow, clampNat_eq (by decide)]
        rfl
  · have related := State.takeMeasure_eq u
      (p := { u.composer.params with left := min 1680 l.toNat, right := min 1680 r.toNat }) narrow
      (l.toNat ≤ 1680) (r.toNat ≤ 1680)
    calc exec (.indent l r) s = _ := deliver_of_takes takes _
      _ = _ := by
        rw [natOut_zero, natOut_zero, ← Bool.not_and, ← Bool.decide_and, clampNat_zero, clampNat_zero, related]
        rfl
  · have inside : (natOut 0 96 a.toNat || natOut 0 96 b.toNat || natOut 0 96 c.toNat ||
        (orderSpaceband (min 96 a.toNat) (min 96 b.toNat) (min 96 c.toNat) !=
          (min 96 a.toNat, min 96 b.toNat, min 96 c.toNat))) =
        !decide (a.toNat ≤ 96 ∧ b.toNat ≤ 96 ∧ c.toNat ≤ 96 ∧ a.toNat ≤ b.toNat ∧ b.toNat ≤ c.toNat) := by
      simp only [natOut_zero, orderSpaceband_ne, ← Bool.not_and, ← Bool.decide_and]
      congr 2
      apply propext
      omega
    calc exec (.spaceband a b c) s = _ := deliver_of_takes takes _
      _ = _ := by
        simp only [State.takeSpaceband, clampNat_zero]
        rw [inside, postWhen_clamped, orderSpaceband_eq]
        rfl

/-! ### FONT (R30) -/

/-- A font number is settable while its entry is present and the three components that count are loaded (R39, R40). -/
theorem Tables.settable_iff (t : Tables) (font : Nat) :
    t.settable font = true ↔ ∃ e, t.entry font = some e ∧ (t.widthSlot e.slot).codeMapLoaded = true ∧
      (t.widthSlot e.slot).widthsLoaded = true ∧ (t.widthSlot e.slot).infoLoaded = true := by
  unfold Tables.settable
  cases t.entry font with
  | none => simp
  | some e => simp [WidthSlot.valid, and_assoc]

/-- Settles O12: the owner of FONT by what makes a font settable. -/
theorem fontIsSelectedOnlyWhenSettable : Obligations.FontIsSelectedOnlyWhenSettable := by
  unfold Obligations.FontIsSelectedOnlyWhenSettable
  intro n s u takes
  have delivered : exec (.font n) s =
      .next (clampNote (decide (n.toNat ≤ 63)) (u.takeFont (min 63 n.toNat))).runOut := by
    rw [← clampNat_zero, ← postWhen_clamped, ← natOut_zero]
    exact deliver_of_takes takes _
  refine ⟨fun settable => ?_, fun refused => ?_⟩
  · rw [delivered, State.takeFont, if_pos ((Tables.settable_iff _ _).mpr settable)]
    rfl
  · rw [delivered, State.takeFont, if_neg ((Tables.settable_iff _ _).not.mpr refused)]
    rfl

/-! ### SAVE and RESTORE (R33 to R35) -/

theorem maskBit_zero (k : Nat) : maskBit 0#8 k = false := by simp [maskBit]

/-- A frame of mask 0 holds no group, and gives none back. -/
theorem Params.restore_frame_zero (p q : Params) (t : Tables) (mask : Byte) :
    (q.frame 0).fontRefused t mask = false ∧ p.restore t (q.frame 0) mask = p := by
  have current {α : Type} (selected : Bool) (x : α) : restored selected none x = x := by cases selected <;> rfl
  have kept : (q.frame 0).fontRefused t mask = false := by simp [Frame.fontRefused, Params.frame, maskBit_zero]
  refine ⟨kept, ?_⟩
  unfold Params.restore
  rw [kept]
  simp [Params.frame, maskBit_zero, current]

theorem State.takeRestore_of_stack {u : State} {f : Frame} {rest : List Frame} (stack : u.composer.stack = f :: rest)
    (mask : Byte) :
    u.takeRestore mask =
      ({ u with composer := { u.composer with
          params := u.composer.params.restore u.tables f mask, stack := rest } } : State).postWhen
        (f.fontRefused u.tables mask) .notSettable := by
  unfold State.takeRestore
  rw [stack]
  rfl

/-- Settles O13: SAVE by the count of frames, RESTORE of a frame of mask 0 by what such a frame holds. -/
theorem savePushesTheSelectedGroups : Obligations.SavePushesTheSelectedGroups := by
  unfold Obligations.SavePushesTheSelectedGroups
  refine ⟨fun m s u takes => ⟨fun room => ?_, fun full => ?_⟩, fun m s u p rest takes stack => ?_⟩
  · calc exec (.save m) s = _ := deliver_of_takes takes _
      _ = _ := by rw [State.takeSave, if_pos (show _ < Config.maxFrames from room)]; rfl
  · calc exec (.save m) s = _ := deliver_of_takes takes _
      _ = _ := by rw [State.takeSave, if_neg (show ¬_ < Config.maxFrames from Nat.not_lt.mpr full)]; rfl
  · obtain ⟨kept, params⟩ := u.composer.params.restore_frame_zero p u.tables m
    calc exec (.restore m) s = _ := deliver_of_takes takes _
      _ = _ := by rw [State.takeRestore_of_stack stack, kept, params]; rfl

/-- The font after a RESTORE, and whether it is refused, by what the frame holds (R35). -/
theorem Params.restore_font (p : Params) (t : Tables) (f : Frame) (mask : Byte) :
    (p.restore t f mask).font =
      match mask.getLsbD 0, f.font with
      | true, some none => none
      | true, some (some n) => if t.settable n then some n else p.font
      | _, _ => p.font := by
  change (if f.fontRefused t mask then p.font else restored (maskBit mask 0) f.font p.font) = _
  unfold Frame.fontRefused maskBit restored
  rcases mask.getLsbD 0 with _ | _
  · simp
  · rcases f.font with _ | _ | n
    · simp
    · simp
    · by_cases settable : t.settable n = true <;> simp [settable]

theorem Frame.fontRefused_note (f : Frame) (t : Tables) (mask : Byte) (set : Word24) :
    postWhen (f.fontRefused t mask) .notSettable set = set |||
      match mask.getLsbD 0, f.font with
      | true, some (some n) => if t.settable n then 0 else 128#24
      | _, _ => 0 := by
  unfold Frame.fontRefused maskBit
  rcases mask.getLsbD 0 with _ | _
  · simp [postWhen]
  · rcases f.font with _ | _ | n
    · simp [postWhen]
    · simp [postWhen]
    · by_cases settable : t.settable n = true
      · simp [postWhen, settable]
      · simp [postWhen, settable, postTo, Event.bit, Event.num]

theorem State.postWhen_eq (s : State) (c : Bool) (e : Event) :
    s.postWhen c e = { s with reply := { s.reply with pending := Machine.postWhen c e s.reply.pending } } := by
  cases c <;> rfl

/-- What a RESTORE of a frame leaves, the end of formats included. -/
theorem State.takeRestore_runOut {u : State} {f : Frame} {rest : List Frame} (stack : u.composer.stack = f :: rest)
    (mask : Byte) :
    ∃ mode sources, (u.takeRestore mask).runOut = { u with
      composer := { u.composer with params := u.composer.params.restore u.tables f mask, stack := rest }
      reply := { u.reply with
        pending := Machine.postWhen (f.fontRefused u.tables mask) .notSettable u.reply.pending }
      intake := { u.intake with mode := mode, sources := sources } } := by
  obtain ⟨mode, sources, frame⟩ := runOut_frame (u.takeRestore mask)
  refine ⟨mode, sources, frame.trans ?_⟩
  rw [State.takeRestore_of_stack stack, State.postWhen_eq]

/-- Settles O14: the groups one by one, as the frame and the command select them. -/
theorem restorePopsAndRestoresSelectedGroups : Obligations.RestorePopsAndRestoresSelectedGroups := by
  unfold Obligations.RestorePopsAndRestoresSelectedGroups
  intro m s u takes
  refine ⟨fun empty => ?_, fun f rest stack => ?_⟩
  · calc exec (.restore m) s = _ := deliver_of_takes takes _
      _ = _ := by rw [State.takeRestore, empty]; rfl
  · obtain ⟨mode, sources, restored⟩ := State.takeRestore_runOut stack m
    have font := Params.restore_font u.composer.params u.tables f m
    have note := congrArg (fun set : Word24 => { u.reply with pending := set })
      (Frame.fontRefused_note f u.tables m u.reply.pending)
    exact ⟨_, (deliver_of_takes takes _).trans (congrArg _ restored), rfl, font, rfl, rfl, rfl, rfl, rfl, rfl, rfl,
      note, rfl⟩

end Sys2Proof.Machine
end

section
/-! PROOFS. Codes that set, end or kill a line (`CodesThatSetAreCheckedAtTheTake`, `EndOfLineClosesTheLine`,
`KillLineAndClear`): the check of R31, the slot an opening line takes, and what the close and the kill leave. -/

namespace Sys2Proof.Machine

open Sys2Proof Sys2Proof.Safety

/-! ### The check at the take (R31) -/

theorem Tables.hasLens_iff (t : Tables) : t.hasLens = true ↔ ∃ k, tabGet t.lenses 0 k ≠ 0 := by
  simp only [Tables.hasLens, List.any_eq_true, bne_iff_ne, List.mem_iff_getElem?, tabGet]
  constructor
  · rintro ⟨size, ⟨k, at_k⟩, nonzero⟩
    refine ⟨k, ?_⟩
    rw [Vector.getElem?_toList] at at_k
    simpa [at_k] using nonzero
  · rintro ⟨k, nonzero⟩
    cases at_k : t.lenses[k]? with
    | none => simp [at_k] at nonzero
    | some size =>
      exact ⟨size, ⟨k, by rw [Vector.getElem?_toList, at_k]⟩, by simpa [at_k] using nonzero⟩

theorem canSet_iff (s : State) : canSet s.tables s.composer.params = true ↔ CanSet s := by
  unfold canSet CanSet
  cases s.composer.params.font with
  | none => simp
  | some f =>
    simp only [Bool.and_eq_true, Tables.hasLens_iff, Tables.settable]
    cases entry : s.tables.entry f with
    | none => simp [entry]
    | some e => simp [entry]

theorem whenSettable_of_canSet {u : State} (h : CanSet u) (f : Desk → Desk) :
    u.desk.whenSettable u.tables f = f u.desk :=
  if_pos ((canSet_iff u).mpr h)

theorem whenSettable_of_not {u : State} (h : ¬CanSet u) (f : Desk → Desk) :
    u.desk.whenSettable u.tables f = u.desk.post .notSettable :=
  if_neg ((canSet_iff u).not.mpr h)

/-! ### The slot an opening line takes (R60, R61, R112) -/

theorem lowestFree_of {s : State} {i : Nat} (h : LowestFree s i) : s.store.lowestFree = some i := by
  obtain ⟨small, free, lower⟩ := h
  exact List.find?_range_eq_some.mpr ⟨by simpa using free, List.mem_range.mpr small, by simpa using lower⟩

theorem lowestFree_of_noneFree {s : State} (h : NoneFree s) : s.store.lowestFree = none :=
  (lowestFree_none_iff s.store).mpr h

theorem Desk.openLine_of_free {d : Desk} {i : Nat} (h : d.store.lowestFree = some i) :
    d.openLine = some
      ({ d with
          store := d.store.fill i d.composer.textRecord
          composer := { d.composer with
            phase := .opened ⟨i, (d.composer.params.lineStart : Int) * 48, 0, 0, 0⟩
            adjust := 0
            columnMark := false
            counter := nextNumber d.composer.counter } },
        ⟨i, (d.composer.params.lineStart : Int) * 48, 0, 0, 0⟩) := by
  simp only [Desk.openLine, h]

theorem Desk.openLine_of_full {d : Desk} (h : d.store.lowestFree = none) : d.openLine = none := by
  simp only [Desk.openLine, h]

/-- An item that waits for a slot holds the parser up: no format ends (R10, R61). -/
theorem runOut_of_waitSlot {s : State} {held : Waiting} (h : s.composer.phase = .waitSlot held) : s.runOut = s :=
  runOut_of_holding (by simp [State.holding, h])

/-! ### Delivery to the desk -/

/-- An item of the Composer delivered: what its operation leaves on the desk, then the end of formats. -/
theorem deliver_onDesk {c : Instr} {s u : State} {f : Tables → List DictEntry → Desk → Desk} {d : Desk}
    (takes : Takes c s u) (h : f u.tables u.dict u.desk = d) :
    deliver c (fun s => s.onDesk f) s = .next (u.withDesk d).runOut :=
  h ▸ deliver_of_takes takes _

/-- What a statement says of the answer beside the Intake, said of what the operation leaves on the desk. -/
theorem answersWith_onDesk {c : Instr} {s u : State} {f : Tables → List DictEntry → Desk → Desk} {d : Desk}
    {p : State → Prop} (takes : Takes c s u) (h : f u.tables u.dict u.desk = d)
    (hp : ∀ intake, p { u.withDesk d with intake := intake }) : AnswersWith (deliver c (fun s => s.onDesk f) s) p := by
  refine ⟨_, deliver_onDesk takes h, ?_⟩
  obtain ⟨mode, sources, frame⟩ := runOut_frame (u.withDesk d)
  rw [frame]
  exact hp _

/-- An operation that leaves the desk as it is. -/
theorem deliver_desk {c : Instr} {s u : State} {f : Tables → List DictEntry → Desk → Desk} (takes : Takes c s u)
    (h : f u.tables u.dict u.desk = u.desk) : deliver c (fun s => s.onDesk f) s = .next u.runOut :=
  deliver_onDesk takes h

/-! ### Slots written twice, counts and posts -/

section Store

variable (st : Store) (i : Nat)

theorem putSlot_putSlot (x y : LineSlot) : (st.putSlot i x).putSlot i y = st.putSlot i y := by
  unfold Store.putSlot tabPut
  simp

/-- A slot written and closed is the slot closed. -/
theorem close_putSlot (x : LineSlot) (r : LineRecord) : (st.putSlot i x).close i r = st.close i r := by
  unfold Store.close
  rw [putSlot_putSlot]
  rfl

theorem record_putRecord_same {i : Nat} (h : i < 8) (r : LineRecord) : (st.putRecord i r).record i = r := by
  rw [record_putRecord, if_pos ⟨rfl, h⟩]

theorem putRecord_putRecord {i : Nat} (h : i < 8) (r q : LineRecord) :
    (st.putRecord i r).putRecord i q = st.putRecord i q := by
  unfold Store.putRecord
  rw [slot_putSlot_same _ _ h, putSlot_putSlot]

end Store

theorem saturate_eq {limit v : Nat} (h : v ≤ limit) : saturate limit v = min limit (v + 1) := by
  unfold saturate
  split <;> omega

theorem postWhen_eq_or (c : Bool) (e : Event) (set : Word24) :
    postWhen c e set = set ||| (if c then e.bit else 0) := by
  cases c
  · simp [postWhen]
  · rfl

/-! ### END LINE and END PARA (R28, R60, R61, R77, R82, R102, R114) -/

/-- Whether a code is one of the two that end a line, and whether it takes the last-line quad mode. -/
def EndsLine (c : Instr) (lastLine : Bool) : Prop :=
  (c = .endLine ∧ lastLine = false) ∨ (c = .endPara ∧ lastLine = true)

section Ending

variable {c : Instr} {lastLine : Bool}

theorem exec_endsLine (h : EndsLine c lastLine) (s : State) :
    exec c s = deliver c (fun s => s.onDesk fun t dict d => d.takeEnding t dict c) s := by
  rcases h with ⟨rfl, -⟩ | ⟨rfl, -⟩ <;> rfl

theorem afterWord_endsLine (h : EndsLine c lastLine) (t : Tables) (d : Desk) :
    d.afterWord t c = d.endAfterWord c lastLine := by
  rcases h with ⟨rfl, rfl⟩ | ⟨rfl, rfl⟩ <;> rfl

theorem takeEnding_endsLine_of_opened (h : EndsLine c lastLine) (t : Tables) (dict : List DictEntry) {d : Desk}
    {line : OpenLine} (phase : d.composer.phase = .opened line) :
    d.takeEnding t dict c = (d.settleWord line).closeOpen line lastLine := by
  have still : (d.settleWord line).composer.phase = .opened line := phase
  simp only [Desk.takeEnding, phase, afterWord_endsLine h, Desk.endAfterWord, still]

theorem takeEnding_endsLine_of_free (h : EndsLine c lastLine) (t : Tables) (dict : List DictEntry) {d e : Desk}
    {line : OpenLine} (phase : d.composer.phase = .idle) (opened : d.openLine = some (e, line)) :
    d.takeEnding t dict c = e.closeOpen line lastLine := by
  simp only [Desk.takeEnding, phase, afterWord_endsLine h, Desk.endAfterWord, opened]

theorem takeEnding_endsLine_of_full (h : EndsLine c lastLine) (t : Tables) (dict : List DictEntry) {d : Desk}
    (phase : d.composer.phase = .idle) (full : d.openLine = none) : d.takeEnding t dict c = d.wait (.code c) := by
  simp only [Desk.takeEnding, phase, afterWord_endsLine h, Desk.endAfterWord, full]

end Ending

/-- The close as the statements say it: the slot READY at the tail of the list, the ladder count, LINE FLAGGED. -/
theorem Desk.closeLine_eq {d : Desk} (ladder : d.composer.ladder ≤ 255) (i : Nat) (r : LineRecord) :
    d.closeLine i r =
      { composer := { d.composer with
          phase := .idle
          word := ⟨[], [], false⟩
          ladder := if r.flags.hyphenEnded then min 255 (d.composer.ladder + 1) else 0 }
        store := { d.store.putSlot i ⟨.ready, r⟩ with
          ready := d.store.ready ++ [i], lastClosed := some r.number }
        events := d.events |||
          (if r.flags.overset || r.flags.forced || r.flags.loose || r.flags.sizeSubstituted then 512#24 else 0) } := by
  rw [← saturate_eq ladder]
  unfold Desk.closeLine
  rw [postWhen_eq_or]
  rfl

/-- An empty line closed: nothing placed, the film moved by the lead and the adjustment (R77, R83). -/
theorem closeRecord_of_noItems (p : Params) (quad : Quad) (x : Int) {r : LineRecord} (h : r.items = []) :
    closeRecord p quad x r = { r with
      quad := quad, spaces := 0, quotient := 0, remainder := 0, gap := 0, leftAtRight := 0
      filmMove := (lengthSteps p.lead : Int) + r.adjustment } := by
  simp [closeRecord, h, closedItems, uptoLastGlyph, trailing]

/-- The open line closed with its word settled: one close of the whole line (R69, R77). -/
theorem Desk.closeOpen_settleWord (d : Desk) {line : OpenLine} (small : line.slot < 8) (lastLine : Bool) :
    (d.settleWord line).closeOpen line lastLine =
      d.closeLine line.slot
        (closeRecord d.composer.params (if lastLine then d.composer.params.lastQuad else d.composer.params.quad) line.x
          { d.store.record line.slot with
            items := (d.store.record line.slot).items ++ d.composer.word.glyphs.map LineItem.glyph }) := by
  unfold Desk.closeOpen Desk.closeLine
  simp only [Desk.settleWord, Desk.withRecord, record_putRecord_same _ small]
  rw [Store.putRecord, close_putSlot]

/-- The record of an empty line: as it opened, with its quad mode and its film move (R60, R77, R83). -/
def Composer.emptyLine (c : Composer) (quad : Quad) : LineRecord :=
  { c.textRecord with quad := quad, filmMove := (c.params.lead : Int) * 10 + c.adjust }

theorem closeRecord_textRecord (c : Composer) (quad : Quad) (x : Int) :
    closeRecord c.params quad x c.textRecord = c.emptyLine quad := by
  rw [closeRecord_of_noItems _ _ _ rfl, lengthSteps, Nat.cast_mul]
  rfl

/-- An empty line opened in the lowest FREE slot and closed at once. -/
theorem Desk.closeOpen_openLine {d : Desk} {i : Nat} (free : d.store.lowestFree = some i) (lastLine : Bool) :
    ∃ e line, d.openLine = some (e, line) ∧ e.closeOpen line lastLine =
      { composer := { d.composer with
          phase := .idle, word := ⟨[], [], false⟩, adjust := 0, columnMark := false, ladder := 0
          counter := nextNumber d.composer.counter }
        store := d.store.close i
          (d.composer.emptyLine (if lastLine then d.composer.params.lastQuad else d.composer.params.quad))
        events := d.events } := by
  refine ⟨_, _, Desk.openLine_of_free free, ?_⟩
  have record : (d.store.fill i d.composer.textRecord).record i = d.composer.textRecord := by
    rw [Store.fill, record_putSlot, if_pos ⟨rfl, (lowestFree_spec free).1⟩]
  unfold Desk.closeOpen Desk.closeLine
  simp only [record, closeRecord_textRecord]
  rw [Store.fill, close_putSlot]
  rfl

/-- Settles O19: the close of the open line with its word, or of an empty line, or the wait for a slot. -/
theorem endOfLineClosesTheLine : Obligations.EndOfLineClosesTheLine := by
  unfold Obligations.EndOfLineClosesTheLine
  intro c s u code takes capacity
  have ladder : u.composer.ladder ≤ 255 := ((capacityLaw_iff u).mp capacity).desk.composer.ladder
  obtain ⟨lastLine, ends, quad⟩ : ∃ lastLine, EndsLine c lastLine ∧
      (if c = .endPara then u.composer.params.lastQuad else u.composer.params.quad) =
        if lastLine then u.composer.params.lastQuad else u.composer.params.quad := by
    rcases code with rfl | rfl
    · exact ⟨false, .inl ⟨rfl, rfl⟩, rfl⟩
    · exact ⟨true, .inr ⟨rfl, rfl⟩, rfl⟩
  rw [exec_endsLine ends]
  extract_lets p q
  have quad : q = if lastLine then u.composer.params.lastQuad else u.composer.params.quad := quad
  rw [quad]
  refine ⟨fun line phase small => ?_, fun idle => ⟨fun i free => ?_, fun full => ?_⟩⟩
  · have ended := takeEnding_endsLine_of_opened ends u.tables u.dict (d := u.desk) phase
    rw [Desk.closeOpen_settleWord _ small, Desk.closeLine_eq ladder] at ended
    exact (deliver_onDesk takes ended).trans rfl
  · obtain ⟨e, line, opened, closed⟩ := Desk.closeOpen_openLine (d := u.desk) (lowestFree_of free) lastLine
    have ended := takeEnding_endsLine_of_free ends u.tables u.dict idle opened
    refine answersWith_onDesk takes (ended.trans closed) fun intake => ?_
    refine ⟨⟨_, ⟨slot_putSlot_same _ _ free.1, fun j other => slot_putSlot_ne _ _ (Ne.symm other)⟩, ?_⟩, ?_⟩
    · exact ⟨rfl, rfl, rfl, rfl, rfl, rfl, rfl⟩
    · refine ⟨rfl, rfl, ?_, rfl⟩
      rw [← idle]
      rfl
  · have ended := takeEnding_endsLine_of_full ends u.tables u.dict idle
      (Desk.openLine_of_full (d := u.desk) (lowestFree_of_noneFree full))
    rw [deliver_onDesk takes ended, runOut_of_waitSlot rfl]
    rfl

/-! ### KILL LINE and CLEAR (R87, R88, R118) -/

/-- The pending film adjustment after a command or a kill: clamped, and noted where the clamp changes it (R84). -/
theorem Desk.adjustFilm_eq (d : Desk) (steps : Int) :
    d.adjustFilm steps =
      { d with
        composer := { d.composer with adjust := max (-14400) (min 14400 (d.composer.adjust + steps)) }
        events := d.events |||
          (if -14400 ≤ d.composer.adjust + steps ∧ d.composer.adjust + steps ≤ 14400 then 0 else 8#24) } := by
  have clamp : clampInt (-Config.filmReach) Config.filmReach (d.composer.adjust + steps) =
      max (-14400) (min 14400 (d.composer.adjust + steps)) := clampInt_eq (by decide) _
  have note : (if max (-14400) (min 14400 (d.composer.adjust + steps)) != d.composer.adjust + steps
      then Event.parameterClamped.bit else 0) =
      if -14400 ≤ d.composer.adjust + steps ∧ d.composer.adjust + steps ≤ 14400 then 0 else 8#24 := by
    split_ifs with changed inside inside
    · exact absurd (by omega) (bne_iff_ne.mp changed)
    · rfl
    · rfl
    · exact absurd (bne_iff_ne.mpr (by omega)) changed
  unfold Desk.adjustFilm
  simp only [clamp, postWhen_eq_or, note]

/-- The killed line leaves its slot FREE and gives back what it captured. -/
theorem Desk.killLine_eq {d : Desk} {line : OpenLine}
    (phase : d.composer.phase = .opened line ∨ d.composer.phase = .overflowed line) :
    let r := d.store.record line.slot
    let sum := d.composer.adjust + r.adjustment
    d.killLine =
      { composer := { d.composer with
          phase := .idle
          word := ⟨[], [], false⟩
          adjust := max (-14400) (min 14400 sum)
          columnMark := d.composer.columnMark || r.columnMark
          counter := r.number }
        store := d.store.release line.slot
        events := d.events ||| (if -14400 ≤ sum ∧ sum ≤ 14400 then 0 else 8#24) } := by
  have killed : d.killLine = d.kill line := by
    unfold Desk.killLine
    rcases phase with phase | phase <;> rw [phase]
  simp only [killed, Desk.kill, Desk.adjustFilm_eq]
  rfl

theorem Desk.killLine_of_idle {d : Desk} (idle : d.composer.phase = .idle) : d.killLine = d := by
  unfold Desk.killLine
  rw [idle]

theorem unmarkedReady_iff (st : Store) :
    st.unmarkedReady = true ↔ ∃ x ∈ st.slots.toList, x.state = .ready ∧ x.record.discard = false := by
  simp only [Store.unmarkedReady, List.any_eq_true, Bool.and_eq_true, beq_iff_eq, Bool.not_eq_true']

theorem unmarkedReady_iff_slot (st : Store) :
    st.unmarkedReady = true ↔ ∃ i, (st.slot i).state = .ready ∧ (st.slot i).record.discard = false := by
  rw [unmarkedReady_iff]
  simp only [List.mem_iff_getElem?, Vector.getElem?_toList, Store.slot, tabGet]
  constructor
  · rintro ⟨x, ⟨i, at_i⟩, unmarked⟩
    exact ⟨i, by simpa [at_i] using unmarked⟩
  · rintro ⟨i, unmarked⟩
    cases at_i : st.slots[i]? with
    | none => simp [at_i] at unmarked
    | some x => exact ⟨x, ⟨i, at_i⟩, by simpa [at_i] using unmarked⟩

/-- Whether a READY line is unmarked does not depend on a slot that was FILLING and is FREE now. -/
theorem unmarkedReady_release {st : Store} {i : Nat} (filling : (st.slot i).state = .filling) :
    (st.release i).unmarkedReady = st.unmarkedReady := by
  have slots (j : Nat) : ((st.release i).slot j).state = .ready ∧ ((st.release i).slot j).record.discard = false ↔
      (st.slot j).state = .ready ∧ (st.slot j).record.discard = false := by
    have released : (st.release i).slot j = if i = j ∧ i < 8 then ⟨.free, .blank⟩ else st.slot j := slot_putSlot ..
    rw [released]
    split
    · next same =>
      obtain ⟨rfl, -⟩ := same
      simp [filling]
    · rfl
  rw [Bool.eq_iff_iff, unmarkedReady_iff_slot, unmarkedReady_iff_slot]
  simp only [slots]

/-- Discard marking, and its note. -/
theorem discardReady_eq (st : Store) :
    st.discardReady = { st with slots := st.slots.map fun x =>
      if x.state = .ready then { x with record := { x.record with discard := true } } else x } := by
  simp only [Store.discardReady, beq_iff_eq]

/-- What CLEAR leaves, by what the kill leaves (R37, R88, R118). -/
theorem Desk.clear_eq (d : Desk) :
    d.clear =
      { composer := { Composer.reset with counter := d.killLine.composer.counter }
        store := d.killLine.store.discardReady
        events := d.killLine.events ||| (if d.killLine.store.unmarkedReady then 0x800000 else 0) } := by
  unfold Desk.clear
  simp only [postWhen_eq_or]
  rfl

/-- Settles O21: the kill of the line in OPEN or OVERFLOWED, and CLEAR by what the kill leaves of it. -/
theorem killLineAndClear : Obligations.KillLineAndClear := by
  unfold Obligations.KillLineAndClear
  refine ⟨fun s u line takes phase => ?_, fun s u takes idle => ?_,
    fun s u takes => ⟨fun idle => ?_, fun line phase filling => ?_⟩⟩
  · exact (deliver_onDesk takes (Desk.killLine_eq (d := u.desk) phase)).trans rfl
  · exact deliver_desk takes (Desk.killLine_of_idle (d := u.desk) idle)
  · have cleared := Desk.clear_eq u.desk
    rw [Desk.killLine_of_idle (d := u.desk) idle] at cleared
    simp only [unmarkedReady_iff, discardReady_eq] at cleared
    exact (deliver_onDesk takes cleared).trans rfl
  · have cleared := Desk.clear_eq u.desk
    rw [Desk.killLine_eq (d := u.desk) phase] at cleared
    simp only [unmarkedReady_release (st := u.desk.store) filling, unmarkedReady_iff, discardReady_eq] at cleared
    exact (deliver_onDesk takes cleared).trans rfl

/-! ### The codes that are checked at the take, and those that are not (R31) -/

/-- Settles O15: the seven codes by the check, the others by the desk with no line open. -/
theorem codesThatSetAreCheckedAtTheTake : Obligations.CodesThatSetAreCheckedAtTheTake := by
  unfold Obligations.CodesThatSetAreCheckedAtTheTake
  refine ⟨fun c s u takes sets blocked => ?_, fun s u idle noWord => ⟨fun takes => ?_, fun takes => ?_,
    fun i takes free => ?_⟩⟩
  · have refuses {f : Tables → List DictEntry → Desk → Desk}
        (h : exec c s = deliver c (fun s => s.onDesk fun t dict d => d.whenSettable t (f t dict)) s) :
        exec c s = .next (posted .notSettable u).runOut :=
      (h.trans (deliver_onDesk takes (whenSettable_of_not blocked (f u.tables u.dict)))).trans rfl
    rcases sets with ⟨code, ⟨rfl, -⟩ | ⟨b, rfl, -⟩⟩ |
      ⟨kind, ⟨rfl, -⟩ | ⟨rfl, -⟩ | ⟨rfl, -⟩ | ⟨rfl, -⟩ | ⟨rfl, -⟩⟩
    all_goals exact refuses rfl
  · have unmarked : u.desk.markDiscretionary = u.desk := if_pos (.inl (List.isEmpty_iff.mpr noWord))
    exact deliver_desk takes unmarked
  · exact deliver_desk takes (Desk.killLine_of_idle (d := u.desk) idle)
  · obtain ⟨e, line, opened, closed⟩ := Desk.closeOpen_openLine (d := u.desk) (lowestFree_of free) false
    have ended := takeEnding_endsLine_of_free (.inl ⟨rfl, rfl⟩) u.tables u.dict idle opened
    exact answersWith_onDesk takes (ended.trans closed) fun _ => rfl

end Sys2Proof.Machine
end

section
/-! PROOFS. A glyph set on the open line (`CharacterSetsAGlyphOnTheOpenLine`): the glyph that a code makes, what setting
it leaves on the desk, and the line that a full word buffer ends. -/

namespace Sys2Proof.Machine

open Sys2Proof Sys2Proof.Safety

/-! ### The glyph that a code makes (R62 to R64) -/

/-- A size resolves only where a lens is fitted (R62). -/
theorem bestLens_some {requested pos : Nat} {sizes : List Nat} {best : Option (Nat × Nat)} {answer : Nat × Nat}
    (h : bestLens requested pos sizes best = some answer) : best.isSome ∨ sizes.any (· != 0) := by
  induction sizes generalizing pos best with
  | nil =>
    have same : best = some answer := h
    exact .inl (by simp [same])
  | cons size rest ih =>
    by_cases empty : size = 0
    · have later : bestLens requested (pos + 1) rest best = some answer := by simpa [bestLens, empty] using h
      exact (ih later).imp id fun fitted => by simp [fitted]
    · exact .inr (by simp [empty])

theorem hasLens_of_resolve {t : Tables} {size : Nat} {answer : Nat × Nat} (h : t.resolve size = some answer) :
    t.hasLens = true :=
  (bestLens_some h).resolve_left nofun

/-- The reject glyph stands for a damaged code and for a code that the code map gives no position (R63). -/
theorem glyphFor_eq (t : Tables) (w : WidthSlot) (code : Option Byte) :
    let mapped : Option Nat := code.bind fun b => tabGet w.codeMap none (b.toNat - 0x20)
    glyphFor t w code =
      (mapped.getD (tabGet w.info 0 1),
        match mapped, code with
        | some _, some b => if (t.classOf b).cls = 0 then .nonLetter else .letter
        | _, _ => .reject) := by
  unfold glyphFor
  cases code with
  | none => rfl
  | some b =>
    dsimp only [Option.bind_some]
    split
    · next unmapped => simp only [unmapped]; rfl
    · next position mapped => simp only [mapped]; rfl

/-- The reject glyph of an undamaged code is the one its code map entry NONE gives (R63). -/
theorem glyphFor_rejects (t : Tables) (w : WidthSlot) (code : Option Byte) :
    ((glyphFor t w code).2 == .reject && code.isSome) =
      (code.isSome && (code.bind fun b => tabGet w.codeMap none (b.toNat - 0x20)).isNone) := by
  unfold glyphFor
  cases code with
  | none => exact Bool.and_false _
  | some b =>
    dsimp only [Option.bind_some]
    split
    · next unmapped => simp only [unmapped]; rfl
    · next position mapped =>
      simp only [mapped]
      split <;> rfl

/-- The pair kern with the kerning switch (R64 step 1). -/
theorem pairKern_eq (kerning : Bool) (w : WidthSlot) (font hs position : Nat) (before : Option LineItem) :
    (if kerning then pairKern w font hs position before else 0) =
      match kerning, before with
      | true, some (.glyph h) =>
        if h.font = font ∧ h.hs = hs then
          tabGet w.kernPairs 0 (tabGet w.kernClasses 0 h.position * 16 + tabGet w.kernClasses 0 position)
        else 0
      | _, _ => 0 := by
  cases kerning with
  | false => rfl
  | true => rcases before with _ | ⟨h⟩ | ⟨p⟩ <;> rfl

/-! ### The glyph on the desk (R65, R69) -/

/-- The open line with a glyph more. -/
def OpenLine.further (line : OpenLine) (g : Glyph) : OpenLine := { line with x := g.after, glyphs := line.glyphs + 1 }

/-- Whether the line stands in OVERFLOWED with the glyph `g` on it (R65). -/
def Desk.fullWith (d : Desk) (line : OpenLine) (was : Bool) (g : Glyph) : Bool :=
  was || overflows (d.store.record line.slot).mr g.after line.shrink (line.glyphs + 1)

/-- The desk with the glyph `g` in the word buffer and on the line, before a full buffer ends the word. -/
def Desk.joinGlyph (d : Desk) (line : OpenLine) (was : Bool) (g : Glyph) : Desk :=
  let r := d.store.record line.slot
  { d.withRecord line.slot { r with flags := r.flags.gather g } with
    composer := { d.composer.bufferGlyph g with
      manualKern := 0
      phase := if d.fullWith line was g then .overflowed (line.further g) else .opened (line.further g) } }

section Setting

variable {t : Tables} {dict : List DictEntry} {d : Desk} {line : OpenLine} {was : Bool} {code : Option Byte} {g : Glyph}

theorem Composer.bufferGlyph_eq (c : Composer) (g : Glyph) :
    c.bufferGlyph g = { c with
      word := if c.word.glyphs.isEmpty then ⟨[g], [], c.noHyphenate⟩
        else { c.word with glyphs := c.word.glyphs ++ [g] }
      noHyphenate := if c.word.glyphs.isEmpty then false else c.noHyphenate } := by
  unfold Composer.bufferGlyph
  split <;> rfl

theorem Desk.takeGlyph_of_line (phase : d.composer.phase = if was then .overflowed line else .opened line)
    (item : Instr) : d.takeGlyph t dict code item = d.setGlyph t dict line was code := by
  unfold Desk.takeGlyph
  cases was <;> simp only [phase, if_true, if_false, Bool.false_eq_true]

theorem Desk.joinGlyph_length (d : Desk) (line : OpenLine) (was : Bool) (g : Glyph) :
    (d.joinGlyph line was g).composer.word.glyphs.length = d.composer.word.glyphs.length + 1 :=
  d.composer.bufferGlyph_length g

/-- Setting a glyph: it joins the word, and a word of 48 glyphs ends (R69, R71). -/
theorem Desk.setGlyph_of_made (made : d.makeGlyph t line code = some g) :
    d.setGlyph t dict line was code =
      if d.composer.word.glyphs.length < 47 then d.joinGlyph line was g
      else if d.fullWith line was g then (d.joinGlyph line was g).breakLine t dict (line.further g) none
      else (d.joinGlyph line was g).settleWord (line.further g) := by
  have room : (d.joinGlyph line was g).composer.word.glyphs.length < Config.wordSize ↔
      d.composer.word.glyphs.length < 47 := by
    rw [Desk.joinGlyph_length]
    exact Nat.succ_lt_succ_iff
  simp only [← room]
  unfold Desk.setGlyph
  rw [made]
  rfl

/-- A word settled on a line whose record has just been written. -/
theorem Desk.settleWord_putRecord {st : Store} {r : LineRecord} (small : line.slot < 8)
    (store : d.store = st.putRecord line.slot r) :
    d.settleWord line =
      { composer := { d.composer with word := ⟨[], [], false⟩ }
        store := st.putRecord line.slot { r with items := r.items ++ d.composer.word.glyphs.map LineItem.glyph }
        events := d.events } := by
  unfold Desk.settleWord Desk.withRecord
  simp only [store, record_putRecord_same _ small, putRecord_putRecord _ small]
  rfl

end Setting

/-! ### A READY line over the rest of a break (R71, R75, R76) -/

/-- A closed line keeps its slot and its place while further lines are opened and closed. -/
def KeepsReady (i : Nat) (a b : Store) : Prop := b.slot i = a.slot i ∧ a.ready <+: b.ready

theorem KeepsReady.trans {i : Nat} {a b c : Store} (hab : KeepsReady i a b) (hbc : KeepsReady i b c) :
    KeepsReady i a c :=
  ⟨hbc.1.trans hab.1, hab.2.trans hbc.2⟩

theorem Desk.openLine_free {d e : Desk} {line : OpenLine} (h : d.openLine = some (e, line)) :
    (d.store.slot line.slot).state = .free := by
  unfold Desk.openLine at h
  split at h
  · exact nomatch h
  · next free =>
    cases h
    exact (lowestFree_spec free).2.1

theorem putSlot_keepsReady {i j : Nat} (ne : j ≠ i) (st : Store) (x : LineSlot) : KeepsReady i st (st.putSlot j x) :=
  ⟨slot_putSlot_ne st x ne, List.prefix_rfl⟩

theorem close_keepsReady {i j : Nat} (ne : j ≠ i) (st : Store) (r : LineRecord) : KeepsReady i st (st.close j r) :=
  ⟨slot_putSlot_ne st _ ne, List.prefix_append _ _⟩

theorem Desk.placeCarry_keepsReady (t : Tables) (dict : List DictEntry) {i : Nat} (fuel : Nat) (carry : Carry)
    (d : Desk) (ready : (d.store.slot i).state = .ready) :
    KeepsReady i d.store (d.placeCarry t dict none fuel carry).store := by
  induction fuel generalizing carry d with
  | zero => exact ⟨rfl, List.prefix_rfl⟩
  | succ fuel ih =>
    unfold Desk.placeCarry
    split
    · exact ⟨rfl, List.prefix_rfl⟩
    · next e line opened =>
      have ne : line.slot ≠ i := by
        rintro rfl
        rw [Desk.openLine_free opened] at ready
        exact nomatch ready
      obtain ⟨-, -, -, store⟩ := Desk.openLine_some opened
      have filled : KeepsReady i d.store e.store := store ▸ putSlot_keepsReady ne _ _
      extract_lets r f _ r' d1 cut d2
      have placed : KeepsReady i d.store d1.store := filled.trans (putSlot_keepsReady ne _ _)
      have closed : KeepsReady i d.store d2.store := placed.trans (close_keepsReady ne _ _)
      split
      · split
        · exact closed
        · exact closed.trans (ih _ d2 (by rw [closed.1]; exact ready))
      · exact placed

/-- A word broken by the 48-glyph limit: the line closes at the decision, and stays as it closed (R71, R75). -/
theorem Desk.breakLine_ready (t : Tables) (dict : List DictEntry) (d : Desk) {line : OpenLine} (small : line.slot < 8) :
    let r := d.store.record line.slot
    let word := d.composer.word
    let cut := decideBreak t dict d.composer.params d.composer.ladder r.mr (r.items ++ word.glyphs.map LineItem.glyph)
      ⟨word.glyphs.map (·.code), word.marks, word.noHyphenate⟩ 0
    let closed := closeRecord d.composer.params d.composer.params.quad (positionAfter r.ls cut.kept) { r with
      items := cut.kept
      flags := { r.flags with
        hyphenEnded := r.flags.hyphenEnded || cut.hyphenEnded
        forced := r.flags.forced || cut.forced
        overset := r.flags.overset || cut.overset } }
    (d.breakLine t dict line none).store.slot line.slot = ⟨.ready, closed⟩ ∧
      d.store.ready ++ [line.slot] <+: (d.breakLine t dict line none).store.ready := by
  intro r word cut closed
  have slot : (d.closeAtBreak line.slot cut).store.slot line.slot = ⟨.ready, closed⟩ :=
    slot_putSlot_same d.store _ small
  have list : (d.closeAtBreak line.slot cut).store.ready = d.store.ready ++ [line.slot] := rfl
  unfold Desk.breakLine
  dsimp only
  split
  · exact ⟨slot, list ▸ List.prefix_rfl⟩
  · have kept := Desk.placeCarry_keepsReady t dict (i := line.slot) (cut.carried.length + 1)
      (carryAfter ⟨word.glyphs.map (·.code), word.marks, word.noHyphenate⟩ 0 cut) (d.closeAtBreak line.slot cut)
      (by rw [slot])
    exact ⟨kept.1.trans slot, list ▸ kept.2⟩

/-- An item that sets a glyph, taken with a line open. -/
theorem exec_setsGlyph {c : Instr} {code : Option Byte} {s u : State} {line : OpenLine} {was : Bool}
    (sets : SetsGlyph c code) (canSet : CanSet u)
    (phase : u.composer.phase = if was then .overflowed line else .opened line) :
    ∃ f, exec c s = deliver c (fun s => s.onDesk f) s ∧
      f u.tables u.dict u.desk = u.desk.setGlyph u.tables u.dict line was code := by
  refine ⟨fun t dict d => d.whenSettable t fun d => d.takeGlyph t dict code c, ?_, ?_⟩
  · rcases sets with ⟨rfl, rfl⟩ | ⟨b, rfl, rfl⟩ <;> rfl
  · exact (whenSettable_of_canSet canSet fun d => d.takeGlyph u.tables u.dict code c).trans
      (Desk.takeGlyph_of_line phase c)

/-- Settles O16: the glyph made is the one stated, the desk with it on is the state stated, and the 48th glyph settles
the word or breaks the line. -/
theorem characterSetsAGlyphOnTheOpenLine : Obligations.CharacterSetsAGlyphOnTheOpenLine := by
  unfold Obligations.CharacterSetsAGlyphOnTheOpenLine
  intro c code s u line was font lens hs e sets takes phase hfont entry valid resolve
  extract_lets p w r mapped position role before pair x1 advance x2 g further overflow begins glyphs _ flagged _ _ set
  have canSet : CanSet u := ⟨font, e, hfont, entry, valid, (Tables.hasLens_iff _).mp (hasLens_of_resolve resolve)⟩
  obtain ⟨f, exec_eq, taken⟩ := exec_setsGlyph (s := s) sets canSet phase
  have position_role : glyphFor u.tables w code = (position, role) := glyphFor_eq u.tables w code
  have shown : (hs != u.desk.composer.params.size) = decide (hs ≠ p.size) := by
    rw [bne, beq_eq_decide, ← decide_not]
    rfl
  have made : u.desk.makeGlyph u.tables line code = some g := by
    unfold Desk.makeGlyph
    dsimp only
    rw [show u.desk.composer.params.font = some font from hfont]
    dsimp only
    rw [entry, show u.tables.resolve u.desk.composer.params.size = some (lens, hs) from resolve]
    dsimp only
    rw [position_role, pairKern_eq, shown]
    rfl
  have full : u.desk.fullWith line was g = overflow := by
    unfold Desk.fullWith overflows
    rw [← Bool.decide_or]
    rfl
  have rejected : (role == .reject && code.isSome) = (code.isSome && mapped.isNone) := by
    have rejects := glyphFor_rejects u.tables w code
    rwa [position_role] at rejects
  have flags : r.flags.gather g = flagged.flags := by
    exact congrArg (fun reject : Bool => { r.flags with
      sizeSubstituted := r.flags.sizeSubstituted || g.substituted
      reject := r.flags.reject || reject
      damaged := r.flags.damaged || code.isNone }) rejected
  have joined : u.desk.joinGlyph line was g = set.desk := by
    have record : { u.desk.store.record line.slot with
        flags := (u.desk.store.record line.slot).flags.gather g } = flagged :=
      congrArg (fun flags : LineFlags => { r with flags := flags }) flags
    unfold Desk.joinGlyph
    dsimp only
    rw [Composer.bufferGlyph_eq, full, record]
    rfl
  have unfinished (short : u.composer.word.glyphs.length < 47) : f u.tables u.dict u.desk = set.desk := by
    rw [taken, Desk.setGlyph_of_made made, if_pos (show u.desk.composer.word.glyphs.length < 47 from short), joined]
  have ended (last : u.desk.composer.word.glyphs.length = 47) : f u.tables u.dict u.desk =
      if overflow then set.desk.breakLine u.tables u.dict further none else set.desk.settleWord further := by
    rw [taken, Desk.setGlyph_of_made made, if_neg (by rw [last]; decide), joined, full]
    rfl
  have word (last : u.composer.word.glyphs.length = 47) :
      set.composer.word = { u.composer.word with glyphs := glyphs } := by
    have goesOn : begins = false := by
      rw [Bool.eq_false_iff, Ne, List.isEmpty_iff_length_eq_zero, last]
      decide
    exact if_neg (by rw [goesOn]; decide)
  rw [exec_eq]
  refine ⟨fun short => ?_, fun last small => ⟨fun fits => ?_, fun exceeds => ?_⟩⟩
  · exact deliver_onDesk takes (unfinished short)
  · have settled := Desk.settleWord_putRecord (d := set.desk) (line := further) small rfl
    rw [show set.desk.composer.word = _ from word last] at settled
    have left := ended last
    rw [fits] at left
    exact (deliver_onDesk takes (left.trans settled)).trans rfl
  · have left := ended last
    rw [exceeds] at left
    refine answersWith_onDesk takes left fun intake => ?_
    have ready := Desk.breakLine_ready u.tables u.dict set.desk (line := further) small
    have record : set.desk.store.record further.slot = flagged := record_putRecord_same _ small _
    rw [record, show set.desk.composer.word = _ from word last] at ready
    exact ready

end Sys2Proof.Machine
end

section
/-! PROOFS. The Table Memory: which identifiers name a table and where its lock flag stands, the contents of a table,
and what the commit of a LOAD block writes (R39 to R44, R49, R52, R53). -/

namespace Sys2Proof.Machine

open Sys2Proof Sys2Proof.Safety

/-! ### Fixed tables -/

theorem tabGet_tabPut {α : Type} {n : Nat} (v : Vector α n) (d x : α) (i j : Nat) :
    tabGet (tabPut v i x) d j = if i = j ∧ i < n then x else tabGet v d j := by
  by_cases hij : i = j
  · subst hij
    by_cases hi : i < n
    · simp [tabGet_tabPut_same, hi]
    · simp [tabGet, tabPut, hi]
  · simp [tabGet_tabPut_ne, hij]

/-! ### Tables and their identifiers (R44, section 3.5) -/

/-- The width slot that a table belongs to. -/
def Table.slot : Table → Option Nat
  | .codeMap k => some k
  | .widths k => some k
  | .kernClasses k => some k
  | .kernPairs k => some k
  | .info k => some k
  | _ => none

/-- The bytes of an entry (section 3.5). -/
def Table.entrySize : Table → Nat
  | .directory => 3
  | .classes => 2
  | _ => 1

/-- An identifier names a table that belongs to no slot, or a table of one of the 16 slots; the parser and the table
agree on the size of an entry (R8), and the identifier of a table of a slot tells the place of its lock flag. -/
theorem tableOf_cases {ident : Byte} {tab : Table} (h : tableOf ident = some tab) :
    (tab.slot = none ∧ Machine.entrySize ident = tab.entrySize ∧ (tab = .lenses → ident = 0x61)) ∨
    ∃ k, tab.slot = some k ∧ k < 16 ∧ ident.toNat = 16 + tab.lockIndex ∧ tab.lockIndex < 80 := by
  unfold tableOf at h
  have low : ident.toNat % 16 < 16 := Nat.mod_lt _ (by decide)
  iterate 6
    split at h
    · next named =>
      cases h
      subst named
      exact .inl (by decide)
  iterate 5
    split at h
    · cases h
      exact .inr ⟨_, rfl, low, by simp only [Table.lockIndex]; omega, by simp only [Table.lockIndex]; omega⟩
  exact nomatch h

theorem slot_of_tableOf {ident : Byte} {tab : Table} {k : Nat} (h : tableOf ident = some tab)
    (slot : tab.slot = some k) : k < 16 ∧ ident.toNat = 16 + tab.lockIndex ∧ tab.lockIndex < 80 := by
  rcases tableOf_cases h with ⟨alone, -⟩ | ⟨j, slot', spec⟩
  · exact nomatch alone.symm.trans slot
  · cases slot'.symm.trans slot
    exact spec

theorem Table.entrySize_of_slot {tab : Table} {k : Nat} (slot : tab.slot = some k) : tab.entrySize = 1 := by
  cases tab with
  | codeMap | widths | kernClasses | kernPairs | info => rfl
  | directory | lenses | classes | rules | formats | dictionary => exact nomatch slot

theorem entrySize_of_tableOf {ident : Byte} {tab : Table} (h : tableOf ident = some tab) :
    Machine.entrySize ident = tab.entrySize := by
  rcases tableOf_cases h with ⟨-, size, -⟩ | ⟨k, slot, -, place, inside⟩
  · exact size
  · have directory : ident ≠ 0x60 := by rintro rfl; exact absurd place (by simp; omega)
    have classes : ident ≠ 0x62 := by rintro rfl; exact absurd place (by simp; omega)
    rw [Machine.entrySize, if_neg directory, if_neg classes, Table.entrySize_of_slot slot]

/-- The lens table has one identifier (section 3.5). -/
theorem ident_of_lenses {ident : Byte} (h : tableOf ident = some .lenses) : ident = 0x61 := by
  rcases tableOf_cases h with ⟨-, -, ident⟩ | ⟨k, slot, -⟩
  · exact ident rfl
  · exact nomatch slot

/-! ### Lock flags (R49, R51) -/

theorem Locks.get_of_slot {tab : Table} {k : Nat} (slot : tab.slot = some k) (l : Locks) :
    l.get tab = tabGet l.slots false tab.lockIndex := by
  cases tab with
  | codeMap | widths | kernClasses | kernPairs | info => rfl
  | directory | lenses | classes | rules | formats | dictionary => exact nomatch slot

theorem Locks.lock_of_slot {tab : Table} {k : Nat} (slot : tab.slot = some k) (l : Locks) :
    l.lock tab = { l with slots := tabPut l.slots tab.lockIndex true } := by
  cases tab with
  | codeMap | widths | kernClasses | kernPairs | info => rfl
  | directory | lenses | classes | rules | formats | dictionary => exact nomatch slot

theorem Locks.get_slots_of_alone {tab : Table} (alone : tab.slot = none) (l : Locks) (v : Vector Bool 80) :
    ({ l with slots := v } : Locks).get tab = l.get tab := by
  cases tab with
  | codeMap | widths | kernClasses | kernPairs | info => exact nomatch alone
  | directory | lenses | classes | rules | formats | dictionary => rfl

/-- A flag of a table that belongs to no slot is set, and no other. -/
theorem Locks.get_lock_of_alone {tab : Table} (alone : tab.slot = none) (l : Locks) (x : Table) :
    (l.lock tab).get x = true ↔ x = tab ∨ l.get x = true := by
  cases tab with
  | codeMap | widths | kernClasses | kernPairs | info => exact nomatch alone
  | directory | lenses | classes | rules | formats | dictionary => cases x <;> simp [Locks.get, Locks.lock]

/-- A flag of a table of a slot is set, and any other that stands at another place is left alone. -/
theorem Locks.get_lock_of_slot {tab : Table} {k : Nat} (slot : tab.slot = some k) (l : Locks) (x : Table) :
    (l.lock tab).get x =
      if x.slot.isSome ∧ tab.lockIndex = x.lockIndex ∧ tab.lockIndex < 80 then true else l.get x := by
  rw [Locks.lock_of_slot slot]
  cases hx : x.slot with
  | none => simp [Locks.get_slots_of_alone hx]
  | some j =>
    rw [Locks.get_of_slot hx, Locks.get_of_slot hx, tabGet_tabPut]
    simp

/-- LOCK sets its table's flag, and no other (R51). -/
theorem Locks.get_lock {ident other : Byte} {tab x : Table} (h : tableOf ident = some tab)
    (hx : tableOf other = some x) (l : Locks) : (l.lock tab).get x = true ↔ x = tab ∨ l.get x = true := by
  cases slot : tab.slot with
  | none => exact Locks.get_lock_of_alone slot l x
  | some k =>
    obtain ⟨-, place, inside⟩ := slot_of_tableOf h slot
    have own : x.slot.isSome ∧ tab.lockIndex = x.lockIndex ∧ tab.lockIndex < 80 ↔ x = tab := by
      refine ⟨fun ⟨slotx, same, _⟩ => ?_, ?_⟩
      · obtain ⟨j, slotx⟩ := Option.isSome_iff_exists.mp slotx
        obtain ⟨-, placex, -⟩ := slot_of_tableOf hx slotx
        have ident_eq : other = ident := BitVec.eq_of_toNat_eq (by omega)
        rw [ident_eq, h] at hx
        exact (Option.some.inj hx).symm
      · rintro rfl
        exact ⟨by simp [slot], rfl, inside⟩
    simp only [Locks.get_lock_of_slot slot, own]
    split <;> simp [*]

/-- No LOCK clears a flag (R49). -/
theorem Locks.get_lock_of_get {x : Table} {l : Locks} (h : l.get x = true) (tab : Table) :
    (l.lock tab).get x = true := by
  cases slot : tab.slot with
  | none => exact (Locks.get_lock_of_alone slot l x).mpr (.inr h)
  | some k => simp [Locks.get_lock_of_slot slot, h]

/-! ### The contents of a table -/

/-- Two width slots with the same contents of one of their tables. -/
def WidthSlot.SameAt (v w : WidthSlot) : Table → Prop
  | .codeMap _ => w.codeMap = v.codeMap
  | .widths _ => w.widths = v.widths
  | .kernClasses _ => w.kernClasses = v.kernClasses
  | .kernPairs _ => w.kernPairs = v.kernPairs
  | .info _ => w.info = v.info
  | _ => True

/-- The same contents of one loadable table. -/
def Tables.SameAt (a b : Tables) : Table → Prop
  | .directory => b.directory = a.directory
  | .lenses => b.lenses = a.lenses
  | .classes => b.classes = a.classes
  | .rules => b.rules = a.rules
  | tab => ∀ k, tab.slot = some k → (a.widthSlot k).SameAt (b.widthSlot k) tab

theorem WidthSlot.SameAt.refl (w : WidthSlot) (tab : Table) : w.SameAt w tab := by
  cases tab with
  | codeMap | widths | kernClasses | kernPairs | info => rfl
  | directory | lenses | classes | rules | formats | dictionary => trivial

theorem WidthSlot.SameAt.trans {u v w : WidthSlot} {tab : Table} (huv : u.SameAt v tab) (hvw : v.SameAt w tab) :
    u.SameAt w tab := by
  cases tab with
  | codeMap | widths | kernClasses | kernPairs | info => exact Eq.trans hvw huv
  | directory | lenses | classes | rules | formats | dictionary => trivial

theorem Tables.SameAt.refl (t : Tables) (tab : Table) : t.SameAt t tab := by
  cases tab with
  | directory | lenses | classes | rules => rfl
  | codeMap | widths | kernClasses | kernPairs | info | formats | dictionary => exact fun k _ => .refl _ _

theorem Tables.SameAt.trans {a b c : Tables} {tab : Table} (hab : a.SameAt b tab) (hbc : b.SameAt c tab) :
    a.SameAt c tab := by
  cases tab with
  | directory | lenses | classes | rules => exact Eq.trans hbc hab
  | codeMap | widths | kernClasses | kernPairs | info | formats | dictionary =>
    exact fun k slot => (hab k slot).trans (hbc k slot)

/-- The contents of a table are its entries. -/
theorem Tables.SameAt.cellAt {a b : Tables} {tab : Table} (h : a.SameAt b tab) (j : Nat) :
    Safety.cellAt b tab j = Safety.cellAt a tab j := by
  cases tab with
  | directory => exact congrArg (fun v => Cell.font (tabGet v none j)) h
  | lenses => exact congrArg (fun v => Cell.number (tabGet v 0 j)) h
  | classes => exact congrArg (fun v => Cell.letter (tabGet v ⟨0, false, 0⟩ j)) h
  | rules => exact congrArg (fun v => Cell.number (tabGet v 0 j)) h
  | codeMap k => exact congrArg (fun v => Cell.position (tabGet v none j)) (h k rfl)
  | widths k => exact congrArg (fun v => Cell.number (tabGet v 0 j)) (h k rfl)
  | kernClasses k => exact congrArg (fun v => Cell.number (tabGet v 0 j)) (h k rfl)
  | kernPairs k => exact congrArg (fun v => Cell.kern (tabGet v 0 j)) (h k rfl)
  | info k => exact congrArg (fun v => Cell.number (tabGet v 0 j)) (h k rfl)
  | formats => rfl
  | dictionary => rfl

theorem Tables.widthSlot_putWidthSlot (t : Tables) (k j : Nat) (w : WidthSlot) :
    (t.putWidthSlot k w).widthSlot j = if k = j ∧ k < 16 then w else t.widthSlot j :=
  tabGet_tabPut _ _ _ _ _

/-- A width slot written changes no table but those of it that the write changes. -/
theorem Tables.sameAt_putWidthSlot {t : Tables} {k : Nat} {w : WidthSlot} {tab : Table}
    (h : tab.slot = some k → (t.widthSlot k).SameAt w tab) : t.SameAt (t.putWidthSlot k w) tab := by
  have same (j : Nat) (slot : tab.slot = some j) :
      (t.widthSlot j).SameAt ((t.putWidthSlot k w).widthSlot j) tab := by
    rw [Tables.widthSlot_putWidthSlot]
    split
    · next written =>
      obtain ⟨rfl, -⟩ := written
      exact h slot
    · exact .refl _ _
  cases tab with
  | directory | lenses | classes | rules => rfl
  | codeMap | widths | kernClasses | kernPairs | info | formats | dictionary => exact same

/-! ### One entry written (R52, R53) -/

/-- `b` comes of `a` by writes into one table: every other table, the staging buffer, the locks, the waiting block, the
reason and the marks of what has been loaded stay. -/
structure Tables.WritesOnly (tab : Table) (a b : Tables) : Prop where
  others : ∀ other, other ≠ tab → a.SameAt b other
  staging : b.staging = a.staging
  locks : b.locks = a.locks
  waiting : b.waiting = a.waiting
  reason : b.reason = a.reason
  loaded : ∀ k, (b.widthSlot k).codeMapLoaded = (a.widthSlot k).codeMapLoaded ∧
    (b.widthSlot k).widthsLoaded = (a.widthSlot k).widthsLoaded ∧
    (b.widthSlot k).infoLoaded = (a.widthSlot k).infoLoaded

theorem Tables.WritesOnly.refl (tab : Table) (t : Tables) : t.WritesOnly tab t :=
  ⟨fun _ _ => .refl _ _, rfl, rfl, rfl, rfl, fun _ => ⟨rfl, rfl, rfl⟩⟩

theorem Tables.WritesOnly.trans {tab : Table} {a b c : Tables} (hab : a.WritesOnly tab b)
    (hbc : b.WritesOnly tab c) : a.WritesOnly tab c := by
  refine ⟨fun other ne => (hab.others other ne).trans (hbc.others other ne), hbc.staging.trans hab.staging,
    hbc.locks.trans hab.locks, hbc.waiting.trans hab.waiting, hbc.reason.trans hab.reason, fun k => ?_⟩
  obtain ⟨map, widths, info⟩ := hab.loaded k
  obtain ⟨map', widths', info'⟩ := hbc.loaded k
  exact ⟨map'.trans map, widths'.trans widths, info'.trans info⟩

/-- A width slot written with the contents of one of its tables changed. -/
theorem Tables.writesOnly_putWidthSlot {tab : Table} {t : Tables} {k : Nat} {w : WidthSlot}
    (others : ∀ other, other ≠ tab → other.slot = some k → (t.widthSlot k).SameAt w other)
    (map : w.codeMapLoaded = (t.widthSlot k).codeMapLoaded) (widths : w.widthsLoaded = (t.widthSlot k).widthsLoaded)
    (info : w.infoLoaded = (t.widthSlot k).infoLoaded) : t.WritesOnly tab (t.putWidthSlot k w) := by
  refine ⟨fun other ne => Tables.sameAt_putWidthSlot (others other ne), rfl, rfl, rfl, rfl, fun j => ?_⟩
  rw [Tables.widthSlot_putWidthSlot]
  split
  · next written =>
    obtain ⟨rfl, -⟩ := written
    exact ⟨map, widths, info⟩
  · exact ⟨rfl, rfl, rfl⟩

/-- A table that belongs to no slot written: the width slots stay. -/
theorem Tables.writesOnly_of_slots {tab : Table} {a b : Tables} (slots : b.slots = a.slots)
    (directory : tab ≠ .directory → b.directory = a.directory) (lenses : tab ≠ .lenses → b.lenses = a.lenses)
    (classes : tab ≠ .classes → b.classes = a.classes) (rules : tab ≠ .rules → b.rules = a.rules)
    (staging : b.staging = a.staging) (locks : b.locks = a.locks) (waiting : b.waiting = a.waiting)
    (reason : b.reason = a.reason) : a.WritesOnly tab b := by
  have slot (k : Nat) : b.widthSlot k = a.widthSlot k := by rw [Tables.widthSlot, slots]; rfl
  refine ⟨fun other ne => ?_, staging, locks, waiting, reason, fun k => by rw [slot]; exact ⟨rfl, rfl, rfl⟩⟩
  cases other with
  | directory => exact directory ne.symm
  | lenses => exact lenses ne.symm
  | classes => exact classes ne.symm
  | rules => exact rules ne.symm
  | codeMap | widths | kernClasses | kernPairs | info | formats | dictionary =>
    exact fun k _ => by rw [slot]; exact .refl _ _

theorem Tables.putEntry_writesOnly (t : Tables) (tab : Table) (i : Nat) (bytes : List Byte) :
    t.WritesOnly tab (t.putEntry tab i bytes) := by
  cases tab with
  | codeMap k | widths k | kernClasses k | kernPairs k | info k =>
    refine Tables.writesOnly_putWidthSlot (fun other ne slot => ?_) rfl rfl rfl
    cases other <;> simp_all [Table.slot, WidthSlot.SameAt]
  | directory =>
    exact Tables.writesOnly_of_slots rfl (absurd rfl) (fun _ => rfl) (fun _ => rfl) (fun _ => rfl) rfl rfl rfl rfl
  | lenses =>
    exact Tables.writesOnly_of_slots rfl (fun _ => rfl) (absurd rfl) (fun _ => rfl) (fun _ => rfl) rfl rfl rfl rfl
  | classes =>
    exact Tables.writesOnly_of_slots rfl (fun _ => rfl) (fun _ => rfl) (absurd rfl) (fun _ => rfl) rfl rfl rfl rfl
  | rules =>
    exact Tables.writesOnly_of_slots rfl (fun _ => rfl) (fun _ => rfl) (fun _ => rfl) (absurd rfl) rfl rfl rfl rfl
  | formats | dictionary => exact .refl _ _

/-- An entry as it is written, by the bytes that make it up (R40, R42, R53). -/
def Table.loadedCell (tab : Table) (f : Nat → Byte) : Cell × Bool := cellLoaded tab (f 0) (f 1) (f 2)

/-- Only the bytes of the entry count. -/
theorem Table.loadedCell_congr {tab : Table} {f g : Nat → Byte} (h : ∀ k, k < tab.entrySize → f k = g k) :
    tab.loadedCell f = tab.loadedCell g := by
  unfold Table.loadedCell
  cases tab with
  | directory => rw [h 0 (by decide), h 1 (by decide), h 2 (by decide)]
  | classes => rw [h 0 (by decide), h 1 (by decide)]; rfl
  | codeMap | widths | kernClasses | kernPairs | info | lenses | rules | formats | dictionary =>
    rw [h 0 Nat.one_pos]; rfl

theorem codeMapValue_eq (b : Byte) : codeMapValue b = if b.toNat < 0x70 then some b.toNat else none := by
  simp only [codeMapValue, Nat.lt_succ_iff]

theorem kernValue_eq (b : Byte) : kernValue b = max (-32) (min 31 b.toInt) := clampInt_eq (by decide) _

theorem lensValue_eq (b : Byte) : lensValue b = if b = 0 then 0 else max 8 (min 192 b.toNat) := by
  rw [lensValue, clampNat_eq (by decide)]

/-- What R53 makes of a value is what the statements say of it, and so is whether it changes one. -/
theorem entryClamped_eq (tab : Table) (bytes : List Byte) :
    entryClamped tab bytes = (tab.loadedCell (byteAt bytes)).2 := by
  rw [Bool.eq_iff_iff]
  cases tab with
  | codeMap k => simp [entryClamped, Table.loadedCell, cellLoaded]
  | kernPairs k =>
    simp only [entryClamped, kernValue_eq, signedByte, Table.loadedCell, cellLoaded, bne_iff_ne, decide_eq_true_eq]
    omega
  | directory =>
    simp only [entryClamped, Table.loadedCell, cellLoaded]
    split_ifs with absent
    · simp [absent]
    · simpa [or_assoc] using fun _ => absent
  | lenses =>
    simp only [entryClamped, lensValue_eq, Table.loadedCell, cellLoaded, bne_iff_ne]
    split_ifs with empty
    · simp [empty]
    · simp only [decide_eq_true_eq]
      omega
  | widths | kernClasses | info | classes | rules | formats | dictionary => exact Iff.rfl

/-- An entry written within its table: it stands at its index, and no other changes (R52, R53). -/
theorem Tables.cellAt_putEntry {tab : Table} {entries i : Nat} (size : tab.entries = some entries)
    (inside : i < entries) (slot : ∀ k, tab.slot = some k → k < 16) (t : Tables) (bytes : List Byte) (j : Nat) :
    cellAt (t.putEntry tab i bytes) tab j =
      if i = j then (tab.loadedCell (byteAt bytes)).1 else cellAt t tab j := by
  cases tab with
  | codeMap k | widths k | kernClasses k | kernPairs k | info k =>
    cases size
    simp only [cellAt, Tables.putEntry, Tables.widthSlot_putWidthSlot, slot k rfl, tabGet_tabPut, inside, and_self,
      and_true, if_true, Table.loadedCell, cellLoaded, codeMapValue_eq, kernValue_eq]
    split <;> rfl
  | directory | lenses | classes | rules =>
    cases size
    simp only [cellAt, Tables.entry, Tables.putEntry, tabGet_tabPut, inside, and_true, Table.loadedCell, cellLoaded,
      directoryValue, lensValue_eq, classValue]
    split_ifs <;> rfl
  | formats | dictionary => exact nomatch size

/-! ### The commit of a block (R46, R52) -/

/-- The tables with the first `n` entries of a block written. -/
def LoadBlock.written (b : LoadBlock) (t : Tables) (tab : Table) (n : Nat) : Tables :=
  (List.range n).foldl (fun u i => u.putEntry tab (b.address i).toNat (b.entryBytes t i)) t

theorem LoadBlock.written_succ (b : LoadBlock) (t : Tables) (tab : Table) (n : Nat) :
    b.written t tab (n + 1) = (b.written t tab n).putEntry tab (b.address n).toNat (b.entryBytes t n) := by
  simp [LoadBlock.written, List.range_succ]

theorem LoadBlock.written_writesOnly (b : LoadBlock) (t : Tables) (tab : Table) (n : Nat) :
    t.WritesOnly tab (b.written t tab n) := by
  induction n with
  | zero => exact .refl _ _
  | succ n ih => rw [LoadBlock.written_succ]; exact ih.trans (Tables.putEntry_writesOnly _ _ _ _)

theorem Tables.commit_eq (t : Tables) (tab : Table) (b : LoadBlock) :
    t.commit tab b =
      if b.entries = 0 then b.written t tab b.entries else (b.written t tab b.entries).countLoaded tab := rfl

/-- What a block within its table leaves of the entries: each index the block addresses holds the entry addressed to it,
no index being addressed twice, and every other keeps its own. -/
theorem LoadBlock.cellAt_written {b : LoadBlock} {tab : Table} {entries : Nat} (t : Tables)
    (size : tab.entries = some entries) (slot : ∀ k, tab.slot = some k → k < 16) {n : Nat}
    (inside : ∀ i, i < n → (b.address i).toNat < entries)
    (apart : ∀ i j, i < j → j < n → (b.address i).toNat ≠ (b.address j).toNat) :
    (∀ i, i < n →
      cellAt (b.written t tab n) tab (b.address i).toNat = (tab.loadedCell (byteAt (b.entryBytes t i))).1) ∧
    ∀ j, (∀ i, i < n → (b.address i).toNat ≠ j) → cellAt (b.written t tab n) tab j = cellAt t tab j := by
  induction n with
  | zero => exact ⟨nofun, fun _ _ => rfl⟩
  | succ n ih =>
    obtain ⟨written, others⟩ :=
      ih (fun i hi => inside i (hi.trans n.lt_succ_self)) fun i j hij hj => apart i j hij (hj.trans n.lt_succ_self)
    rw [LoadBlock.written_succ]
    have last := Tables.cellAt_putEntry size (inside n n.lt_succ_self) slot (b.written t tab n) (b.entryBytes t n)
    refine ⟨fun i hi => ?_, fun j free => ?_⟩
    · rw [last]
      split
      · next same =>
        obtain rfl : n = i := by
          by_contra ne
          exact apart i n (by omega) n.lt_succ_self same.symm
        rfl
      · next differs =>
        refine written i (lt_of_le_of_ne (Nat.le_of_lt_succ hi) ?_)
        rintro rfl
        exact differs rfl
    · rw [last, if_neg (free n n.lt_succ_self)]
      exact others j fun i hi => free i (hi.trans n.lt_succ_self)

/-- A component counted as loaded: no contents change, and no mark but its own (R39). -/
theorem Tables.countLoaded_sameAt (t : Tables) (tab x : Table) : t.SameAt (t.countLoaded tab) x := by
  cases tab with
  | codeMap k | widths k | info k =>
    refine Tables.sameAt_putWidthSlot fun _ => ?_
    cases x with
    | codeMap | widths | kernClasses | kernPairs | info => rfl
    | directory | lenses | classes | rules | formats | dictionary => trivial
  | kernClasses | kernPairs | directory | lenses | classes | rules | formats | dictionary => exact .refl _ _

theorem Tables.countLoaded_marks (t : Tables) {tab : Table} (slot : ∀ k, tab.slot = some k → k < 16) (k : Nat) :
    let w := t.widthSlot k
    let v := (t.countLoaded tab).widthSlot k
    v.codeMapLoaded = (w.codeMapLoaded || decide (tab = .codeMap k)) ∧
      v.widthsLoaded = (w.widthsLoaded || decide (tab = .widths k)) ∧
      v.infoLoaded = (w.infoLoaded || decide (tab = .info k)) := by
  cases tab with
  | codeMap j | widths j | info j =>
    simp only [Tables.countLoaded, Tables.widthSlot_putWidthSlot, slot j rfl, and_true]
    by_cases same : j = k
    · simp [same]
    · simp [same]
  | kernClasses | kernPairs | directory | lenses | classes | rules | formats | dictionary => simp [Tables.countLoaded]

theorem Tables.countLoaded_frame (t : Tables) (tab : Table) : { t.countLoaded tab with slots := t.slots } = t := by
  cases tab <;> rfl

/-- A committed block changes its own table alone (R52). -/
theorem Tables.commit_sameAt (t : Tables) (tab : Table) (b : LoadBlock) {x : Table} (ne : x ≠ tab) :
    t.SameAt (t.commit tab b) x := by
  have written := (b.written_writesOnly t tab b.entries).others x ne
  rw [Tables.commit_eq]
  split
  · exact written
  · exact written.trans (Tables.countLoaded_sameAt _ _ _)

/-- A commit leaves the staging buffer, the locks, the waiting block and the reason. -/
theorem Tables.commit_frame (t : Tables) (tab : Table) (b : LoadBlock) :
    (t.commit tab b).staging = t.staging ∧ (t.commit tab b).locks = t.locks ∧
      (t.commit tab b).waiting = t.waiting ∧ (t.commit tab b).reason = t.reason := by
  obtain ⟨-, staging, locks, waiting, reason, -⟩ := b.written_writesOnly t tab b.entries
  rw [Tables.commit_eq]
  split
  · exact ⟨staging, locks, waiting, reason⟩
  · have frame := Tables.countLoaded_frame (b.written t tab b.entries) tab
    exact ⟨(congrArg Tables.staging frame).trans staging, (congrArg Tables.locks frame).trans locks,
      (congrArg Tables.waiting frame).trans waiting, (congrArg Tables.reason frame).trans reason⟩

/-- The entries of the block's own table after its commit are those written. -/
theorem Tables.cellAt_commit (t : Tables) (tab : Table) (b : LoadBlock) (j : Nat) :
    cellAt (t.commit tab b) tab j = cellAt (b.written t tab b.entries) tab j := by
  rw [Tables.commit_eq]
  split
  · rfl
  · exact (Tables.countLoaded_sameAt _ _ _).cellAt j

/-- A component counts as loaded once the block has an entry (R39, R52). -/
theorem Tables.commit_marks (t : Tables) {tab : Table} (slot : ∀ k, tab.slot = some k → k < 16) (b : LoadBlock)
    (k : Nat) :
    let w := t.widthSlot k
    let v := (t.commit tab b).widthSlot k
    v.codeMapLoaded = (w.codeMapLoaded || decide (b.entries ≠ 0 ∧ tab = .codeMap k)) ∧
      v.widthsLoaded = (w.widthsLoaded || decide (b.entries ≠ 0 ∧ tab = .widths k)) ∧
      v.infoLoaded = (w.infoLoaded || decide (b.entries ≠ 0 ∧ tab = .info k)) := by
  have kept := (b.written_writesOnly t tab b.entries).loaded k
  rw [Tables.commit_eq]
  split
  · next empty => simpa [empty] using kept
  · next filled =>
    have marks := (b.written t tab b.entries).countLoaded_marks slot k
    simpa [filled, kept] using marks

end Sys2Proof.Machine
end

section
/-! PROOFS. LOAD (`LoadIsRefusedByTheFirstFailingCheck`, `WidthsBlockWritesItsEntries`,
`LensBlockIsCommittedAfterItsWait`): a block in the staging buffer, the checks of its commit, and the wait of a
lens-table block. -/

namespace Sys2Proof.Machine

open Sys2Proof Sys2Proof.Safety

/-! ### The block in the staging buffer (R8, R45, R46) -/

theorem LoadBlock.entries_eq (b : LoadBlock) :
    b.entries = min b.count.toNat (512 / if b.ident = 0x60 then 3 else if b.ident = 0x62 then 2 else 1) := rfl

/-- The bytes of an entry lie one after another in the staging buffer, entry by entry. -/
theorem LoadBlock.byteAt_entryBytes (b : LoadBlock) (t : Tables) {i k : Nat} (hi : i < b.entries)
    (hk : k < entrySize b.ident) :
    byteAt (b.entryBytes t i) k = tabGet t.staging 0 (i * entrySize b.ident + k) := by
  have inside : i * entrySize b.ident + k < b.entries * entrySize b.ident :=
    calc i * entrySize b.ident + k < (i + 1) * entrySize b.ident := by rw [Nat.succ_mul]; omega
      _ ≤ b.entries * entrySize b.ident := Nat.mul_le_mul_right _ hi
  simp only [byteAt, LoadBlock.entryBytes, LoadBlock.data, List.getElem?_take, List.getElem?_drop, hk, inside, if_true,
    tabGet, Vector.getElem?_toList]

/-- What an entry is taken as, by its bytes in the staging buffer. -/
theorem LoadBlock.loadedCell_entryBytes (b : LoadBlock) (t : Tables) {tab : Table} {i : Nat}
    (named : tableOf b.ident = some tab) (hi : i < b.entries) :
    tab.loadedCell (byteAt (b.entryBytes t i)) =
      tab.loadedCell fun k => tabGet t.staging 0 (i * entrySize b.ident + k) :=
  Table.loadedCell_congr fun _ hk => b.byteAt_entryBytes t hi (entrySize_of_tableOf named ▸ hk)

theorem LoadBlock.clamps_iff (b : LoadBlock) (t : Tables) {tab : Table} (named : tableOf b.ident = some tab) :
    b.clamps t tab = true ↔
      ∃ i, i < b.entries ∧ (tab.loadedCell fun k => tabGet t.staging 0 (i * entrySize b.ident + k)).2 = true := by
  simp only [LoadBlock.clamps, List.any_eq_true, List.mem_range, entryClamped_eq]
  refine exists_congr fun i => and_congr_right fun hi => ?_
  rw [b.loadedCell_entryBytes t named hi]

/-- The index an entry is addressed to, where none is addressed below 0. -/
theorem LoadBlock.address_toNat (b : LoadBlock) (i : Nat) :
    (b.address i).toNat = if b.direction = 1 then b.start.toNat - i else b.start.toNat + i := by
  unfold LoadBlock.address LoadBlock.descending
  by_cases down : b.direction = 1
  · simp [down]
  · rw [if_neg down, if_neg (by simpa using down)]
    rfl

theorem LoadBlock.inRange_iff (b : LoadBlock) (entries : Nat) :
    b.inRange entries = true ↔ ∀ i, i < b.entries →
      if b.direction = 1 then i ≤ b.start.toNat ∧ b.start.toNat - i < entries else b.start.toNat + i < entries := by
  simp only [LoadBlock.inRange, List.all_eq_true, List.mem_range, Bool.and_eq_true, decide_eq_true_eq,
    LoadBlock.address, LoadBlock.descending, beq_iff_eq]
  refine forall₂_congr fun i _ => ?_
  split <;> omega

/-- No index is addressed twice. -/
theorem LoadBlock.address_apart {b : LoadBlock} {entries i j : Nat} (inside : b.inRange entries = true) (hij : i < j)
    (hj : j < b.entries) : (b.address i).toNat ≠ (b.address j).toNat := by
  have reach := (b.inRange_iff entries).mp inside j hj
  rw [LoadBlock.address_toNat, LoadBlock.address_toNat]
  split_ifs at reach ⊢ with down <;> omega

theorem LoadBlock.address_lt {b : LoadBlock} {entries i : Nat} (inside : b.inRange entries = true)
    (hi : i < b.entries) : (b.address i).toNat < entries := by
  have reach := (b.inRange_iff entries).mp inside i hi
  rw [LoadBlock.address_toNat]
  split_ifs at reach ⊢ with down <;> omega

/-- The entries of the table after a block within it is committed: those addressed hold what the staging buffer had for
them, the others stay. -/
theorem LoadBlock.cellAt_commit {b : LoadBlock} {tab : Table} {entries : Nat} (t : Tables)
    (named : tableOf b.ident = some tab) (size : tab.entries = some entries) (inside : b.inRange entries = true) :
    (∀ i, i < b.entries → cellAt (t.commit tab b) tab (b.address i).toNat =
      (tab.loadedCell fun k => tabGet t.staging 0 (i * entrySize b.ident + k)).1) ∧
    ∀ j, (∀ i, i < b.entries → (b.address i).toNat ≠ j) → cellAt (t.commit tab b) tab j = cellAt t tab j := by
  obtain ⟨written, others⟩ := LoadBlock.cellAt_written (n := b.entries) t size
    (fun k slot => (slot_of_tableOf named slot).1) (fun i => LoadBlock.address_lt inside)
    fun i j => LoadBlock.address_apart inside
  refine ⟨fun i hi => ?_, fun j free => ?_⟩
  · rw [Tables.cellAt_commit, written i hi, b.loadedCell_entryBytes t named hi]
  · rw [Tables.cellAt_commit, others j free]

/-! ### The checks of a LOAD (R46 to R48, R50) -/

/-- PARAMETER CLAMPED noted for a direction byte that is neither 00h nor 01h (R46). -/
theorem State.postWhen_directionOut (s : State) (b : LoadBlock) :
    s.postWhen b.directionOut .parameterClamped = { s with reply := { s.reply with
      pending := s.reply.pending ||| if b.direction = 0 ∨ b.direction = 1 then 0 else 8 } } := by
  rw [State.postWhen_eq, postWhen_eq_or]
  congr 3
  have out : b.directionOut = true ↔ ¬(b.direction = 0 ∨ b.direction = 1) := by simp [LoadBlock.directionOut]
  by_cases known : b.direction = 0 ∨ b.direction = 1
  · rw [if_neg (out.not.mpr (not_not.mpr known)), if_pos known]
  · rw [if_pos (out.mpr known), if_neg known]
    rfl

/-- The checks look at nothing that the note of a direction byte changes. -/
theorem State.loadFailure_postWhen (s : State) (c : Bool) (e : Event) (b : LoadBlock) :
    (s.postWhen c e).loadFailure b = s.loadFailure b := by
  rw [State.postWhen_eq]
  rfl

theorem lockPasses_iff (locked serviceSwitch : Bool) :
    lockPasses locked serviceSwitch = true ↔ locked = false ∨ serviceSwitch = true := by
  simp [lockPasses]

theorem State.loadFailure_of_unknown {s : State} {b : LoadBlock} (h : (tableOf b.ident).bind Table.entries = none) :
    s.loadFailure b = some .unknownTable := by
  unfold State.loadFailure
  cases named : tableOf b.ident with
  | none => rfl
  | some tab =>
    have none : tab.entries = none := by simpa [named] using h
    simp [none]

/-- Checks 2 to 4 of a block into a loadable table, in their order (R47). -/
theorem State.loadFailure_of_known {s : State} {b : LoadBlock} {tab : Table} {entries : Nat}
    (named : tableOf b.ident = some tab) (size : tab.entries = some entries) :
    let inside := b.inRange entries = true
    let summed := b.total s.tables = 0
    let unlocked := s.tables.locks.get tab = false ∨ s.pins.serviceSwitch = true
    (¬inside → s.loadFailure b = some .outOfRange) ∧ (inside → ¬summed → s.loadFailure b = some .badSum) ∧
      (inside → summed → ¬unlocked → s.loadFailure b = some .locked) ∧
      (inside → summed → unlocked → s.loadFailure b = none) := by
  rw [← lockPasses_iff]
  simp +contextual [State.loadFailure, named, size]

/-- A block refused: its reason, LOAD REFUSED, and the note of its direction byte. -/
theorem State.takeLoad_of_failure {s : State} {b : LoadBlock} {why : Reason} (h : s.loadFailure b = some why) :
    s.takeLoad b = (s.postWhen b.directionOut .parameterClamped).refuseLoad why := by
  simp [State.takeLoad, State.loadFailure_postWhen, h]

theorem State.takeLoad_of_lenses {s : State} {b : LoadBlock} (h : s.loadFailure b = none)
    (named : tableOf b.ident = some .lenses) :
    s.takeLoad b = (s.postWhen b.directionOut .parameterClamped).takeLensLoad b := by
  simp [State.takeLoad, State.loadFailure_postWhen, h, named]

theorem State.takeLoad_of_passes {s : State} {b : LoadBlock} {tab : Table} (h : s.loadFailure b = none)
    (named : tableOf b.ident = some tab) (other : tab ≠ .lenses) :
    s.takeLoad b = (s.postWhen b.directionOut .parameterClamped).commitLoad tab b := by
  simp only [State.takeLoad, State.loadFailure_postWhen, h, named]

theorem Store.filling_isSome_iff (st : Store) :
    st.filling.isSome = true ↔ ¬∀ j, j < 8 → (st.slot j).state ≠ .filling := by
  simp [Store.filling, List.find?_isSome]

/-- No slot is READY or IMAGING (R50). -/
theorem Store.busyCount_eq_zero_iff (st : Store) :
    st.busyCount = 0 ↔ ∀ j, j < 8 → (st.slot j).state ≠ .ready ∧ (st.slot j).state ≠ .imaging := by
  have slot (j : Nat) (hj : j < 8) : st.slot j = st.slots[j] := by simp [Store.slot, tabGet, hj]
  rw [Store.busyCount_eq, List.countP_eq_zero]
  simp only [decide_eq_true_eq, not_or, Vector.mem_toList_iff, Vector.mem_iff_getElem]
  constructor
  · rintro none j hj
    rw [slot j hj]
    exact none _ ⟨j, hj, rfl⟩
  · rintro none x ⟨j, hj, rfl⟩
    rw [← slot j hj]
    exact none j hj

/-- Settles O29: the checks in their order, then for the lens table its block against the Line Store. -/
theorem loadIsRefusedByTheFirstFailingCheck : Obligations.LoadIsRefusedByTheFirstFailingCheck := by
  unfold Obligations.LoadIsRefusedByTheFirstFailingCheck
  intro ident dir sum start count s u takes b n direction refused entries inside summed locked
  have delivered : exec (.load ident start count dir sum) s = .next (u.takeLoad b).runOut := deliver_of_takes takes _
  have noted := u.postWhen_directionOut b
  have refuses {why : Reason} (h : u.loadFailure b = some why) :
      exec (.load ident start count dir sum) s = .next (refused why).runOut := by
    rw [delivered, State.takeLoad_of_failure h, noted]
    rfl
  have known (h : entries.isSome = true) : ∃ tab e, tableOf ident = some tab ∧ tab.entries = some e := by
    obtain ⟨e, he⟩ := Option.isSome_iff_exists.mp h
    obtain ⟨tab, named, size⟩ := Option.bind_eq_some_iff.mp he
    exact ⟨tab, e, named, size⟩
  have range {tab : Table} {e : Nat} (named : tableOf ident = some tab) (size : tab.entries = some e) :
      b.inRange e = true ↔ inside := by
    have only : entries = some e := Option.bind_eq_some_iff.mpr ⟨tab, named, size⟩
    rw [LoadBlock.inRange_iff]
    refine forall₂_congr fun i _ => ⟨fun reach e' he' => ?_, fun reach => reach e only⟩
    cases only.symm.trans he'
    exact reach
  have lock {tab : Table} (named : tableOf ident = some tab) :
      ¬(u.tables.locks.get tab = false ∨ u.pins.serviceSwitch = true) ↔ locked := by
    simp [locked, named, and_comm]
  refine ⟨fun unknown => refuses (State.loadFailure_of_unknown unknown), fun loadable out => ?_,
    fun loadable fits wrong => ?_, fun loadable fits right shut => ?_, fun lens fits right unlocked => ?_⟩
  · obtain ⟨tab, e, named, size⟩ := known loadable
    obtain ⟨outside, -⟩ := State.loadFailure_of_known (s := u) (b := b) named size
    exact refuses (outside (mt (range named size).mp out))
  · obtain ⟨tab, e, named, size⟩ := known loadable
    obtain ⟨-, sum, -⟩ := State.loadFailure_of_known (s := u) (b := b) named size
    exact refuses (sum ((range named size).mpr fits) wrong)
  · obtain ⟨tab, e, named, size⟩ := known loadable
    obtain ⟨-, -, closed, -⟩ := State.loadFailure_of_known (s := u) (b := b) named size
    exact refuses (closed ((range named size).mpr fits) right ((lock named).mpr shut))
  · subst lens
    have named : tableOf 0x61 = some .lenses := rfl
    obtain ⟨-, -, -, good⟩ := State.loadFailure_of_known (s := u) (b := b) named rfl
    have passes := good ((range named rfl).mpr fits) right (not_not.mp (mt (lock named).mp unlocked))
    rw [delivered, State.takeLoad_of_lenses passes named, noted]
    refine ⟨fun line => ?_, fun noLine busy => ?_⟩
    · rw [State.takeLensLoad, if_pos ((Store.filling_isSome_iff _).mpr line)]
      rfl
    · rw [State.takeLensLoad, if_neg fun line => (Store.filling_isSome_iff _).mp line noLine, if_pos busy,
        runOut_of_holding (by simp [State.holding])]
      rfl

/-! ### A LOAD that passes its checks (R46, R50, R52) -/

theorem State.postWhen_twice (s : State) (c d : Bool) (e : Event) :
    (s.postWhen c e).postWhen d e = s.postWhen (c || d) e := by
  cases c with
  | false => rfl
  | true =>
    cases d with
    | false => rfl
    | true => simp [State.postWhen, State.post, State.withEvents, State.withReply, postTo, BitVec.or_assoc]

/-- A block that passes its checks, and for the lens table the Line Store's too, is committed in one step; a clamp and
the direction byte are noted together. -/
theorem State.takeLoad_commits {s : State} {b : LoadBlock} {tab : Table} (passes : s.loadFailure b = none)
    (named : tableOf b.ident = some tab)
    (free : tab = .lenses → s.store.filling.isSome = false ∧ s.store.busyCount = 0) :
    s.takeLoad b = (s.withTables (s.tables.commit tab b)).postWhen (b.directionOut || b.clamps s.tables tab)
      .parameterClamped := by
  have committed : (s.postWhen b.directionOut .parameterClamped).commitLoad tab b =
      (s.withTables (s.tables.commit tab b)).postWhen (b.directionOut || b.clamps s.tables tab) .parameterClamped := by
    rw [← State.postWhen_twice, State.commitLoad, State.postWhen_eq s, State.postWhen_eq (s.withTables _)]
    rfl
  rw [← committed]
  by_cases lens : tab = .lenses
  · subst lens
    obtain ⟨noLine, still⟩ := free rfl
    rw [State.takeLoad_of_lenses passes named, State.takeLensLoad, State.postWhen_eq,
      if_neg (by rw [noLine]; exact Bool.false_ne_true), if_neg (not_not.mpr still)]
  · exact State.takeLoad_of_passes passes named lens

/-- What a committed block and the end of formats leave. -/
theorem State.commit_runOut (s : State) (t : Tables) (note : Bool) :
    ∃ mode sources, ((s.withTables t).postWhen note .parameterClamped).runOut =
      { s with
        tables := t
        reply := { s.reply with pending := Machine.postWhen note .parameterClamped s.reply.pending }
        intake := { s.intake with mode := mode, sources := sources } } := by
  obtain ⟨mode, sources, frame⟩ := runOut_frame ((s.withTables t).postWhen note .parameterClamped)
  refine ⟨mode, sources, frame.trans ?_⟩
  rw [State.postWhen_eq]
  rfl

/-- The lens table is loaded at once while no slot is FILLING, READY or IMAGING (R50). -/
theorem Store.still_of_states {st : Store} (h : ∀ j, j < 8 → (st.slot j).state = .free ∨
    (st.slot j).state = .setUndecided ∨ (st.slot j).state = .setAwaiting) :
    st.filling.isSome = false ∧ st.busyCount = 0 := by
  constructor
  · rw [← Bool.not_eq_true, Store.filling_isSome_iff, not_not]
    intro j hj
    rcases h j hj with state | state | state <;> simp [state]
  · rw [Store.busyCount_eq_zero_iff]
    intro j hj
    rcases h j hj with state | state | state <;> simp [state]

/-- Settles O30: the block is committed, and its entries, its marks and its note are those of the commit. -/
theorem widthsBlockWritesItsEntries : Obligations.WidthsBlockWritesItsEntries := by
  unfold Obligations.WidthsBlockWritesItsEntries
  intro ident dir sum start count s u tab entries takes named size b width n place within summed unlocked still byte
    loaded clamped
  have inside : b.inRange entries = true := by
    refine (b.inRange_iff entries).mpr fun i hi => ?_
    obtain ⟨down, reach⟩ := within i hi
    simp only [place] at reach
    split_ifs at reach ⊢ with descends
    · exact ⟨down descends, reach⟩
    · exact reach
  have passes : u.loadFailure b = none := by
    obtain ⟨-, -, -, good⟩ := State.loadFailure_of_known (s := u) (b := b) named size
    exact good inside summed unlocked
  have free (lens : tab = .lenses) : u.store.filling.isSome = false ∧ u.store.busyCount = 0 :=
    Store.still_of_states (still (ident_of_lenses (lens ▸ named)))
  obtain ⟨mode, sources, result⟩ :=
    u.commit_runOut (u.tables.commit tab b) (b.directionOut || b.clamps u.tables tab)
  rw [← State.takeLoad_commits passes named free] at result
  have noted : (b.directionOut || b.clamps u.tables tab) = true ↔ clamped := by
    rw [Bool.or_eq_true, b.clamps_iff u.tables named]
    simp only [clamped, LoadBlock.directionOut, Bool.and_eq_true, bne_iff_ne]
    rfl
  have address (i : Nat) : (b.address i).toNat = place i := b.address_toNat i
  obtain ⟨written, others⟩ := LoadBlock.cellAt_commit u.tables named size inside
  simp only [address] at written others
  obtain ⟨staging, locks, waiting, reason⟩ := u.tables.commit_frame tab b
  refine ⟨_, (deliver_of_takes takes _).trans (congrArg _ result), written, others,
    fun other ne j => (u.tables.commit_sameAt tab b ne).cellAt j,
    fun k _ => u.tables.commit_marks (fun k slot => (slot_of_tableOf named slot).1) b k, fun out => ?_, fun fits => ?_,
    staging, locks, waiting, reason, rfl⟩
  · rw [noted.mpr out]
    rfl
  · rw [Bool.eq_false_iff.mpr (mt noted.mp fits)]
    rfl

/-! ### The end of a lens-table block's wait (R50, R53) -/

/-- A lens size as it is written, and whether it is clamped, by its value. -/
theorem Table.loadedCell_lenses (f : Nat → Byte) :
    Table.lenses.loadedCell f =
      (.number (if (f 0).toNat = 0 then 0 else max 8 (min 192 (f 0).toNat)),
        decide ¬((f 0).toNat = 0 ∨ (8 ≤ (f 0).toNat ∧ (f 0).toNat ≤ 192))) := by
  unfold Table.loadedCell cellLoaded
  by_cases empty : f 0 = 0
  · rw [empty]
    rfl
  · have positive : (f 0).toNat ≠ 0 := fun zero => empty (BitVec.eq_of_toNat_eq zero)
    simp only [empty, positive, if_false, false_or, not_and_or, Nat.not_le]

/-- A block into the lens table changes the lens sizes alone. -/
theorem Tables.commit_lenses (t : Tables) (b : LoadBlock) :
    t.commit .lenses b = { t with lenses := (t.commit .lenses b).lenses } := by
  have written (n : Nat) : b.written t .lenses n = { t with lenses := (b.written t .lenses n).lenses } := by
    induction n with
    | zero => rfl
    | succ n ih => rw [LoadBlock.written_succ, ih]; rfl
  rw [Tables.commit_eq]
  split
  · exact written _
  · exact written _

/-- An ascending block of lens sizes that lies within the lens table. -/
structure LoadBlock.Lenses (b : LoadBlock) : Prop where
  ident : b.ident = 0x61
  up : b.direction ≠ 1
  fits : b.start.toNat + b.count.toNat ≤ 12

namespace LoadBlock.Lenses

variable {b : LoadBlock} (h : b.Lenses)
include h

theorem named : tableOf b.ident = some .lenses := by rw [h.ident]; rfl

theorem size : entrySize b.ident = 1 := by rw [h.ident]; rfl

theorem count : b.entries = b.count.toNat := by
  have fits := h.fits
  rw [LoadBlock.entries_eq, h.ident]
  exact Nat.min_eq_left (le_trans (by omega) (show 12 ≤ 512 / 1 by decide))

theorem place (i : Nat) : (b.address i).toNat = b.start.toNat + i := by
  rw [LoadBlock.address_toNat, if_neg h.up]

theorem inside : b.inRange 12 = true := by
  refine (b.inRange_iff 12).mpr fun i hi => ?_
  rw [h.count] at hi
  have fits := h.fits
  rw [if_neg h.up]
  omega

/-- The sizes its commit leaves. -/
theorem commit (t : Tables) (j : Nat) :
    tabGet (t.commit .lenses b).lenses 0 j =
      if b.start.toNat ≤ j ∧ j < b.start.toNat + b.count.toNat then
        let v := (tabGet t.staging 0 (j - b.start.toNat)).toNat
        if v = 0 then 0 else max 8 (min 192 v)
      else tabGet t.lenses 0 j := by
  obtain ⟨written, others⟩ := LoadBlock.cellAt_commit t h.named rfl h.inside
  rw [h.count] at written others
  split
  · next addressed =>
    have entry := written (j - b.start.toNat) (by omega)
    rw [h.place, Nat.add_sub_cancel' addressed.1, Table.loadedCell_lenses, h.size, Nat.mul_one] at entry
    exact Cell.number.inj entry
  · next free => exact Cell.number.inj (others j fun i hi => by rw [h.place]; omega)

/-- Whether its commit clamps a size. -/
theorem clamps_iff (t : Tables) :
    b.clamps t .lenses = true ↔ ¬∀ i, i < b.count.toNat →
      let v := (tabGet t.staging 0 i).toNat
      v = 0 ∨ (8 ≤ v ∧ v ≤ 192) := by
  simp only [b.clamps_iff t h.named, h.count, h.size, Table.loadedCell_lenses, Nat.mul_one, Nat.add_zero,
    decide_eq_true_eq, not_forall, exists_prop]

end LoadBlock.Lenses

/-- Settles O31: the lock is looked at again, and the block is committed or refused. -/
theorem lensBlockIsCommittedAfterItsWait : Obligations.LensBlockIsCommittedAfterItsWait := by
  unfold Obligations.LensBlockIsCommittedAfterItsWait
  have due {s : State} {b : LoadBlock} (waits : s.tables.waiting = some b) :
      exec .lensCommitAfterWait s = if s.store.busyCount = 0 then .next (s.endLensWait b).runOut else .next s := by
    change execLensCommitAfterWait s = _
    simp only [execLensCommitAfterWait, waits]
  refine ⟨fun s b waits busy => ?_, fun s none => ?_, fun s b waits still => ⟨fun locked off => ?_,
    fun unlocked ident up fits => ?_⟩⟩
  · rw [due waits, if_neg busy]
  · change execLensCommitAfterWait s = _
    simp only [execLensCommitAfterWait, none]
  · have shut : ¬lockPasses s.tables.locks.lenses s.pins.serviceSwitch = true := by simp [lockPasses, locked, off]
    rw [due waits, if_pos still, State.endLensWait]
    exact congrArg (fun t : State => (.next t.runOut : StepResult)) (if_neg shut)
  · have lens : b.Lenses := ⟨ident, up, fits⟩
    have committed : s.endLensWait b =
        (s.withTables (Tables.commit { s.tables with waiting := none } .lenses b)).postWhen
          (b.clamps s.tables .lenses) .parameterClamped :=
      if_pos ((lockPasses_iff _ _).mpr unlocked)
    obtain ⟨mode, sources, result⟩ :=
      s.commit_runOut (Tables.commit { s.tables with waiting := none } .lenses b) (b.clamps s.tables .lenses)
    rw [← committed] at result
    obtain ⟨-, -, waiting, reason⟩ := Tables.commit_frame { s.tables with waiting := none } .lenses b
    refine ⟨_, (due waits).trans ((if_pos still).trans (congrArg _ result)), waiting, reason,
      fun j _ => lens.commit _ j, ?_, ?_⟩
    · change Machine.postWhen _ _ _ = _
      rw [postWhen_eq_or]
      by_cases sized : ∀ i, i < b.count.toNat → let v := (tabGet s.tables.staging 0 i).toNat; v = 0 ∨ (8 ≤ v ∧ v ≤ 192)
      · rw [if_pos sized, if_neg (mt (lens.clamps_iff _).mp (not_not.mpr sized))]
      · rw [if_neg sized, if_pos ((lens.clamps_iff _).mpr sized)]
        rfl
    · have tables : { s.tables with waiting := some b } = s.tables := by rw [← waits]
      dsimp only
      rw [Tables.commit_lenses]
      exact congrArg s.withTables tables

end Sys2Proof.Machine
end

section
/-! PROOFS. The locks over a step (`LockedTablesKeepTheirContents`): for each owner of an item and each other command,
that it leaves the flags, and the contents of every table whose lock refuses a write. -/

namespace Sys2Proof.Machine

open Sys2Proof Sys2Proof.Safety

/-! ### What a lock keeps (R49, R51) -/

/-- The same contents of a lockable table, the format store and the dictionary among them. -/
structure State.SameAt (s t : State) (tab : Table) : Prop where
  tables : s.tables.SameAt t.tables tab
  formats : tab = .formats → t.formats.descriptors = s.formats.descriptors
  dict : tab = .dictionary → t.dict = s.dict

theorem State.SameAt.trans {s t u : State} {tab : Table} (hst : s.SameAt t tab) (htu : t.SameAt u tab) :
    s.SameAt u tab :=
  ⟨hst.tables.trans htu.tables, fun h => (htu.formats h).trans (hst.formats h),
    fun h => (htu.dict h).trans (hst.dict h)⟩

/-- The lock of a table refuses a write into it (R51). -/
def State.Refuses (s : State) (tab : Table) : Prop :=
  s.tables.locks.get tab = true ∧ s.pins.serviceSwitch = false

theorem State.not_refuses_of_passes {s : State} {tab : Table}
    (h : lockPasses (s.tables.locks.get tab) s.pins.serviceSwitch = true) : ¬s.Refuses tab := by
  rintro ⟨locked, off⟩
  rw [locked, off] at h
  exact nomatch h

/-- `t` comes of `s` by a step that leaves the service switch, the flags, and what the locks refuse to change. -/
structure State.KeepsLocked (s t : State) : Prop where
  switch : t.pins.serviceSwitch = s.pins.serviceSwitch
  locks : t.tables.locks = s.tables.locks
  contents : ∀ tab, s.Refuses tab → s.SameAt t tab

section Whole

variable {s t : State}

theorem State.KeepsLocked.trans {u : State} (hst : s.KeepsLocked t) (htu : t.KeepsLocked u) : s.KeepsLocked u := by
  refine ⟨htu.switch.trans hst.switch, htu.locks.trans hst.locks, fun tab shut => ?_⟩
  have still : t.Refuses tab := by rwa [State.Refuses, hst.locks, hst.switch]
  exact (hst.contents tab shut).trans (htu.contents tab still)

/-- A step that leaves the Table Memory but for its staging buffer, its waiting block and its reason. -/
theorem State.keepsLocked_of_contents (switch : t.pins.serviceSwitch = s.pins.serviceSwitch)
    (tables : { t.tables with
      staging := s.tables.staging, waiting := s.tables.waiting, reason := s.tables.reason } = s.tables)
    (formats : t.formats.descriptors = s.formats.descriptors) (dict : t.dict = s.dict) : s.KeepsLocked t := by
  have locks := congrArg Tables.locks tables
  refine ⟨switch, locks, fun tab _ => ⟨?_, fun _ => formats, fun _ => dict⟩⟩
  rw [← tables]
  exact .refl t.tables tab

/-- A step of another block. -/
theorem State.keepsLocked_of_eq (switch : t.pins.serviceSwitch = s.pins.serviceSwitch) (tables : t.tables = s.tables)
    (formats : t.formats.descriptors = s.formats.descriptors) (dict : t.dict = s.dict) : s.KeepsLocked t :=
  State.keepsLocked_of_contents switch (by rw [tables]) formats dict

theorem State.KeepsLocked.refl : s.KeepsLocked s := State.keepsLocked_of_eq rfl rfl rfl rfl

theorem State.postWhen_keepsLocked (c : Bool) (e : Event) : s.KeepsLocked (s.postWhen c e) := by
  rw [State.postWhen_eq]
  exact State.keepsLocked_of_eq rfl rfl rfl rfl

/-- A step, then the note of a clamp. -/
theorem State.KeepsLocked.noted (h : s.KeepsLocked t) (c : Bool) (e : Event) : s.KeepsLocked (t.postWhen c e) :=
  h.trans (State.postWhen_keepsLocked c e)

theorem State.runOut_keepsLocked : s.KeepsLocked s.runOut := by
  obtain ⟨mode, sources, frame⟩ := runOut_frame s
  rw [frame]
  exact State.keepsLocked_of_eq rfl rfl rfl rfl

theorem State.withFront_keepsLocked {f : Front} (h : f.formats.descriptors = s.formats.descriptors) :
    s.KeepsLocked (s.withFront f) :=
  State.keepsLocked_of_contents rfl rfl h rfl

theorem State.onDesk_keepsLocked (f : Tables → List DictEntry → Desk → Desk) : s.KeepsLocked (s.onDesk f) :=
  State.keepsLocked_of_eq rfl rfl rfl rfl

theorem State.withComposer_keepsLocked (c : Composer) : s.KeepsLocked (s.withComposer c) :=
  State.keepsLocked_of_eq rfl rfl rfl rfl

theorem State.withReply_keepsLocked (r : ReplyUnit) : s.KeepsLocked (s.withReply r) :=
  State.keepsLocked_of_eq rfl rfl rfl rfl

theorem State.withProof_keepsLocked (x : Proof) : s.KeepsLocked (s.withProof x) :=
  State.keepsLocked_of_eq rfl rfl rfl rfl

theorem State.withPhoto_keepsLocked (p : Photo) : s.KeepsLocked (s.withPhoto p) :=
  State.keepsLocked_of_eq rfl rfl rfl rfl

/-! ### The parser (R4 to R9, R15, R16) -/

/-- What a take leaves of the front, if it takes anything, has the same formats present. -/
def Taken.SameFormats (v : Vector (Option Format) 64) : Taken → Prop
  | .nothing => True
  | .quiet f => f.formats.descriptors = v
  | .item _ f => f.formats.descriptors = v

section Front

variable {f : Front}

theorem Front.next_descriptors {e : Entry} {g : Front} (h : f.next = some (e, g)) :
    g.formats.descriptors = f.formats.descriptors := by
  unfold Front.next at h
  split at h
  · split at h <;> cases h
    rfl
  · split at h <;> cases h
    rfl

theorem Front.store_descriptors (number : Nat) (nestable : Bool) (stored : Nat) (bytes : List Byte) :
    (f.store number nestable stored bytes).formats.descriptors = f.formats.descriptors := by
  unfold Front.store
  split <;> rfl

theorem Front.complete_sameFormats (i : Instr) (bytes : List Byte) :
    (f.complete i bytes).SameFormats f.formats.descriptors := by
  unfold Front.complete
  dsimp only
  split
  · rfl
  · split
    · split <;> rfl
    · exact Front.store_descriptors _ _ _ _
    · rfl

theorem Front.takeGround_sameFormats (b : Byte) : (f.takeGround b).SameFormats f.formats.descriptors := by
  unfold Front.takeGround
  split
  · exact Front.complete_sameFormats _ _
  · split <;> rfl

theorem Front.takeNumber_sameFormats (b : Byte) : (f.takeNumber b).SameFormats f.formats.descriptors := by
  unfold Front.takeNumber
  split
  · rfl
  · split
    · exact Front.complete_sameFormats _ _
    · rfl
  · rfl

theorem Front.stage_descriptors (num : Byte) (taken : List Byte) (toCome : Nat) (b : Byte) :
    (f.stage num taken toCome b).formats.descriptors = f.formats.descriptors := by
  unfold Front.stage
  split <;> rfl

theorem Front.takeParameter_sameFormats (num : Byte) (taken : List Byte) (toCome : Nat) (b : Byte) :
    (f.takeParameter num taken toCome b).SameFormats f.formats.descriptors := by
  unfold Front.takeParameter
  extract_lets staged all more left noted
  have same : noted.formats.descriptors = f.formats.descriptors := Front.stage_descriptors num taken toCome b
  rw [← same]
  split
  · split
    · exact Front.complete_sameFormats _ _
    · rfl
  · rfl

theorem Front.takeDamaged_sameFormats : f.takeDamaged.SameFormats f.formats.descriptors := by
  unfold Front.takeDamaged
  split <;> rfl

/-- No take adds a format or removes one: a definition in progress is in format memory alone (R13). -/
theorem Front.take_sameFormats : f.take.SameFormats f.formats.descriptors := by
  unfold Front.take
  split
  · trivial
  · next g hnext =>
    rw [← Front.next_descriptors hnext]
    exact Front.takeDamaged_sameFormats
  · next b g hnext =>
    rw [← Front.next_descriptors hnext]
    split
    · exact Front.takeGround_sameFormats b
    · exact Front.takeNumber_sameFormats b
    · exact Front.takeParameter_sameFormats _ _ _ b

end Front

theorem takes_keepsLocked {c : Instr} {u : State} (h : Takes c s u) : s.KeepsLocked u := by
  obtain ⟨-, f, take, rfl⟩ := takes_frame h
  have same := Front.take_sameFormats (f := s.front)
  rw [take] at same
  exact State.withFront_keepsLocked same

theorem offer_quiet_keepsLocked {u : State} (h : s.offer = .quiet u) : s.KeepsLocked u := by
  have same := Front.take_sameFormats (f := s.front)
  unfold State.offer at h
  split at h
  · exact nomatch h
  · split at h
    · exact nomatch h
    · next f take =>
      cases h
      rw [take] at same
      exact State.withFront_keepsLocked same
    · exact nomatch h

theorem deliver_keepsLocked {c : Instr} {owner : State → State} (h : deliver c owner s = .next t)
    (howner : ∀ u : State, u.KeepsLocked (owner u)) : s.KeepsLocked t := by
  rcases deliver_cases c owner s with same | ⟨u, takes, delivered⟩
  · rw [same] at h
    cases h
    exact .refl
  · rw [delivered] at h
    cases h
    exact ((takes_keepsLocked takes).trans (howner u)).trans State.runOut_keepsLocked

/-- An item of the Composer's. -/
theorem deliver_onDesk_keepsLocked {c : Instr} {f : Tables → List DictEntry → Desk → Desk}
    (h : deliver c (·.onDesk f) s = .next t) : s.KeepsLocked t :=
  deliver_keepsLocked h fun _ => State.onDesk_keepsLocked f

theorem next_keepsLocked {u : State} (h : (.next u : StepResult) = .next t) (hu : s.KeepsLocked u) :
    s.KeepsLocked t := by
  cases h
  exact hu

/-! ### The Reply Unit and the photo unit (R10, R184) -/

theorem State.takeReplyItem_keepsLocked (h : HeldReply) : s.KeepsLocked (s.takeReplyItem h) := by
  cases h <;> exact State.keepsLocked_of_eq rfl rfl rfl rfl

theorem State.replyItem_keepsLocked (h : HeldReply) : s.KeepsLocked (s.replyItem h) := by
  unfold State.replyItem
  split
  · exact State.takeReplyItem_keepsLocked h
  · exact State.withReply_keepsLocked _

theorem State.retryHeld_keepsLocked : s.KeepsLocked s.retryHeld := by
  unfold State.retryHeld
  split
  · exact .refl
  · split
    · exact ((State.withReply_keepsLocked _).trans (State.takeReplyItem_keepsLocked _)).trans State.runOut_keepsLocked
    · exact .refl

theorem State.onPhoto_keepsLocked (busy : Bool) (f : Photo → Photo) : s.KeepsLocked (s.onPhoto busy f) := by
  have photo : s.KeepsLocked (s.withPhoto (f (s.photo busy))) := State.withPhoto_keepsLocked _
  unfold State.onPhoto
  rcases (s.withPhoto (f (s.photo busy))).retrySync_cases with ⟨same, -⟩ | looks
  · rw [same]; exact photo
  · rw [looks]; exact photo.trans State.retryHeld_keepsLocked

theorem State.recordSent_keepsLocked (heldFirst : Bool) : s.KeepsLocked (s.recordSent heldFirst) := by
  unfold State.recordSent
  split
  · dsimp only
    split
    · exact (State.withReply_keepsLocked _).trans State.retryHeld_keepsLocked
    · exact State.withReply_keepsLocked _
  · exact .refl

theorem State.answerWaiting_keepsLocked : s.KeepsLocked s.answerWaiting := by
  unfold State.answerWaiting
  split
  · exact (State.withReply_keepsLocked _).trans State.retryHeld_keepsLocked
  · exact .refl

theorem State.setClearToSend_keepsLocked (level : Bool) (bytes : Nat) :
    s.KeepsLocked (s.setClearToSend level bytes) := by
  unfold State.setClearToSend
  split
  · exact .refl
  · exact State.keepsLocked_of_eq rfl rfl rfl rfl

/-! ### The owners that a lock stops (R14, R17, R50, R106 to R109) -/

/-- An operation of the Format Store that its lock let pass. -/
theorem State.withFormats_keepsLocked {fs : FormatStore} {k : Intake} (passes : s.formatLockPasses = true) :
    s.KeepsLocked ((s.withFormats fs).withIntake k) := by
  refine ⟨rfl, rfl, fun tab shut => ⟨.refl _ _, fun formats => ?_, fun _ => rfl⟩⟩
  subst formats
  exact absurd shut (State.not_refuses_of_passes passes)

theorem State.takeDefine_keepsLocked (n : Nat) (nestable : Bool) : s.KeepsLocked (s.takeDefine n nestable) := by
  unfold State.takeDefine
  split
  · next accepted =>
    simp only [State.defineAccepted, Bool.and_eq_true] at accepted
    exact State.withFormats_keepsLocked accepted.2
  · exact State.keepsLocked_of_eq rfl rfl rfl rfl

theorem State.takeEndDefine_keepsLocked : s.KeepsLocked s.takeEndDefine := by
  unfold State.takeEndDefine
  split
  · exact State.keepsLocked_of_eq rfl rfl rfl rfl
  · exact State.keepsLocked_of_eq rfl rfl rfl rfl
  · dsimp only
    split
    · next passes => exact State.withFormats_keepsLocked passes
    · exact State.keepsLocked_of_eq rfl rfl rfl rfl

/-- An edit of the dictionary that its lock let pass. -/
theorem State.withDict_keepsLocked {d : List DictEntry} (passes : s.dictLockPasses = true) :
    s.KeepsLocked (s.withDict d) := by
  refine ⟨rfl, rfl, fun tab shut => ⟨.refl _ _, fun _ => rfl, fun dictionary => ?_⟩⟩
  subst dictionary
  exact absurd shut (State.not_refuses_of_passes passes)

theorem State.takeDictAdd_keepsLocked (codes : List Byte) : s.KeepsLocked (s.takeDictAdd codes) := by
  unfold State.takeDictAdd
  split
  · exact State.keepsLocked_of_eq rfl rfl rfl rfl
  · next passes =>
    split
    · exact State.keepsLocked_of_eq rfl rfl rfl rfl
    · dsimp only
      split
      · exact State.withDict_keepsLocked (by simpa using passes)
      · exact State.keepsLocked_of_eq rfl rfl rfl rfl

theorem State.takeDictDelete_keepsLocked (codes : List Byte) : s.KeepsLocked (s.takeDictDelete codes) := by
  unfold State.takeDictDelete
  split
  · exact State.keepsLocked_of_eq rfl rfl rfl rfl
  · next passes =>
    dsimp only
    split
    · exact State.withDict_keepsLocked (by simpa using passes)
    · exact .refl

theorem State.takeDictClear_keepsLocked : s.KeepsLocked s.takeDictClear := by
  unfold State.takeDictClear
  split
  · exact State.keepsLocked_of_eq rfl rfl rfl rfl
  · next passes => exact State.withDict_keepsLocked (by simpa using passes)

/-- A commit into a table whose lock let it pass writes into no other. -/
theorem State.commitLoad_keepsLocked {tab : Table} (b : LoadBlock) (passes : ¬s.Refuses tab) :
    s.KeepsLocked (s.commitLoad tab b) := by
  obtain ⟨-, locks, -⟩ := s.tables.commit_frame tab b
  have committed : s.KeepsLocked (s.withTables (s.tables.commit tab b)) := by
    refine ⟨rfl, locks, fun x shut => ⟨s.tables.commit_sameAt tab b ?_, fun _ => rfl, fun _ => rfl⟩⟩
    rintro rfl
    exact passes shut
  exact committed.noted _ _

theorem State.refuseLoad_keepsLocked (r : Reason) : s.KeepsLocked (s.refuseLoad r) :=
  State.keepsLocked_of_contents rfl rfl rfl rfl

theorem State.takeLensLoad_keepsLocked (b : LoadBlock) (passes : ¬s.Refuses .lenses) :
    s.KeepsLocked (s.takeLensLoad b) := by
  unfold State.takeLensLoad
  split
  · exact State.refuseLoad_keepsLocked _
  · split
    · exact State.keepsLocked_of_contents rfl rfl rfl rfl
    · exact State.commitLoad_keepsLocked b passes

/-- A block that passes its checks names a table whose lock lets it pass (R47). -/
theorem State.not_refuses_of_loadFailure {b : LoadBlock} {tab : Table} (h : s.loadFailure b = none)
    (named : tableOf b.ident = some tab) : ¬s.Refuses tab := by
  rintro ⟨locked, off⟩
  cases size : tab.entries with
  | none =>
    rw [State.loadFailure_of_unknown (by simp [named, size])] at h
    exact nomatch h
  | some entries =>
    obtain ⟨outside, sum, shut, -⟩ := State.loadFailure_of_known (s := s) named size
    by_cases inside : b.inRange entries = true
    · by_cases summed : b.total s.tables = 0
      · exact nomatch (shut inside summed (by simp [locked, off])).symm.trans h
      · exact nomatch (sum inside summed).symm.trans h
    · exact nomatch (outside inside).symm.trans h

theorem State.takeLoad_keepsLocked (b : LoadBlock) : s.KeepsLocked (s.takeLoad b) := by
  have noted : s.KeepsLocked (s.postWhen b.directionOut .parameterClamped) := State.postWhen_keepsLocked _ _
  refine noted.trans ?_
  unfold State.takeLoad
  dsimp only
  split
  · exact State.refuseLoad_keepsLocked _
  · next passes =>
    split
    · next lens => exact State.takeLensLoad_keepsLocked b (State.not_refuses_of_loadFailure passes lens)
    · next named => exact State.commitLoad_keepsLocked b (State.not_refuses_of_loadFailure passes named)
    · exact .refl

theorem State.endLensWait_keepsLocked (b : LoadBlock) : s.KeepsLocked (s.endLensWait b) := by
  have ended : s.KeepsLocked (s.withTables { s.tables with waiting := none }) :=
    State.keepsLocked_of_contents rfl rfl rfl rfl
  refine ended.trans ?_
  unfold State.endLensWait
  dsimp only
  split
  · next passes => exact State.commitLoad_keepsLocked b (State.not_refuses_of_passes passes)
  · exact State.refuseLoad_keepsLocked _

/-! ### Every command -/

theorem State.takeFont_keepsLocked (f : Nat) : s.KeepsLocked (s.takeFont f) := by
  unfold State.takeFont
  split <;> exact State.keepsLocked_of_eq rfl rfl rfl rfl

theorem State.takeSave_keepsLocked (mask : Byte) : s.KeepsLocked (s.takeSave mask) := by
  unfold State.takeSave
  split <;> exact State.keepsLocked_of_eq rfl rfl rfl rfl

theorem State.takeRestore_keepsLocked (mask : Byte) : s.KeepsLocked (s.takeRestore mask) := by
  unfold State.takeRestore
  split
  · exact State.keepsLocked_of_eq rfl rfl rfl rfl
  · exact (State.withComposer_keepsLocked _).noted _ _

theorem State.takeCall_keepsLocked (n : Nat) : s.KeepsLocked (s.takeCall n) := by
  unfold State.takeCall
  split <;> exact State.keepsLocked_of_eq rfl rfl rfl rfl

theorem execParserTake_keepsLocked (h : execParserTake s = .next t) : s.KeepsLocked t := by
  unfold execParserTake at h
  split at h
  · next u quiet => exact next_keepsLocked h ((offer_quiet_keepsLocked quiet).trans State.runOut_keepsLocked)
  · exact next_keepsLocked h .refl

theorem execFrameReceived_keepsLocked {data : Byte} {parity stop : Bool}
    (h : execFrameReceived data parity stop s = .next t) : s.KeepsLocked t := by
  unfold execFrameReceived at h
  split at h
  · exact next_keepsLocked h .refl
  · refine next_keepsLocked h (State.withFront_keepsLocked ?_)
    unfold Front.frame Front.offer
    split
    · split <;> rfl
    · split <;> rfl

theorem execResetEnd_keepsLocked {detent : Bool} (h : execResetEnd detent s = .next t) : s.KeepsLocked t := by
  unfold execResetEnd at h
  split at h <;> exact next_keepsLocked h (State.keepsLocked_of_eq rfl rfl rfl rfl)

theorem execWaitSlotResume_keepsLocked (h : execWaitSlotResume s = .next t) : s.KeepsLocked t := by
  unfold execWaitSlotResume at h
  split at h
  · split at h
    · exact next_keepsLocked h ((State.onDesk_keepsLocked _).trans State.runOut_keepsLocked)
    · exact next_keepsLocked h .refl
  · exact next_keepsLocked h .refl

theorem execLensCommitAfterWait_keepsLocked (h : execLensCommitAfterWait s = .next t) : s.KeepsLocked t := by
  unfold execLensCommitAfterWait at h
  split at h
  · split at h
    · exact next_keepsLocked h ((State.endLensWait_keepsLocked _).trans State.runOut_keepsLocked)
    · exact next_keepsLocked h .refl
  · exact next_keepsLocked h .refl

/-- What a switch does once its level stands in `u`: a block's reset state under RESET, otherwise a step of the photo
unit. -/
theorem State.switch_keepsLocked {u quiet : State} {busy : Bool} {f : Photo → Photo}
    (h : (if u.pins.resetLine then .next quiet else .next (u.onPhoto busy f) : StepResult) = .next t)
    (switched : s.KeepsLocked u) (reset : s.KeepsLocked quiet) : s.KeepsLocked t := by
  split at h
  · exact next_keepsLocked h reset
  · exact next_keepsLocked h (switched.trans (State.onPhoto_keepsLocked busy f))

/-- The switch goes active, and is not active already. -/
theorem State.switchOn_keepsLocked {level : Bool} {u quiet : State} {busy : Bool} {f : Photo → Photo}
    (h : (if level then .next s
      else if u.pins.resetLine then .next quiet else .next (u.onPhoto busy f) : StepResult) = .next t)
    (switched : s.KeepsLocked u) (reset : s.KeepsLocked quiet) : s.KeepsLocked t := by
  split at h
  · exact next_keepsLocked h .refl
  · exact State.switch_keepsLocked h switched reset

/-- The switch goes inactive, and is active. -/
theorem State.switchOff_keepsLocked {level : Bool} {u quiet : State} {busy : Bool} {f : Photo → Photo}
    (h : (if level then (if u.pins.resetLine then .next quiet else .next (u.onPhoto busy f))
      else .next s : StepResult) = .next t)
    (switched : s.KeepsLocked u) (reset : s.KeepsLocked quiet) : s.KeepsLocked t := by
  split at h
  · exact State.switch_keepsLocked h switched reset
  · exact next_keepsLocked h .refl

/-- Every command but RESET, LOCK and the service switch's own event. -/
theorem exec_keepsLocked {c : Instr} (h : exec c s = .next t) (noReset : c ≠ .reset)
    (noLock : ∀ ident, c ≠ .lock ident) (noSwitch : ∀ on, c ≠ .serviceSwitchChange on) : s.KeepsLocked t := by
  cases c with
  | reset => exact absurd rfl noReset
  | lock ident => exact absurd rfl (noLock ident)
  | serviceSwitchChange on => exact absurd rfl (noSwitch on)
  | resetEnd => exact execResetEnd_keepsLocked h
  | frameReceived => exact execFrameReceived_keepsLocked h
  | parserTake => exact execParserTake_keepsLocked h
  | textCode | damagedCode | interwordSpace | thinSpace | enSpace | emSpace | noBreakSpace | discretionaryHyphen
  | killLine | endLine | endPara | cut | stopDisc => exact deliver_onDesk_keepsLocked h
  | advance | reverse => exact deliver_keepsLocked h fun _ => (State.onDesk_keepsLocked _).noted _ _
  | noHyphenate | columnMark | kerning => exact deliver_keepsLocked h fun _ => State.withComposer_keepsLocked _
  | font => exact deliver_keepsLocked h fun _ => (State.takeFont_keepsLocked _).noted _ _
  | size | lead | measure | indent | quad | spaceband | track | letterspace | manualKern | hyphenation | hyphenLimits =>
    exact deliver_keepsLocked h fun _ => (State.withComposer_keepsLocked _).noted _ _
  | save => exact deliver_keepsLocked h fun _ => State.takeSave_keepsLocked _
  | restore => exact deliver_keepsLocked h fun _ => State.takeRestore_keepsLocked _
  | define => exact deliver_keepsLocked h fun _ => State.takeDefine_keepsLocked _ _
  | endDefine => exact deliver_keepsLocked h fun _ => State.takeEndDefine_keepsLocked
  | call => exact deliver_keepsLocked h fun _ => State.takeCall_keepsLocked _
  | load => exact deliver_keepsLocked h fun _ => State.takeLoad_keepsLocked _
  | dictAdd => exact deliver_keepsLocked h fun _ => State.takeDictAdd_keepsLocked _
  | dictDelete => exact deliver_keepsLocked h fun _ => State.takeDictDelete_keepsLocked _
  | dictClear => exact deliver_keepsLocked h fun _ => State.takeDictClear_keepsLocked
  | cassette =>
    exact deliver_keepsLocked h fun _ => (State.postWhen_keepsLocked _ _).trans (State.withPhoto_keepsLocked _)
  | proof => exact deliver_keepsLocked h fun _ => (State.withProof_keepsLocked _).noted _ _
  | lamp => exact deliver_keepsLocked h fun _ => (State.withPhoto_keepsLocked _).noted _ _
  | query | events | sync => exact deliver_keepsLocked h fun _ => State.replyItem_keepsLocked _
  | readLog =>
    exact deliver_keepsLocked h fun _ => (State.postWhen_keepsLocked _ _).trans (State.replyItem_keepsLocked _)
  | mask => exact deliver_keepsLocked h fun _ => State.withReply_keepsLocked _
  | clear => exact deliver_keepsLocked h fun _ => State.keepsLocked_of_eq rfl rfl rfl rfl
  | waitSlotResume => exact execWaitSlotResume_keepsLocked h
  | lensCommitAfterWait => exact execLensCommitAfterWait_keepsLocked h
  | takeLine | turretStepDone | turretStepTimeout | carriageArrival | carriageTimeout | ringSettleExpiry | sectorEvent
  | indexEvent | spinUpTimeout | sectorGapTimeout | recheckTimeout | flashConfirm | filmArrival | filmMoveTimeout
  | cutterDone | cutterTimeout | busyInactive | busyTimeout | ack | ackTimeout =>
    exact next_keepsLocked h (State.onPhoto_keepsLocked _ _)
  | coverOpens | cassetteInserted | selectActive =>
    exact State.switchOn_keepsLocked h (State.keepsLocked_of_eq rfl rfl rfl rfl)
      (State.keepsLocked_of_eq rfl rfl rfl rfl)
  | coverCloses | cassetteRemoved | selectInactive =>
    exact State.switchOff_keepsLocked h (State.keepsLocked_of_eq rfl rfl rfl rfl)
      (State.keepsLocked_of_eq rfl rfl rfl rfl)
  | clearToSend => exact next_keepsLocked h (State.setClearToSend_keepsLocked _ _)
  | replyRecordSent => exact next_keepsLocked h (State.recordSent_keepsLocked _)
  | syncAnswer => exact next_keepsLocked h State.answerWaiting_keepsLocked

end Whole

/-! ### LOCK (R49, R51) -/

/-- What LOCK changes: a flag of the tables, or the events (R51). -/
theorem State.takeLock_of_known {s : State} {ident : Byte} {tab : Table} (named : tableOf ident = some tab) :
    s.takeLock ident = s.withTables { s.tables with locks := s.tables.locks.lock tab } := by
  simp only [State.takeLock, named]

theorem State.takeLock_of_unknown {s : State} {ident : Byte} (unknown : tableOf ident = none) :
    s.takeLock ident = posted .unknownCode s := by
  simp only [State.takeLock, unknown, post_eq_posted]

/-- A LOCK sets flags and clears none, and changes no contents. -/
theorem execLock_keeps {ident : Byte} {s t : State} (h : exec (.lock ident) s = .next t) :
    (∀ x, s.tables.locks.get x = true → t.tables.locks.get x = true) ∧
      ∀ tab, s.Refuses tab → s.SameAt t tab := by
  rcases deliver_cases (.lock ident) (·.takeLock ident) s with same | ⟨u, takes, delivered⟩
  · cases same.symm.trans h
    exact ⟨fun _ => id, State.KeepsLocked.refl.contents⟩
  · cases delivered.symm.trans h
    have taken := takes_keepsLocked takes
    have ended : (u.takeLock ident).KeepsLocked (u.takeLock ident).runOut := State.runOut_keepsLocked
    cases named : tableOf ident with
    | none =>
      have noted : u.KeepsLocked (u.takeLock ident) := by
        rw [State.takeLock_of_unknown named]
        exact State.withReply_keepsLocked _
      have kept := (taken.trans noted).trans ended
      exact ⟨fun x set => kept.locks ▸ set, kept.contents⟩
    | some tab =>
      rw [State.takeLock_of_known named] at ended ⊢
      refine ⟨fun x set => ?_, fun x shut => ?_⟩
      · rw [ended.locks]
        refine Locks.get_lock_of_get ?_ tab
        rwa [taken.locks]
      · obtain ⟨mode, sources, frame⟩ :=
          runOut_frame (u.withTables { u.tables with locks := u.tables.locks.lock tab })
        rw [frame]
        exact ⟨(taken.contents x shut).tables, (taken.contents x shut).formats, (taken.contents x shut).dict⟩

/-- Every command but RESET keeps each set flag and the contents behind it; no command but LOCK changes a flag. -/
theorem exec_keepsContents {c : Instr} {s t : State} (h : exec c s = .next t) (noReset : c ≠ .reset) :
    (∀ x, s.tables.locks.get x = true → t.tables.locks.get x = true) ∧
      ((∀ ident, c ≠ .lock ident) → t.tables.locks = s.tables.locks) ∧ ∀ tab, s.Refuses tab → s.SameAt t tab := by
  by_cases lock : ∃ ident, c = .lock ident
  · obtain ⟨ident, rfl⟩ := lock
    obtain ⟨flags, contents⟩ := execLock_keeps h
    exact ⟨flags, fun no => absurd rfl (no ident), contents⟩
  · obtain ⟨locks, contents⟩ : t.tables.locks = s.tables.locks ∧ ∀ tab, s.Refuses tab → s.SameAt t tab := by
      by_cases switch : ∃ on, c = .serviceSwitchChange on
      · obtain ⟨on, rfl⟩ := switch
        cases h
        exact ⟨rfl, fun tab _ => ⟨.refl _ _, fun _ => rfl, fun _ => rfl⟩⟩
      · have kept := exec_keepsLocked h noReset (not_exists.mp lock) (not_exists.mp switch)
        exact ⟨kept.locks, kept.contents⟩
    exact ⟨fun x set => locks ▸ set, fun _ => locks, contents⟩

/-- Settles O32: LOCK by the lemmas about its flag, every other command by what it keeps. -/
theorem lockedTablesKeepTheirContents : Obligations.LockedTablesKeepTheirContents := by
  unfold Obligations.LockedTablesKeepTheirContents
  refine ⟨fun ident s u takes => ⟨fun unknown => ?_, fun tab named => ?_⟩, fun c s t noReset h => ?_⟩
  · calc exec (.lock ident) s = _ := deliver_of_takes takes _
      _ = _ := by rw [State.takeLock_of_unknown unknown]
  · obtain ⟨mode, sources, frame⟩ := runOut_frame (u.takeLock ident)
    rw [State.takeLock_of_known named] at frame
    refine ⟨_, (deliver_of_takes takes _).trans (congrArg (fun v : State => (.next v.runOut : StepResult))
      (State.takeLock_of_known named)), ?_⟩
    rw [frame]
    exact ⟨fun _ x hx => Locks.get_lock named hx u.tables.locks, rfl⟩
  · obtain ⟨flags, still, contents⟩ := exec_keepsContents h noReset
    refine ⟨flags, still, fun off => ?_⟩
    have same (tab : Table) (locked : s.tables.locks.get tab = true) : s.SameAt t tab := contents tab ⟨locked, off⟩
    exact ⟨fun locked => (same .directory locked).tables, fun locked => (same .lenses locked).tables,
      fun locked => (same .classes locked).tables, fun locked => (same .rules locked).tables,
      fun locked => (same .formats locked).formats rfl, fun locked => (same .dictionary locked).dict rfl,
      fun k _ => ⟨fun locked => (same (.codeMap k) locked).tables k rfl,
        fun locked => (same (.widths k) locked).tables k rfl,
        fun locked => (same (.kernClasses k) locked).tables k rfl,
        fun locked => (same (.kernPairs k) locked).tables k rfl, fun locked => (same (.info k) locked).tables k rfl⟩⟩

end Sys2Proof.Machine
end

section
/-! PROOFS. The commands that set a value, CLEAR-TO-SEND and the attention line (`CommandsThatSetAValue`). -/

namespace Sys2Proof.Machine

open Sys2Proof Sys2Proof.Safety

/-! ### ADVANCE and REVERSE (R84) -/

/-- ADVANCE and REVERSE post PARAMETER CLAMPED once, whether the operand is clamped or the sum (R11, R84). -/
theorem State.adjustFilm_noted (s : State) (steps : Int) (inside : Prop) [Decidable inside] :
    let sum := s.composer.adjust + steps
    (s.onDesk fun _ _ d => d.adjustFilm steps).postWhen (!decide inside) .parameterClamped =
      clampNote (decide (inside ∧ -14400 ≤ sum ∧ sum ≤ 14400))
        { s with composer := { s.composer with adjust := max (-14400) (min 14400 sum) } } := by
  intro sum
  have adjusted : (s.onDesk fun _ _ d => d.adjustFilm steps) =
      clampNote (decide (-14400 ≤ sum ∧ sum ≤ 14400))
        { s with composer := { s.composer with adjust := max (-14400) (min 14400 sum) } } := by
    have noNote : s.desk.events ||| (0 : Word24) = s.desk.events := BitVec.or_zero
    rw [State.onDesk, Desk.adjustFilm_eq, clampNote]
    split_ifs with reach fits fits
    · rw [noNote]
      rfl
    · exact absurd (decide_eq_true reach) fits
    · exact absurd (of_decide_eq_true fits) reach
    · rfl
  rw [adjusted, postWhen_clamped]
  by_cases fits : inside <;> by_cases reach : -14400 ≤ sum ∧ sum ≤ 14400
  · simp [clampNote, fits, reach]
  · simp [clampNote, fits, reach]
  · simp [clampNote, fits, reach]
  · simp [clampNote, fits, reach, BitVec.or_assoc]

/-! ### The attention line (R181) -/

/-- Two sets of events have one in common. -/
theorem and_ne_zero_iff (a b : Word24) : a &&& b ≠ 0 ↔ ∃ n, a.getLsbD n = true ∧ b.getLsbD n = true := by
  constructor
  · intro meet
    by_contra apart
    refine meet (BitVec.eq_of_getLsbD_eq fun n _ => ?_)
    have none := not_exists.mp apart n
    simpa [BitVec.getLsbD_and] using none
  · rintro ⟨n, ha, hb⟩ zero
    have bit := congrArg (·.getLsbD n) zero
    simp [ha, hb] at bit

theorem State.attention_iff (s : State) :
    s.attention = true ↔
      s.pins.resetLine = false ∧ ∃ n, s.reply.pending.getLsbD n = true ∧ s.reply.mask.getLsbD n = true := by
  rw [State.attention, Bool.and_eq_true, bne_iff_ne, and_ne_zero_iff, Bool.not_eq_true']

/-! ### CLEAR-TO-SEND (R186) -/

theorem State.setClearToSend_same (s : State) (bytes : Nat) : s.setClearToSend s.pins.cts bytes = s := by
  rw [State.setClearToSend, if_pos rfl]

theorem State.setClearToSend_falls {s : State} (up : s.pins.cts = true) (bytes : Nat) :
    s.setClearToSend false bytes =
      (s.withPins { s.pins with cts := false }).withReply (s.reply.halt bytes) := by
  rw [State.setClearToSend, if_neg (by rw [up]; exact Bool.noConfusion)]
  rfl

theorem State.setClearToSend_rises {s : State} (down : s.pins.cts = false) (bytes : Nat) :
    s.setClearToSend true bytes =
      (s.withPins { s.pins with cts := true }).withReply (s.reply.goOn bytes) := by
  rw [State.setClearToSend, if_neg (by rw [down]; exact Bool.noConfusion)]
  rfl

/-- Settles O28: each owner's values by its clamps, the attention line by its two sets, CLEAR-TO-SEND by its level. -/
theorem commandsThatSetAValue : Obligations.CommandsThatSetAValue := by
  unfold Obligations.CommandsThatSetAValue
  refine ⟨?_, fun s u takes => deliver_of_takes takes _, fun m q s u takes => ?_, fun w m s u takes => ?_,
    fun set s u takes => ?_, State.attention_iff, fun on s => rfl, fun bytes s => ?_⟩
  · rintro n s u c steps takes (⟨rfl, rfl⟩ | ⟨rfl, rfl⟩) sum
    · calc exec (.advance n) s = _ := deliver_of_takes takes _
        _ = _ := by rw [clampNat_zero, natOut_zero, State.adjustFilm_noted]; rfl
    · calc exec (.reverse n) s = _ := deliver_of_takes takes _
        _ = _ := by rw [clampNat_zero, natOut_zero, State.adjustFilm_noted]; rfl
  · calc exec (.proof m q) s = _ := deliver_of_takes takes _
      _ = _ := by rw [selectorOut_eq, postWhen_clamped]; rfl
  · have inside : (natOut 4 32 w.toNat || natOut 1 8 m.toNat) =
        !decide (4 ≤ w.toNat ∧ w.toNat ≤ 32 ∧ 1 ≤ m.toNat ∧ m.toNat ≤ 8) := by
      simp [natOut_eq, Bool.or_assoc]
    calc exec (.lamp w m) s = _ := deliver_of_takes takes _
      _ = _ := by rw [clampNat_eq (by decide), clampNat_eq (by decide), inside, postWhen_clamped]; rfl
  · refine ⟨deliver_of_takes takes _, ?_⟩
    rw [State.attention_iff, State.runOut_pins, State.runOut_reply]
  · change (.next (s.setClearToSend s.pins.cts bytes.toNat) : StepResult) = .next s ∧
      (_ → (.next (s.setClearToSend false bytes.toNat) : StepResult) = _) ∧
      (_ → (_ → (.next (s.setClearToSend true bytes.toNat) : StepResult) = _) ∧
        (_ → (.next (s.setClearToSend true bytes.toNat) : StepResult) = _))
    refine ⟨by rw [State.setClearToSend_same], fun up => ?_, fun down => ⟨fun waits => ?_, fun begun => ?_⟩⟩
    · rw [State.setClearToSend_falls up]
      rfl
    · rw [State.setClearToSend_rises down, ReplyUnit.goOn, if_pos waits]
      rfl
    · rw [State.setClearToSend_rises down, ReplyUnit.goOn, if_neg begun]
      rfl

end Sys2Proof.Machine
end

section
/-! PROOFS. The arithmetic of a line: the lens a size resolves to (`LensIsTheNearestSize`), and what a close does with
its items (`SharingAmongSpacesIsExact`, `ClosedLineStandsWhereTheQuadPutsIt`). -/

namespace Sys2Proof.Machine

open Sys2Proof Sys2Proof.Safety

/-! ### Lenses (R62) -/

/-- A lens, a position and its size, answers a requested size as well as another: nearer, as near and smaller, or of the
same size and not later (R62). -/
def LensBefore (requested : Nat) (a b : Nat × Nat) : Prop :=
  sizeGap a.2 requested < sizeGap b.2 requested ∨
    sizeGap a.2 requested = sizeGap b.2 requested ∧ (a.2 < b.2 ∨ a.2 = b.2 ∧ a.1 ≤ b.1)

theorem LensBefore.trans {requested : Nat} {a b c : Nat × Nat} (hab : LensBefore requested a b)
    (hbc : LensBefore requested b c) : LensBefore requested a c := by
  unfold LensBefore at *
  omega

theorem LensBefore.antisymm {requested : Nat} {a b : Nat × Nat} (hab : LensBefore requested a b)
    (hba : LensBefore requested b a) : a = b := by
  unfold LensBefore at *
  ext <;> omega

/-- The test of the search decides between the best so far and a lens at a later position. -/
theorem betterSize_spec (requested : Nat) {b : Nat × Nat} {pos size : Nat} (later : b.1 < pos) :
    if betterSize requested size b.2 then LensBefore requested (pos, size) b
    else LensBefore requested b (pos, size) := by
  unfold LensBefore betterSize
  dsimp only
  simp only [Bool.or_eq_true, Bool.and_eq_true, decide_eq_true_eq]
  split <;> omega

/-- The lenses of the positions from `pos` on. -/
def LensFrom (pos : Nat) (sizes : List Nat) (a : Nat × Nat) : Prop :=
  ∃ i, sizes[i]? = some a.2 ∧ a.2 ≠ 0 ∧ a.1 = pos + i

theorem lensFrom_cons (pos size : Nat) (rest : List Nat) (a : Nat × Nat) :
    LensFrom pos (size :: rest) a ↔ (size ≠ 0 ∧ a = (pos, size)) ∨ LensFrom (pos + 1) rest a := by
  unfold LensFrom
  constructor
  · rintro ⟨_ | i, at_i, nonzero, place⟩
    · obtain rfl : size = a.2 := by simpa using at_i
      exact .inl ⟨nonzero, Prod.ext place rfl⟩
    · exact .inr ⟨i, by simpa using at_i, nonzero, by omega⟩
  · rintro (⟨nonzero, rfl⟩ | ⟨i, at_i, nonzero, place⟩)
    · exact ⟨0, rfl, nonzero, rfl⟩
    · exact ⟨i + 1, by simpa using at_i, nonzero, by omega⟩

/-- The answer of a search: none with nothing to choose, else a choice that stands before every other. -/
def BestChoice (requested : Nat) (choice : Nat × Nat → Prop) : Option (Nat × Nat) → Prop
  | none => ∀ a, ¬choice a
  | some m => choice m ∧ ∀ a, choice a → LensBefore requested m a

theorem BestChoice.congr {requested : Nat} {choice other : Nat × Nat → Prop} {answer : Option (Nat × Nat)}
    (h : BestChoice requested choice answer) (same : ∀ a, choice a ↔ other a) : BestChoice requested other answer :=
  (funext fun a => propext (same a) : choice = other) ▸ h

/-- A further choice that stands behind one of the others does not change the answer. -/
theorem BestChoice.orBehind {requested : Nat} {choice : Nat × Nat → Prop} {answer : Option (Nat × Nat)}
    {win lose : Nat × Nat} (h : BestChoice requested choice answer) (chosen : choice win)
    (behind : LensBefore requested win lose) : BestChoice requested (fun a => a = lose ∨ choice a) answer := by
  cases answer with
  | none => exact absurd chosen (h win)
  | some m =>
    refine ⟨.inr h.1, ?_⟩
    rintro a (rfl | other)
    · exact (h.2 win chosen).trans behind
    · exact h.2 a other

/-- The search chooses among the best so far, which stands at an earlier position, and the lenses to come. -/
theorem bestLens_spec (requested : Nat) (sizes : List Nat) (pos : Nat) (best : Option (Nat × Nat))
    (earlier : ∀ b, best = some b → b.1 < pos) :
    BestChoice requested (fun a => best = some a ∨ LensFrom pos sizes a) (bestLens requested pos sizes best) := by
  induction sizes generalizing pos best with
  | nil =>
    cases best with
    | none => simp [bestLens, BestChoice, LensFrom]
    | some b => simp [bestLens, BestChoice, LensFrom, LensBefore]
  | cons size rest ih =>
    have kept := ih (pos + 1) best fun b hb => Nat.lt_succ_of_lt (earlier b hb)
    have taken := ih (pos + 1) (some (pos, size)) (by rintro _ ⟨⟩; exact Nat.lt_succ_self pos)
    simp only [bestLens, lensFrom_cons]
    by_cases empty : size = 0
    · rw [if_pos empty]
      exact kept.congr fun a => by simp [empty]
    · rw [if_neg empty]
      cases best with
      | none => exact taken.congr fun a => by simp [empty, eq_comm]
      | some b =>
        have order := betterSize_spec requested (size := size) (earlier b rfl)
        dsimp only
        split at order
        · next better =>
          rw [if_pos better]
          exact (taken.orBehind (.inl rfl) order).congr fun a => by simp [empty, eq_comm]
        · next worse =>
          rw [if_neg worse]
          exact (kept.orBehind (.inl rfl) order).congr fun a => by simp [empty, or_left_comm]

/-- The lenses of the table, by its entries. -/
theorem lensFrom_table (t : Tables) (a : Nat × Nat) :
    LensFrom 0 t.lenses.toList a ↔ a.1 < 12 ∧ a.2 = tabGet t.lenses 0 a.1 ∧ a.2 ≠ 0 := by
  obtain ⟨k, size⟩ := a
  simp only [LensFrom, Vector.getElem?_toList, Nat.zero_add, tabGet]
  constructor
  · rintro ⟨_, at_k, nonzero, rfl⟩
    obtain ⟨small, -⟩ := Vector.getElem?_eq_some_iff.mp at_k
    exact ⟨small, by simp [at_k], nonzero⟩
  · rintro ⟨small, size_eq, nonzero⟩
    refine ⟨k, ?_, nonzero, rfl⟩
    rw [size_eq, Vector.getElem?_eq_getElem small]
    rfl

theorem resolve_spec (t : Tables) (requested : Nat) :
    BestChoice requested (fun a => a.1 < 12 ∧ a.2 = tabGet t.lenses 0 a.1 ∧ a.2 ≠ 0) (t.resolve requested) :=
  (bestLens_spec requested t.lenses.toList 0 none nofun).congr fun a => by simp [lensFrom_table]

theorem resolve_eq_none_iff (t : Tables) (requested : Nat) :
    t.resolve requested = none ↔ ∀ k, k < 12 → tabGet t.lenses 0 k = 0 := by
  have spec := resolve_spec t requested
  cases answer : t.resolve requested with
  | none =>
    rw [answer] at spec
    simpa [BestChoice] using spec
  | some m =>
    rw [answer] at spec
    obtain ⟨⟨small, size, nonzero⟩, -⟩ := spec
    simpa using ⟨m.1, small, size ▸ nonzero⟩

theorem resolve_eq_some_iff (t : Tables) (requested : Nat) (a : Nat × Nat) :
    t.resolve requested = some a ↔ (a.1 < 12 ∧ a.2 = tabGet t.lenses 0 a.1 ∧ a.2 ≠ 0) ∧
      ∀ j, j < 12 → tabGet t.lenses 0 j ≠ 0 → LensBefore requested a (j, tabGet t.lenses 0 j) := by
  have spec := resolve_spec t requested
  constructor
  · intro answer
    rw [answer] at spec
    exact ⟨spec.1, fun j small nonzero => spec.2 _ ⟨small, rfl, nonzero⟩⟩
  · rintro ⟨fitted, before⟩
    cases answer : t.resolve requested with
    | none =>
      rw [answer] at spec
      exact absurd fitted (spec a)
    | some m =>
      rw [answer] at spec
      obtain ⟨⟨small, size, nonzero⟩, least⟩ := spec
      have after := before m.1 small (size ▸ nonzero)
      rw [← size] at after
      rw [(least a fitted).antisymm after]

theorem sizeGap_eq (a b : Nat) : sizeGap a b = ((a : Int) - b).natAbs := by
  unfold sizeGap
  split <;> omega

/-- Settles O24: the search by what it chooses among, its order being the one stated. -/
theorem lensIsTheNearestSize : Obligations.LensIsTheNearestSize := by
  unfold Obligations.LensIsTheNearestSize
  refine fun t h => ⟨resolve_eq_none_iff t h, fun k hs => ?_⟩
  rw [resolve_eq_some_iff]
  simp only [LensBefore, sizeGap_eq, and_assoc]

/-! ### Sharing among the justifiable spaces (R79) -/

/-- The justifiable spaces of a line's items. -/
def justifiablesOf (items : List LineItem) : List Space := (spacesOf items).filter Space.justifiable

/-- What the spaces of a line's items gain. -/
def extrasOf (items : List LineItem) : Int := ((spacesOf items).map (·.extra)).sum

@[simp] theorem extrasOf_cons_glyph (g : Glyph) (l : List LineItem) : extrasOf (.glyph g :: l) = extrasOf l := rfl

@[simp] theorem extrasOf_cons_space (p : Space) (l : List LineItem) :
    extrasOf (.space p :: l) = p.extra + extrasOf l := by
  simp [extrasOf]

theorem justifiable_eq (p : Space) : p.justifiable = decide (p.kind = .interword ∨ p.kind = .noBreak) := by
  rw [Space.justifiable, beq_eq_decide, beq_eq_decide, ← Bool.decide_or]

/-- The justifiable spaces take the extras in their order, counted from `k`. -/
theorem finalItems_justifiables (q : Int) (r gap : Nat) (items : List LineItem) (moved : Int) (k : Nat) (after : Bool) :
    (justifiablesOf (finalItems q r gap items moved k after)).map (·.extra) =
      (List.range' k (justifiablesOf items).length).map (extraOf q r) := by
  unfold justifiablesOf
  induction items generalizing moved k after with
  | nil => rfl
  | cons i items ih =>
    cases i with
    | glyph g => simpa [finalItems] using ih _ _ _
    | space p =>
      by_cases just : p.justifiable
      · have kept : ({ p with extra := extraOf q r k } : Space).justifiable = true := just
        simpa [finalItems, just, kept, List.range'_succ] using ih _ _ _
      · simpa [finalItems, just] using ih _ _ _

/-- With no extra given before, the extras are those of the justifiable spaces. -/
theorem finalItems_extras (q : Int) (r gap : Nat) {items : List LineItem} (moved : Int) (k : Nat) (after : Bool)
    (fresh : ∀ p ∈ spacesOf items, p.extra = 0) :
    extrasOf (finalItems q r gap items moved k after) =
      ((justifiablesOf (finalItems q r gap items moved k after)).map (·.extra)).sum := by
  unfold justifiablesOf extrasOf
  induction items generalizing moved k after with
  | nil => rfl
  | cons i items ih =>
    cases i with
    | glyph g => simpa [finalItems] using ih _ _ _ fresh
    | space p =>
      have rest := ih (fresh := fun p hp => fresh p (List.mem_cons_of_mem _ hp))
      by_cases just : p.justifiable
      · have kept : ({ p with extra := extraOf q r k } : Space).justifiable = true := just
        simpa [finalItems, just, kept] using rest _ _ _
      · simpa [finalItems, just, fresh p List.mem_cons_self] using rest _ _ _

theorem sum_extraOf (q : Int) (r n : Nat) :
    ((List.range n).map (extraOf q r)).sum = n * q + min r n := by
  induction n with
  | zero => simp
  | succ n ih =>
    rw [List.range_succ, List.map_append, List.sum_append, ih]
    simp only [List.map_cons, List.map_nil, List.sum_singleton, extraOf, Nat.cast_succ, add_mul]
    split <;> omega

/-- q and r share out the whole amount (R79). -/
theorem share_exact (share : Int) {n : Nat} (some : n ≠ 0) :
    shareRemainder share n < n ∧ n * shareQuotient share n + shareRemainder share n = share := by
  have below : share % n < n := Int.emod_lt_of_pos share (by omega)
  have above : 0 ≤ share % n := Int.emod_nonneg share (by omega)
  have whole := Int.mul_ediv_add_emod share n
  simp only [shareRemainder, shareQuotient, if_neg some]
  omega

/-! ### The close of a line with a glyph (R77 to R82) -/

/-- What a close makes of D, the boundary less the natural length. -/
def closing (p : Params) (quad : Quad) (x : Int) (r : LineRecord) : Justified :=
  settle quad ((r.mr : Int) - nearestStep (x - removedWidth r.items)) (nearestStep (stretchOf (closedItems r.items)))
    (justifiablesOf (closedItems r.items)).length (glyphGaps (closedItems r.items)) p.letterspace

theorem closeRecord_of_glyphs (p : Params) (quad : Quad) (x : Int) {r : LineRecord}
    (glyphs : glyphsOf (closedItems r.items) ≠ []) :
    let n := (justifiablesOf (closedItems r.items)).length
    let j := closing p quad x r
    closeRecord p quad x r = { r with
      items :=
        finalItems (shareQuotient j.share n) (shareRemainder j.share n) j.gap (closedItems r.items) j.shift 0 false
      quad := quad
      spaces := n
      quotient := shareQuotient j.share n
      remainder := shareRemainder j.share n
      gap := j.gap
      leftAtRight := j.right
      filmMove := (lengthSteps p.lead : Int) + r.adjustment
      flags := { r.flags with loose := r.flags.loose || j.loose } } :=
  if_neg (by simpa using glyphs)

/-- The extras of the justifiable spaces of a closed line, in their order. -/
theorem closeRecord_extras (p : Params) (quad : Quad) (x : Int) {r : LineRecord}
    (glyphs : glyphsOf (closedItems r.items) ≠ []) :
    let t := closeRecord p quad x r
    (justifiablesOf t.items).map (·.extra) = (List.range t.spaces).map (extraOf t.quotient t.remainder) := by
  intro t
  rw [show t = _ from closeRecord_of_glyphs p quad x glyphs, List.range_eq_range']
  exact finalItems_justifiables ..

theorem closeRecord_share (p : Params) (quad : Quad) (x : Int) {r : LineRecord}
    (glyphs : glyphsOf (closedItems r.items) ≠ []) (some : (closeRecord p quad x r).spaces ≠ 0) :
    let t := closeRecord p quad x r
    t.remainder < t.spaces ∧ t.spaces * t.quotient + t.remainder = (closing p quad x r).share := by
  intro t
  have closed : t = _ := closeRecord_of_glyphs p quad x glyphs
  rw [show closeRecord p quad x r = _ from closed] at some
  rw [closed]
  exact share_exact _ some

/-- The extras of a closed line's justifiable spaces sum to the amount shared. -/
theorem closeRecord_sum (p : Params) (quad : Quad) (x : Int) {r : LineRecord}
    (glyphs : glyphsOf (closedItems r.items) ≠ []) (some : (closeRecord p quad x r).spaces ≠ 0) :
    ((justifiablesOf (closeRecord p quad x r).items).map (·.extra)).sum = (closing p quad x r).share := by
  obtain ⟨below, whole⟩ := closeRecord_share p quad x glyphs some
  rw [closeRecord_extras p quad x glyphs, sum_extraOf, min_eq_left below.le]
  exact whole

/-- Settles O25: the extras in their order, and the amount they sum to. -/
theorem sharingAmongSpacesIsExact : Obligations.SharingAmongSpacesIsExact := by
  unfold Obligations.SharingAmongSpacesIsExact
  intro p quad x r glyphs t js
  have js_eq : js = justifiablesOf t.items := List.filter_congr fun q _ => (justifiable_eq q).symm
  have extras : js.map (·.extra) = (List.range t.spaces).map (extraOf t.quotient t.remainder) := by
    rw [js_eq]
    exact closeRecord_extras p quad x glyphs
  have count : t.spaces = js.length := by simpa using (congrArg List.length extras).symm
  refine ⟨count, ?_⟩
  intro share nonempty
  have some : t.spaces ≠ 0 := count ▸ fun none => nonempty (List.length_eq_zero_iff.mp none)
  obtain ⟨below, whole⟩ : t.remainder < t.spaces ∧ _ := closeRecord_share p quad x glyphs some
  have total : t.spaces * t.quotient + t.remainder = share := by
    rw [whole, ← closeRecord_sum p quad x glyphs some, ← js_eq]
  refine ⟨?_, ?_, below, fun k q at_k => ?_⟩
  · rw [← total, Int.add_comm, Int.add_mul_ediv_left _ _ (by omega), Int.ediv_eq_zero_of_lt (by omega) (by omega),
      Int.zero_add]
  · rw [← total, Int.mul_comm t.quotient]
    omega
  · have kth := congrArg (·[k]?) extras
    have small : k < t.spaces := count ▸ (List.getElem?_eq_some_iff.mp at_k).1
    simpa [at_k, small, extraOf] using kth

/-! ### Gaps between glyphs, and final positions (R77, R81) -/

/-- The glyph gaps of items that stand after a glyph or not. -/
def gapsFrom : Bool → List LineItem → Nat
  | _, [] => 0
  | after, .glyph _ :: rest => after.toNat + gapsFrom true rest
  | _, .space _ :: rest => gapsFrom false rest

theorem gapsFrom_eq (items : List LineItem) :
    gapsFrom false items = glyphGaps items ∧ ∀ g, gapsFrom true items = glyphGaps (.glyph g :: items) := by
  induction items with
  | nil => exact ⟨rfl, fun _ => rfl⟩
  | cons i items ih =>
    cases i with
    | glyph h => exact ⟨by simp [gapsFrom, ih.2 h], fun g => by simp [gapsFrom, ih.2 h, glyphGaps]⟩
    | space p => exact ⟨by simp [gapsFrom, ih.1, glyphGaps], fun g => by simp [gapsFrom, ih.1, glyphGaps]⟩

theorem finalItems_cons_glyph (q : Int) (r gap : Nat) (g : Glyph) (rest : List LineItem) (moved : Int) (k : Nat)
    (after : Bool) :
    finalItems q r gap (.glyph g :: rest) moved k after =
      .glyph { g with x := (max 0 (min 16800 ((g.x : Int) + (moved + gap * after.toNat)))).toNat } ::
        finalItems q r gap rest (moved + gap * after.toNat) k true := by
  have clamp (v : Int) : clampInt 0 Config.carriageRange v = max 0 (min 16800 v) := clampInt_eq (by decide) v
  cases after <;> simp [finalItems, clamp]

theorem finalItems_cons_space (q : Int) (r gap : Nat) (p : Space) (rest : List LineItem) (moved : Int) (k : Nat)
    (after : Bool) :
    finalItems q r gap (.space p :: rest) moved k after =
      if p.justifiable then
        .space { p with extra := extraOf q r k } :: finalItems q r gap rest (moved + extraOf q r k) (k + 1) false
      else .space p :: finalItems q r gap rest moved k false := by
  simp only [finalItems]

theorem finalItems_count (q : Int) (r gap : Nat) (items : List LineItem) (moved : Int) (k : Nat) (after : Bool) :
    (finalItems q r gap items moved k after).length = items.length := by
  induction items generalizing moved k after with
  | nil => rfl
  | cons i items ih =>
    cases i with
    | glyph g => simp [finalItems_cons_glyph, ih]
    | space p =>
      rw [finalItems_cons_space]
      split <;> simp [ih]

/-- A glyph's final x is its origin with what stands before the items and the extras and gaps before it (R81). -/
theorem finalItems_glyph (q : Int) (r gap : Nat) {items : List LineItem} (moved : Int) (k : Nat) (after : Bool)
    (fresh : ∀ p ∈ spacesOf items, p.extra = 0) {i : Nat} {g : Glyph} (at_i : items[i]? = some (.glyph g)) :
    (finalItems q r gap items moved k after)[i]? = some (.glyph { g with x :=
      (max 0 (min 16800 ((g.x : Int) + (moved + extrasOf ((finalItems q r gap items moved k after).take i) +
        gap * gapsFrom after (items.take (i + 1)))))).toNat }) := by
  induction items generalizing moved k after i with
  | nil => exact nomatch at_i
  | cons item items ih =>
    cases i with
    | zero =>
      obtain rfl : item = .glyph g := by simpa using at_i
      simp [finalItems_cons_glyph, gapsFrom, extrasOf]
    | succ i =>
      have later : items[i]? = some (.glyph g) := by simpa using at_i
      cases item with
      | glyph h =>
        rw [finalItems_cons_glyph, List.getElem?_cons_succ, List.take_succ_cons, List.take_succ_cons, gapsFrom,
          ih _ _ _ fresh later, extrasOf_cons_glyph]
        grind
      | space p =>
        have ih := ih (fresh := fun p hp => fresh p (List.mem_cons_of_mem _ hp)) (at_i := later)
        rw [finalItems_cons_space]
        split
        · rw [List.getElem?_cons_succ, List.take_succ_cons, List.take_succ_cons, gapsFrom, ih, extrasOf_cons_space]
          grind
        · rw [List.getElem?_cons_succ, List.take_succ_cons, List.take_succ_cons, gapsFrom, ih, extrasOf_cons_space,
            fresh p List.mem_cons_self]
          grind

/-! ### What each quad mode makes of D (R78, R80) -/

/-- The gap of R78 takes no more than D has beyond the spaces' stretch. -/
theorem gap_mul_le {d smax : Int} (beyond : smax < d) {g : Nat} (some : g ≠ 0) (letterspace : Nat) :
    ((min letterspace ((d - smax) / g).toNat : Nat) : Int) * g ≤ d - smax := by
  have each : ((min letterspace ((d - smax) / g).toNat : Nat) : Int) ≤ (d - smax) / g := by
    have : 0 ≤ (d - smax) / g := Int.ediv_nonneg (by omega) (Int.natCast_nonneg g)
    omega
  calc ((min letterspace ((d - smax) / g).toNat : Nat) : Int) * g
      ≤ (d - smax) / g * g := Int.mul_le_mul_of_nonneg_right each (Int.natCast_nonneg g)
    _ ≤ d - smax := Int.ediv_mul_le _ (by omega)

/-- The gap that R78 gives each glyph gap. -/
def gapOf (d smax : Int) (g letterspace : Nat) : Nat :=
  if smax < d ∧ g ≠ 0 then min letterspace ((d - smax) / g).toNat else 0

/-- The table of R78 by the gap it gives: with spaces the rest is shared among them, with none it is left at the
right. -/
theorem justify_eq (d smax : Int) (n g letterspace : Nat) :
    justify d smax n g letterspace =
      let rest := d - gapOf d smax g letterspace * g
      if n = 0 then
        ⟨gapOf d smax g letterspace, 0, if smax < d then rest.toNat else 0, 0,
          decide (smax < d ∧ 0 < rest.toNat)⟩
      else ⟨gapOf d smax g letterspace, rest, 0, 0, decide (smax < rest)⟩ := by
  unfold justify gapOf
  by_cases beyond : smax < d
  · rw [if_neg (by omega)]
    by_cases none : letterspace = 0 ∨ g = 0
    · rcases none with rfl | rfl <;> simp [beyond]
    · obtain ⟨some, gaps⟩ := not_or.mp none
      simp [beyond, some, gaps, mul_comm]
  · by_cases none : n = 0 <;> simp [beyond, not_lt.mp beyond, none]

theorem justify_spec (d smax : Int) (n g letterspace : Nat) (plain : n = 0 → smax = 0) :
    let j := settle .justify d smax n g letterspace
    j.gap = gapOf d smax g letterspace ∧
      (n ≠ 0 → j.share + j.gap * g = d ∧ j.right = 0) ∧
      (n = 0 → (j.right : Int) = if smax < d then d - j.gap * g else 0) ∧
      j.loose = decide (j.right ≠ 0 ∨ n ≠ 0 ∧ smax < d - j.gap * g) := by
  rw [settle, justify_eq]
  by_cases none : n = 0
  · by_cases beyond : smax < d
    · have within : (gapOf d smax g letterspace : Int) * g ≤ d - smax := by
        unfold gapOf
        split
        · next gaps => exact gap_mul_le beyond gaps.2 letterspace
        · simp; omega
      have := plain none
      simp [none, beyond]
      omega
    · simp [none, beyond]
  · simp [none]

/-- How far a line that is not too long is moved to the right (R80). -/
def shiftOf (quad : Quad) (d : Int) : Int :=
  if d < 0 then 0 else match quad with
  | .right => d
  | .centre => d / 2
  | _ => 0

/-- Quad left, right and centre: no gap, nothing left at the right, and a line too long shared among its spaces. -/
theorem settle_of_ne {quad : Quad} (quad_ne : quad ≠ .justify) (d smax : Int) (n g letterspace : Nat) :
    settle quad d smax n g letterspace = ⟨0, if d < 0 ∧ n ≠ 0 then d else 0, 0, (shiftOf quad d).toNat, false⟩ := by
  unfold settle quadded shiftOf
  by_cases long : d < 0
  · have short : ¬0 ≤ d := by omega
    by_cases none : n = 0 <;> cases quad <;> simp_all
  · cases quad <;> simp_all [not_lt.mpr]

theorem settle_shift (quad : Quad) (d smax : Int) (n g letterspace : Nat) :
    ((settle quad d smax n g letterspace).shift : Int) = shiftOf quad d := by
  have natural : 0 ≤ shiftOf quad d := by
    unfold shiftOf
    cases quad <;> grind
  by_cases justified : quad = .justify
  · subst justified
    simp only [settle, justify_eq, shiftOf]
    split <;> simp
  · rw [settle_of_ne justified]
    exact Int.toNat_of_nonneg natural

/-- A line without a justifiable space has no stretch. -/
theorem stretchOf_of_none {items : List LineItem} (none : justifiablesOf items = []) : stretchOf items = 0 := by
  have plain : ∀ p ∈ spacesOf items, ¬p.justifiable := by simpa [justifiablesOf] using none
  refine List.sum_eq_zero fun v hv => ?_
  obtain ⟨p, hp, rfl⟩ := List.mem_map.mp hv
  exact if_neg (plain p hp)

/-- The extras of all the spaces of a closed line, none having had one before. -/
theorem closeRecord_extrasOf (p : Params) (quad : Quad) (x : Int) {r : LineRecord}
    (glyphs : glyphsOf (closedItems r.items) ≠ []) (fresh : ∀ q ∈ spacesOf (closedItems r.items), q.extra = 0) :
    let t := closeRecord p quad x r
    extrasOf t.items = if t.spaces = 0 then 0 else (closing p quad x r).share := by
  intro t
  have all : extrasOf t.items = ((justifiablesOf t.items).map (·.extra)).sum := by
    rw [show t = _ from closeRecord_of_glyphs p quad x glyphs]
    exact finalItems_extras _ _ _ _ _ _ fresh
  rw [all]
  split
  · next none =>
    rw [closeRecord_extras p quad x glyphs]
    simp [t, none]
  · next some => exact closeRecord_sum p quad x glyphs some

/-- Settles O26: the amounts by the table of the quad mode, each glyph's x by what stands before it. -/
theorem closedLineStandsWhereTheQuadPutsIt : Obligations.ClosedLineStandsWhereTheQuadPutsIt := by
  unfold Obligations.ClosedLineStandsWhereTheQuadPutsIt
  intro p quad x r glyphs items t ln d extras shift stretch smax gaps
  have closed : t = _ := closeRecord_of_glyphs p quad x glyphs
  have stretch_eq : stretchOf items = stretch := by
    simp only [stretchOf, stretch, justifiable_eq, decide_eq_true_eq]
  have closing_eq : closing p quad x r = settle quad d smax t.spaces gaps p.letterspace := by
    rw [closed, closing, stretch_eq]
    rfl
  have plain : t.spaces = 0 → smax = 0 := by
    intro none
    rw [closed] at none
    have : stretch = 0 := stretch_eq ▸ stretchOf_of_none (List.length_eq_zero_iff.mp none)
    simp [smax, this]
  have shift_eq : ((closing p quad x r).shift : Int) = shift := closing_eq ▸ settle_shift ..
  have gap_eq : t.gap = (closing p quad x r).gap := by rw [closed]
  have right_eq : t.leftAtRight = (closing p quad x r).right := by rw [closed]
  have flags_eq : t.flags = { r.flags with loose := r.flags.loose || (closing p quad x r).loose } := by rw [closed]
  have items_eq : t.items = finalItems t.quotient t.remainder t.gap items shift 0 false := by
    rw [← shift_eq, closed]
  rw [closing_eq] at gap_eq right_eq flags_eq
  refine ⟨fun fresh => ?_, ?_, by rw [closed], ?_⟩
  · have shared : extras t.items = if t.spaces = 0 then 0 else (closing p quad x r).share :=
      closeRecord_extrasOf p quad x glyphs fresh
    rw [closing_eq] at shared
    refine ⟨?_, ?_, ?_, fun i g at_i => ?_⟩
    · rintro rfl some
      obtain ⟨-, full, -, -⟩ := justify_spec d smax t.spaces gaps p.letterspace plain
      obtain ⟨whole, right⟩ := full some
      rw [if_neg some] at shared
      rw [← gap_eq] at whole
      rw [shared, right_eq]
      exact ⟨by change ln + _ + t.gap * gaps = _; omega, right⟩
    · rintro rfl
      obtain ⟨gap, -, left, loose⟩ := justify_spec d smax t.spaces gaps p.letterspace plain
      rw [gap_eq, right_eq, flags_eq]
      refine ⟨gap, fun none => ⟨left none, by rw [shared, if_pos none]⟩, ?_⟩
      rw [loose]
    · intro other
      rw [settle_of_ne other] at shared gap_eq right_eq flags_eq
      refine ⟨gap_eq, right_eq, by rw [flags_eq, Bool.or_false], ?_⟩
      rw [shared]
      by_cases none : t.spaces = 0 <;> simp [none]
    · rw [items_eq, finalItems_glyph _ _ _ _ _ _ fresh at_i, (gapsFrom_eq _).1, ← items_eq]
      simp only [extras, extrasOf]
      congr 6
      omega
  · rw [items_eq, finalItems_count]
  · rw [closed]
    simp [lengthSteps]

end Sys2Proof.Machine
end

section
/-! PROOFS. Codes that open a line or a record: a character (`CharacterOpensALine`), a space (`SpaceJoinsTheOpenLine`),
CUT and STOP DISC (`CutAndStopOpenAndCloseARecord`), at the take and out of WAIT SLOT. -/

namespace Sys2Proof.Machine

open Sys2Proof Sys2Proof.Safety

/-! ### The lowest FREE slot (R112) -/

/-- The lowest FREE slot depends on which slots are FREE alone. -/
theorem lowestFree_congr {a b : Store} (h : ∀ i, (a.slot i).state = .free ↔ (b.slot i).state = .free) :
    a.lowestFree = b.lowestFree := by
  unfold Store.lowestFree
  congr 1
  funext i
  simp only [beq_eq_decide, h i]

/-- A close takes no FREE slot and makes none. -/
theorem lowestFree_close {st : Store} {i : Nat} (taken : (st.slot i).state ≠ .free) (r : LineRecord) :
    (st.close i r).lowestFree = st.lowestFree := by
  refine lowestFree_congr fun j => ?_
  rw [show (st.close i r).slot j = _ from slot_putSlot st i j ⟨.ready, r⟩]
  split
  · next same =>
    obtain ⟨rfl, -⟩ := same
    simp [taken]
  · rfl

theorem slot_close_same {i : Nat} (small : i < 8) (st : Store) (r : LineRecord) :
    (st.close i r).slot i = ⟨.ready, r⟩ :=
  slot_putSlot_same st _ small

theorem closeRecord_quad (p : Params) (quad : Quad) (x : Int) (r : LineRecord) :
    (closeRecord p quad x r).quad = quad := by
  unfold closeRecord
  dsimp only
  split <;> rfl

/-! ### CUT and STOP records (R85, R86) -/

/-- A code that emits a record of its own, and whether it is a CUT. -/
def EmitsRecord (c : Instr) (cut : Bool) : Prop := (c = .cut ∧ cut = true) ∨ (c = .stopDisc ∧ cut = false)

/-- The record that a CUT or a STOP DISC emits. -/
def Composer.ownRecord (c : Composer) (cut : Bool) : LineRecord := if cut then c.cutRecord else c.stopRecord

section Emitting

variable {c : Instr} {cut : Bool} {d : Desk} {i : Nat}

theorem exec_emitsRecord (h : EmitsRecord c cut) (s : State) :
    exec c s = deliver c (fun s => s.onDesk fun t dict d => d.takeEnding t dict c) s := by
  rcases h with ⟨rfl, -⟩ | ⟨rfl, -⟩ <;> rfl

/-- With a slot FREE the record is emitted there: a CUT takes the pending adjustment and mark, a STOP neither. -/
theorem Desk.afterWord_emits (h : EmitsRecord c cut) (t : Tables) (free : d.closeForRecord.store.lowestFree = some i) :
    d.afterWord t c =
      let e := d.closeForRecord
      { composer := { e.composer with
          phase := .idle
          adjust := if cut then 0 else e.composer.adjust
          columnMark := if cut then false else e.composer.columnMark
          counter := nextNumber e.composer.counter }
        store := e.store.close i (e.composer.ownRecord cut)
        events := e.events } := by
  rcases h with ⟨rfl, rfl⟩ | ⟨rfl, rfl⟩
  · simp only [Desk.afterWord, Desk.emitCut, Desk.emit, free, Store.fill, close_putSlot]
    rfl
  · simp only [Desk.afterWord, Desk.emitStop, Desk.emit, free, Store.fill, close_putSlot]
    rfl

theorem Desk.afterWord_waits (h : EmitsRecord c cut) (t : Tables) (full : d.closeForRecord.store.lowestFree = none) :
    d.afterWord t c = d.closeForRecord.wait (.code c) := by
  rcases h with ⟨rfl, rfl⟩ | ⟨rfl, rfl⟩
  · simp only [Desk.afterWord, Desk.emitCut, Desk.emit, full]
  · simp only [Desk.afterWord, Desk.emitStop, Desk.emit, full]

theorem Desk.closeForRecord_of_idle (idle : d.composer.phase = .idle) : d.closeForRecord = d := by
  simp only [Desk.closeForRecord, idle]

theorem Desk.closeForRecord_of_opened {line : OpenLine} (phase : d.composer.phase = .opened line) :
    d.closeForRecord = d.closeOpen line true := by
  simp only [Desk.closeForRecord, phase]

theorem Desk.takeEnding_of_idle (t : Tables) (dict : List DictEntry) (code : Instr) (idle : d.composer.phase = .idle) :
    d.takeEnding t dict code = d.afterWord t code := by
  simp only [Desk.takeEnding, idle]

theorem Desk.takeEnding_of_opened (t : Tables) (dict : List DictEntry) (code : Instr) {line : OpenLine}
    (phase : d.composer.phase = .opened line) : d.takeEnding t dict code = (d.settleWord line).afterWord t code := by
  simp only [Desk.takeEnding, phase]

end Emitting

/-- Settles O20: the record emitted with no line open, and after the close of the open line. -/
theorem cutAndStopOpenAndCloseARecord : Obligations.CutAndStopOpenAndCloseARecord := by
  unfold Obligations.CutAndStopOpenAndCloseARecord
  intro s u c code takes
  obtain ⟨cut, emits⟩ : ∃ cut, EmitsRecord c cut :=
    code.elim (fun h => ⟨true, .inl ⟨h, rfl⟩⟩) fun h => ⟨false, .inr ⟨h, rfl⟩⟩
  rw [exec_emitsRecord emits]
  refine ⟨fun idle i free => ?_, fun idle full => ?_, fun line i phase small ne free filling => ?_⟩
  · have still := Desk.closeForRecord_of_idle (d := u.desk) idle
    have emitted := Desk.afterWord_emits emits u.tables (d := u.desk) (by rw [still]; exact lowestFree_of free)
    rw [still, ← Desk.takeEnding_of_idle _ u.dict _ idle] at emitted
    refine answersWith_onDesk takes emitted fun intake => ⟨⟨_, ⟨slot_putSlot_same _ _ free.1,
      fun j other => slot_putSlot_ne _ _ (Ne.symm other)⟩, ?_⟩, rfl, ?_, rfl⟩
    · rcases emits with ⟨rfl, rfl⟩ | ⟨rfl, rfl⟩
      · exact ⟨rfl, rfl, rfl, fun _ => ⟨rfl, rfl, rfl⟩, nofun⟩
      · exact ⟨rfl, rfl, rfl, nofun, fun _ => ⟨rfl, rfl, rfl⟩⟩
    · rcases emits with ⟨rfl, rfl⟩ | ⟨rfl, rfl⟩ <;> (rw [← idle]; rfl)
  · have still := Desk.closeForRecord_of_idle (d := u.desk) idle
    have waits := Desk.afterWord_waits emits u.tables (d := u.desk) (by rw [still]; exact lowestFree_of_noneFree full)
    rw [still, ← Desk.takeEnding_of_idle _ u.dict _ idle] at waits
    rw [deliver_onDesk takes waits, runOut_of_waitSlot rfl]
    rfl
  · have settled : (u.desk.settleWord line).composer.phase = .opened line := phase
    obtain ⟨r, quad, closed⟩ : ∃ r, r.quad = u.composer.params.lastQuad ∧
        (u.desk.settleWord line).closeForRecord = u.desk.closeLine line.slot r :=
      ⟨_, closeRecord_quad .., (Desk.closeForRecord_of_opened settled).trans (Desk.closeOpen_settleWord _ small _)⟩
    have still : (u.desk.settleWord line).closeForRecord.store.lowestFree = some i := by
      rw [closed]
      exact (lowestFree_close (by rw [show (u.desk.store.slot line.slot).state = _ from filling]; nofun) _).trans
        (lowestFree_of free)
    have emitted := Desk.afterWord_emits emits u.tables still
    rw [closed, ← Desk.takeEnding_of_opened _ u.dict _ phase] at emitted
    refine answersWith_onDesk takes emitted fun intake => ?_
    have own := slot_close_same free.1 (u.store.close line.slot r)
      ((u.desk.closeLine line.slot r).composer.ownRecord cut)
    have kept := (close_keepsReady (Ne.symm ne) (u.store.close line.slot r)
      ((u.desk.closeLine line.slot r).composer.ownRecord cut)).1.trans (slot_close_same small _ _)
    refine ⟨List.append_assoc _ _ _, congrArg LineSlot.state kept, ?_, congrArg LineSlot.state own, ?_, ?_⟩
    · exact (congrArg (fun x => x.record.quad) kept).trans quad
    · rcases emits with ⟨rfl, rfl⟩ | ⟨rfl, rfl⟩ <;> exact congrArg (fun x => x.record.number) own
    · rcases emits with ⟨rfl, rfl⟩ | ⟨rfl, rfl⟩ <;> exact congrArg (fun x => x.record.kind) own

/-! ### Out of WAIT SLOT (R61) -/

/-- The part with the Composer in IDLE. -/
def resting (s : State) : State := { s with composer := { s.composer with phase := .idle } }

/-- With a slot FREE the held item is processed with no line open, and formats that have run out end. -/
theorem exec_waitSlotResume_of_free {s : State} {held : Waiting} (waits : s.composer.phase = .waitSlot held) {i : Nat}
    (free : LowestFree s i) {d : Desk} (h : (resting s).desk.resumeHeld s.tables s.dict held = d) :
    exec .waitSlotResume s = .next ((resting s).withDesk d).runOut := by
  have free := lowestFree_of free
  have resumed : s.desk.resume s.tables s.dict = d := by
    rw [← h]
    simp only [Desk.resume, State.desk, waits, free, Option.isSome_some, if_true]
    rfl
  have stepped : exec .waitSlotResume s = .next (s.withDesk (s.desk.resume s.tables s.dict)).runOut := by
    change execWaitSlotResume s = _
    simp only [execWaitSlotResume, waits, free, Option.isSome_some, if_true]
    rfl
  rw [stepped, resumed]
  rfl

theorem exec_waitSlotResume_of_full {s : State} {held : Waiting} (waits : s.composer.phase = .waitSlot held)
    (full : NoneFree s) : exec .waitSlotResume s = .next s := by
  change execWaitSlotResume s = _
  simp [execWaitSlotResume, waits, lowestFree_of_noneFree full]

/-! ### The checks of R31 and the lens -/

/-- Where a code can be set there is a font with its entry, and a lens for every size (R31, R62). -/
theorem resolve_of_canSet {u : State} (h : CanSet u) (size : Nat) :
    ∃ font e lens hs, u.composer.params.font = some font ∧ u.tables.entry font = some e ∧
      u.tables.resolve size = some (lens, hs) := by
  obtain ⟨font, e, hfont, entry, -, k, fitted⟩ := h
  cases answer : u.tables.resolve size with
  | none =>
    have small : k < 12 := by
      by_contra beyond
      exact fitted (by simp [tabGet, beyond])
    exact absurd ((resolve_eq_none_iff _ _).mp answer k small) fitted
  | some a => exact ⟨font, e, a.1, a.2, hfont, entry, rfl⟩

/-! ### A line just opened (R60, R112) -/

/-- The open line beside the record of a line just opened. -/
def Composer.freshLine (c : Composer) (i : Nat) : OpenLine := ⟨i, (c.params.lineStart : Int) * 48, 0, 0, 0⟩

/-- The desk with a line just opened in slot `i`. -/
def Desk.openedIn (d : Desk) (i : Nat) : Desk :=
  { d with
    store := d.store.fill i d.composer.textRecord
    composer := { d.composer with
      phase := .opened (d.composer.freshLine i)
      adjust := 0
      columnMark := false
      counter := nextNumber d.composer.counter } }

theorem Desk.openLine_eq {d : Desk} {i : Nat} (free : d.store.lowestFree = some i) :
    d.openLine = some (d.openedIn i, d.composer.freshLine i) :=
  Desk.openLine_of_free free

theorem Desk.openedIn_record (d : Desk) {i : Nat} (small : i < 8) :
    (d.openedIn i).store.record (d.composer.freshLine i).slot = d.composer.textRecord :=
  congrArg LineSlot.record (slot_putSlot_same d.store _ small)

/-- A record written over a line just opened. -/
theorem Desk.openedIn_withRecord (d : Desk) {i : Nat} (small : i < 8) (r : LineRecord) :
    ((d.openedIn i).withRecord (d.composer.freshLine i).slot r).store = d.store.putSlot i ⟨.filling, r⟩ := by
  have slot : (d.openedIn i).store.slot (d.composer.freshLine i).slot = _ :=
    slot_putSlot_same d.store ⟨.filling, _⟩ small
  simp only [Desk.withRecord, Store.putRecord, slot]
  exact putSlot_putSlot ..

/-! ### Spaces (R62, R66 to R68) -/

/-- The space that a code sets at fine position `x` (R66, R68). -/
def spaceFor (p : Params) (kind : SpaceKind) (font lens hs : Nat) (x : Int) : Space :=
  { kind := kind, font := font, lens := lens, hs := hs, minimum := fine (spaceUnits p kind).1 hs
    normal := fine (spaceUnits p kind).2.1 hs, maximum := fine (spaceUnits p kind).2.2 hs, extra := 0
    after := x + fine (spaceUnits p kind).2.1 hs }

/-- The open line with a space more. -/
def OpenLine.widen (line : OpenLine) (q : Space) : OpenLine :=
  { line with x := line.x + q.normal, stretch := line.stretch + (q.maximum - q.normal)
              shrink := line.shrink + (q.normal - q.minimum) }

section Spaces

variable {t : Tables} {d : Desk} {line : OpenLine} {kind : SpaceKind} {c : Instr}

theorem exec_setsSpace (h : SetsSpace c kind) (s : State) :
    exec c s = deliver c (fun s => s.onDesk fun t dict d => d.whenSettable t fun d => d.takeEnding t dict c) s := by
  rcases h with ⟨rfl, -⟩ | ⟨rfl, -⟩ | ⟨rfl, -⟩ | ⟨rfl, -⟩ | ⟨rfl, -⟩ <;> rfl

theorem Desk.afterWord_setsSpace (h : SetsSpace c kind) (t : Tables) (d : Desk) :
    d.afterWord t c = d.spaceAfterWord t c kind := by
  rcases h with ⟨rfl, rfl⟩ | ⟨rfl, rfl⟩ | ⟨rfl, rfl⟩ | ⟨rfl, rfl⟩ | ⟨rfl, rfl⟩ <;> rfl

theorem Desk.resumeHeld_setsSpace (h : SetsSpace c kind) (t : Tables) (dict : List DictEntry) (d : Desk) :
    d.resumeHeld t dict (.code c) = d.spaceAfterWord t c kind := by
  rcases h with ⟨rfl, rfl⟩ | ⟨rfl, rfl⟩ | ⟨rfl, rfl⟩ | ⟨rfl, rfl⟩ | ⟨rfl, rfl⟩ <;> rfl

theorem Desk.takeSpace_dropped (drop : spaceDropped kind line.glyphs (d.store.record line.slot).items.getLast? = true) :
    d.takeSpace t line kind = d := by
  simp only [Desk.takeSpace, drop, if_true]

theorem Desk.takeSpace_full (keep : spaceDropped kind line.glyphs (d.store.record line.slot).items.getLast? = false)
    (full : 160 ≤ (spacesOf (d.store.record line.slot).items).length) :
    d.takeSpace t line kind = d.withRecord line.slot
      { d.store.record line.slot with flags := { (d.store.record line.slot).flags with overset := true } } := by
  simp only [Desk.takeSpace, keep, Bool.false_eq_true, if_false]
  exact if_pos full

/-- A space that is not dropped joins the line, which widens by it; a fixed space neither stretches nor shrinks. -/
theorem Desk.takeSpace_joins {font lens hs : Nat} (hfont : d.composer.params.font = some font)
    (resolve : t.resolve d.composer.params.size = some (lens, hs))
    (keep : spaceDropped kind line.glyphs (d.store.record line.slot).items.getLast? = false)
    (room : (spacesOf (d.store.record line.slot).items).length < 160) :
    let r := d.store.record line.slot
    let q := spaceFor d.composer.params kind font lens hs line.x
    d.takeSpace t line kind =
      (d.withRecord line.slot { r with
        items := r.items ++ [.space q]
        flags := { r.flags with sizeSubstituted := r.flags.sizeSubstituted || decide (hs ≠ d.composer.params.size) }
        }).withPhase (.opened (line.widen q)) := by
  have within : ¬Config.lineSpaces ≤ (spacesOf (d.store.record line.slot).items).length := not_le.mpr room
  have shown : (hs != d.composer.params.size) = decide (hs ≠ d.composer.params.size) := by
    rw [bne, beq_eq_decide, ← decide_not]
  simp only [Desk.takeSpace, keep, Bool.false_eq_true, if_false, within, resolve, hfont, shown]
  congr 2
  cases kind <;> simp [OpenLine.widen, spaceFor, Space.justifiable, spaceUnits]

/-- With no line open a justifiable space is dropped (R59). -/
theorem Desk.spaceAfterWord_dropped (idle : d.composer.phase = .idle)
    (justifiable : kind = .interword ∨ kind = .noBreak) (code : Instr) : d.spaceAfterWord t code kind = d := by
  simp only [Desk.spaceAfterWord, idle, if_pos justifiable]

/-- With no line open a fixed space waits for a slot where none is FREE (R61). -/
theorem Desk.spaceAfterWord_waits (idle : d.composer.phase = .idle) (fixed : kind = .thin ∨ kind = .en ∨ kind = .em)
    (full : d.store.lowestFree = none) (code : Instr) : d.spaceAfterWord t code kind = d.wait (.code code) := by
  have plain : ¬(kind = .interword ∨ kind = .noBreak) := by rcases fixed with rfl | rfl | rfl <;> simp
  simp only [Desk.spaceAfterWord, idle, if_neg plain, Desk.openLine_of_full full]

/-- With no line open a fixed space opens one in the lowest FREE slot, and stands on it as its first item (R59, R60). -/
theorem Desk.spaceAfterWord_opens (idle : d.composer.phase = .idle) (fixed : kind = .thin ∨ kind = .en ∨ kind = .em)
    {i : Nat} (free : d.store.lowestFree = some i) {font lens hs : Nat} (hfont : d.composer.params.font = some font)
    (resolve : t.resolve d.composer.params.size = some (lens, hs)) (code : Instr) :
    let q := spaceFor d.composer.params kind font lens hs ((d.composer.params.lineStart : Int) * 48)
    d.spaceAfterWord t code kind =
      { d with
        composer := { d.composer with
          phase := .opened ⟨i, q.after, 0, 0, 0⟩
          adjust := 0
          columnMark := false
          counter := nextNumber d.composer.counter }
        store := d.store.putSlot i ⟨.filling, { d.composer.textRecord with
          flags := { LineFlags.none with sizeSubstituted := decide (hs ≠ d.composer.params.size) }
          items := [.space q] }⟩ } := by
  intro q
  have small := (lowestFree_spec free).1
  have plain : ¬(kind = .interword ∨ kind = .noBreak) := by rcases fixed with rfl | rfl | rfl <;> simp
  have record := d.openedIn_record small
  have keep : spaceDropped kind 0 (d.composer.textRecord).items.getLast? = false := by
    rcases fixed with rfl | rfl | rfl <;> rfl
  have room : (spacesOf d.composer.textRecord.items).length < 160 := Nat.zero_lt_succ _
  have joined := Desk.takeSpace_joins (d := d.openedIn i) (line := d.composer.freshLine i) hfont resolve
    (record ▸ keep) (record ▸ room)
  have wide : (d.composer.freshLine i).widen
      (spaceFor (d.openedIn i).composer.params kind font lens hs (d.composer.freshLine i).x) =
      ⟨i, q.after, 0, 0, 0⟩ := by
    rcases fixed with rfl | rfl | rfl <;> simp [q, Composer.freshLine, OpenLine.widen, spaceFor, spaceUnits]
  simp only [Desk.spaceAfterWord, idle, if_neg plain, Desk.openLine_eq free]
  rw [joined, wide, Desk.withPhase, Desk.openedIn_withRecord d small, record]
  rfl

end Spaces

/-! ### The statement of a space (R59 to R62, R66 to R70) -/

/-- A space that can be set, delivered: what its taking leaves on the desk. -/
theorem exec_space_of_canSet {c : Instr} {kind : SpaceKind} {s u : State} {d : Desk} (sets : SetsSpace c kind)
    (takes : Takes c s u) (canSet : CanSet u) (h : u.desk.takeEnding u.tables u.dict c = d) :
    exec c s = .next (u.withDesk d).runOut :=
  (exec_setsSpace sets s).trans
    (deliver_onDesk takes ((whenSettable_of_canSet canSet fun d => d.takeEnding u.tables u.dict c).trans h))

/-- Which spaces are dropped, by the item before them (R66, R67). -/
theorem spaceDropped_eq (kind : SpaceKind) (glyphs : Nat) (last : Option LineItem) :
    spaceDropped kind glyphs last =
      let afterInterword : Bool := match last with
        | some (.space q) => decide (q.kind = .interword)
        | _ => false
      match kind with
      | .interword => decide (glyphs = 0) || afterInterword
      | .noBreak => decide (glyphs = 0)
      | _ => false := by
  cases kind with
  | interword => rcases last with _ | ⟨g⟩ | ⟨q⟩ <;> rfl
  | noBreak => rfl
  | thin => rfl
  | en => rfl
  | em => rfl

theorem spaceUnits_eq (p : Params) (kind : SpaceKind) :
    spaceUnits p kind = match kind with
      | .thin => (24, 24, 24)
      | .en => (48, 48, 48)
      | .em => (96, 96, 96)
      | _ => (p.spaceMin, p.spaceNormal, p.spaceMax) := by
  cases kind <;> rfl

/-- A space on the open line: the word settles, then the space is taken on the line. -/
theorem Desk.takeEnding_space_of_opened {t : Tables} {dict : List DictEntry} {d : Desk} {line : OpenLine} {c : Instr}
    {kind : SpaceKind} (sets : SetsSpace c kind) (phase : d.composer.phase = .opened line) :
    d.takeEnding t dict c = (d.settleWord line).takeSpace t line kind := by
  have settled : (d.settleWord line).composer.phase = .opened line := phase
  rw [Desk.takeEnding_of_opened _ _ _ phase, Desk.afterWord_setsSpace sets]
  simp only [Desk.spaceAfterWord, settled]

/-- DISCRETIONARY HYPHEN marks the gap after a glyph once (R70). -/
theorem Desk.markDiscretionary_eq (d : Desk) :
    let w := d.composer.word
    d.markDiscretionary = { d with composer := { d.composer with word := { w with
      marks := if w.glyphs = [] ∨ w.glyphs.length ∈ w.marks then w.marks else w.marks ++ [w.glyphs.length] } } } := by
  simp only [Desk.markDiscretionary, List.isEmpty_iff, List.contains_iff_mem]
  by_cases none : d.composer.word.glyphs = [] ∨ d.composer.word.glyphs.length ∈ d.composer.word.marks
  · simp only [if_pos none]
  · simp only [if_neg none]

/-- Settles O18: the space with no line open, out of WAIT SLOT, and on the open line by whether it is dropped, too many,
or joins; then the two marks. -/
theorem spaceJoinsTheOpenLine : Obligations.SpaceJoinsTheOpenLine := by
  unfold Obligations.SpaceJoinsTheOpenLine
  intro opens
  have opened {u : State} (idle : u.composer.phase = .idle) (c : Instr) {kind : SpaceKind}
      (fixed : kind = .thin ∨ kind = .en ∨ kind = .em) {i : Nat} (free : LowestFree u i) :
      opens u i kind (u.withDesk (u.desk.spaceAfterWord u.tables c kind)) := by
    intro font lens hs hfont resolve p width after
    have left := Desk.spaceAfterWord_opens (d := u.desk) idle fixed (lowestFree_of free) hfont resolve c
    have start : ((u.desk.composer.params.lineStart : Nat) : Int) * 48 = (p.left : Int) * 10 * 48 :=
      congrArg (· * 48) (Nat.cast_mul _ _)
    have space : spaceFor p kind font lens hs ((p.left : Int) * 10 * 48) =
        { kind := kind, font := font, lens := lens, hs := hs, minimum := width, normal := width, maximum := width
          extra := 0, after := after } := by
      rcases fixed with rfl | rfl | rfl <;> rfl
    rw [left, start, show u.desk.composer.params = p from rfl, space]
    rfl
  refine ⟨fun c kind s u sets takes idle canSet => ?_, fun c kind s i sets fixed waits canSet free => ?_,
    fun c kind s u line font lens hs sets takes phase small canSet hfont resolve => ?_, fun s u takes => ?_,
    fun s u takes => deliver_of_takes takes _⟩
  · have taken := Desk.takeEnding_of_idle u.tables u.dict c (d := u.desk) idle
    rw [Desk.afterWord_setsSpace sets] at taken
    refine ⟨fun justifiable => ?_, fun fixed => ⟨fun i free => ⟨_, ?_, exec_space_of_canSet sets takes canSet taken⟩,
      fun full => ?_⟩⟩
    · exact exec_space_of_canSet sets takes canSet (taken.trans (Desk.spaceAfterWord_dropped idle justifiable c))
    · exact opened idle c fixed free
    · rw [exec_space_of_canSet sets takes canSet
        (taken.trans (Desk.spaceAfterWord_waits idle fixed (lowestFree_of_noneFree full) c)), runOut_of_waitSlot rfl]
      rfl
  · exact ⟨_, opened (u := resting s) rfl c fixed free,
      exec_waitSlotResume_of_free waits free (Desk.resumeHeld_setsSpace sets _ _ _)⟩
  · extract_lets p r items afterInterword dropped widths lo mid hi _ settled
    have taken : u.desk.takeEnding u.tables u.dict c = settled.desk.takeSpace u.tables line kind :=
      Desk.takeEnding_space_of_opened sets phase
    have record : settled.desk.store.record line.slot = { r with items := items } := record_putRecord_same _ small _
    have drops : spaceDropped kind line.glyphs (settled.desk.store.record line.slot).items.getLast? = dropped := by
      rw [record]
      exact spaceDropped_eq ..
    have rewritten (q : LineRecord) : settled.desk.withRecord line.slot q =
        { settled.desk with store := u.store.putRecord line.slot q } :=
      congrArg (fun store => { settled.desk with store := store }) (putRecord_putRecord _ small _ _)
    refine ⟨fun drop => ?_, fun keep full => ?_, fun keep room => ?_⟩
    · exact exec_space_of_canSet sets takes canSet (taken.trans (Desk.takeSpace_dropped (drops.trans drop)))
    · have overset := Desk.takeSpace_full (t := u.tables) (drops.trans keep) (by rw [record]; exact full)
      rw [record, rewritten] at overset
      exact exec_space_of_canSet sets takes canSet (taken.trans overset)
    · have joined := Desk.takeSpace_joins (t := u.tables) hfont resolve (drops.trans keep) (by rw [record]; exact room)
      have space : spaceFor p kind font lens hs line.x =
          { kind := kind, font := font, lens := lens, hs := hs, minimum := lo, normal := mid, maximum := hi
            extra := 0, after := line.x + mid } := by
        rw [spaceFor, spaceUnits_eq]
        rfl
      rw [record] at joined
      dsimp only at joined
      rw [rewritten, show settled.desk.composer.params = p from rfl, space] at joined
      exact exec_space_of_canSet sets takes canSet (taken.trans joined)
  · exact deliver_onDesk (f := fun _ _ d => d.markDiscretionary) takes (Desk.markDiscretionary_eq u.desk)

/-! ### A character that opens a line (R59 to R61) -/

/-- Where a code can be set, a glyph is made of it on any open line (R62 to R64). -/
theorem Desk.makeGlyph_of_canSet {u : State} (canSet : CanSet u) {d : Desk}
    (params : d.composer.params = u.composer.params) (line : OpenLine) (code : Option Byte) :
    ∃ g, d.makeGlyph u.tables line code = some g := by
  obtain ⟨font, e, lens, hs, hfont, entry, resolve⟩ := resolve_of_canSet canSet u.composer.params.size
  unfold Desk.makeGlyph
  simp only [params, hfont, entry, resolve]
  exact ⟨_, rfl⟩

/-- A character with no line open: a line with its flags in the lowest FREE slot, and the word begun with its glyph. -/
theorem Desk.takeGlyph_opens {t : Tables} {d : Desk} {code : Option Byte} {g : Glyph} {i : Nat}
    (idle : d.composer.phase = .idle) (noWord : d.composer.word.glyphs = []) (free : d.store.lowestFree = some i)
    (made : (d.openedIn i).makeGlyph t (d.composer.freshLine i) code = some g) (dict : List DictEntry) (item : Instr) :
    ∃ phase, phase.openSlot = some i ∧
      d.takeGlyph t dict code item =
        { d with
          composer := { d.composer with
            phase := phase, word := ⟨[g], [], d.composer.noHyphenate⟩, noHyphenate := false, manualKern := 0
            adjust := 0, columnMark := false, counter := nextNumber d.composer.counter }
          store := d.store.putSlot i ⟨.filling, { d.composer.textRecord with flags := LineFlags.none.gather g }⟩ } := by
  have small := (lowestFree_spec free).1
  have begins : (d.openedIn i).composer.word.glyphs.isEmpty = true := List.isEmpty_iff.mpr noWord
  have short : (d.openedIn i).composer.word.glyphs.length < 47 := by
    rw [List.isEmpty_iff.mp begins]
    decide
  have taken : d.takeGlyph t dict code item = (d.openedIn i).joinGlyph (d.composer.freshLine i) false g := by
    simp only [Desk.takeGlyph, idle, Desk.openLine_eq free]
    exact (Desk.setGlyph_of_made made).trans (if_pos short)
  refine ⟨if (d.openedIn i).fullWith (d.composer.freshLine i) false g
    then .overflowed ((d.composer.freshLine i).further g)
    else .opened ((d.composer.freshLine i).further g), ?_, taken.trans ?_⟩
  · split <;> rfl
  · unfold Desk.joinGlyph
    rw [Composer.bufferGlyph_eq, if_pos begins, if_pos begins]
    dsimp only
    rw [Desk.openedIn_withRecord d small, Desk.openedIn_record d small]
    rfl

theorem exec_glyph_of_canSet {c : Instr} {code : Option Byte} {s u : State} (sets : SetsGlyph c code)
    (takes : Takes c s u) (canSet : CanSet u) :
    exec c s = .next (u.withDesk (u.desk.takeGlyph u.tables u.dict code c)).runOut := by
  have delivered : exec c s =
      deliver c (fun s => s.onDesk fun t dict d => d.whenSettable t fun d => d.takeGlyph t dict code c) s := by
    rcases sets with ⟨rfl, rfl⟩ | ⟨b, rfl, rfl⟩ <;> rfl
  exact delivered.trans (deliver_onDesk takes (whenSettable_of_canSet canSet _))

/-- What the end of formats leaves: the Intake apart, the state as it was. -/
theorem answersWith_runOut {s : State} {p : State → Prop} (hp : ∀ intake, p { s with intake := intake }) :
    AnswersWith (.next s.runOut) p := by
  obtain ⟨mode, sources, frame⟩ := runOut_frame s
  exact ⟨_, rfl, frame ▸ hp _⟩

/-- Settles O17: the character at the take and out of WAIT SLOT, with a slot FREE or none. -/
theorem characterOpensALine : Obligations.CharacterOpensALine := by
  unfold Obligations.CharacterOpensALine
  intro opens
  have opened {u : State} (code : Option Byte) (canSet : CanSet u) (idle : u.composer.phase = .idle)
      (noWord : u.composer.word.glyphs = []) {i : Nat} (free : LowestFree u i) (item : Instr) (intake : Intake) :
      opens u i { u.withDesk (u.desk.takeGlyph u.tables u.dict code item) with intake := intake } := by
    obtain ⟨g, made⟩ := Desk.makeGlyph_of_canSet canSet (d := u.desk.openedIn i) rfl (u.desk.composer.freshLine i) code
    obtain ⟨phase, onLine, taken⟩ := Desk.takeGlyph_opens idle noWord (lowestFree_of free) made u.dict item
    simp only [taken]
    refine ⟨⟨_, ⟨slot_putSlot_same _ _ free.1, fun j other => slot_putSlot_ne _ _ (Ne.symm other)⟩, ?_⟩, onLine, ?_⟩
    · exact ⟨rfl, rfl, rfl, rfl, rfl, rfl, rfl, rfl⟩
    · exact ⟨rfl, rfl, rfl, rfl, rfl, rfl, rfl, rfl, rfl, rfl, rfl⟩
  refine ⟨fun c code s u sets takes idle noWord canSet => ⟨fun i free => ?_, fun full => ?_⟩,
    fun c code s sets waits noWord canSet => ⟨fun i free => ?_, fun full => exec_waitSlotResume_of_full waits full⟩⟩
  · rw [exec_glyph_of_canSet sets takes canSet]
    exact answersWith_runOut (opened code canSet idle noWord free c)
  · have held : u.desk.takeGlyph u.tables u.dict code c = u.desk.wait (.code c) := by
      simp only [Desk.takeGlyph, show u.desk.composer.phase = .idle from idle,
        Desk.openLine_of_full (d := u.desk) (lowestFree_of_noneFree full)]
    rw [exec_glyph_of_canSet sets takes canSet, held, runOut_of_waitSlot rfl]
    rfl
  · have resumed : (resting s).desk.resumeHeld s.tables s.dict (.code c) =
        (resting s).desk.takeGlyph s.tables s.dict code c := by
      rcases sets with ⟨rfl, rfl⟩ | ⟨b, rfl, rfl⟩ <;> rfl
    rw [exec_waitSlotResume_of_free waits free resumed]
    exact answersWith_runOut (opened (u := resting s) code canSet rfl noWord free c)

end Sys2Proof.Machine
end

section
/-! PROOFS. The break decision (`BreakDecisionKeepsEveryGlyphAndFits`): the order of a word's candidates, what a
candidate keeps, which break is taken, and what every break taken leaves of the line. -/

namespace Sys2Proof.Machine

open Sys2Proof Sys2Proof.Safety

/-! ### The order of a word's candidates (R91, R93, R94) -/

/-- The gaps of a hyphenation word stand for gaps that rise along the word. -/
def RisingGaps (gaps : List (Bool × Nat)) : Prop := gaps.Pairwise fun a b => a.2 < b.2

theorem hyphenRun_rising (pos : Nat) (glyphs : List GlyphClass) :
    RisingGaps (hyphenRun pos glyphs).gaps ∧ ∀ g ∈ (hyphenRun pos glyphs).gaps, pos ≤ g.2 := by
  induction pos, glyphs using hyphenRun.induct with
  | case1 pos e rest ih =>
    obtain ⟨rising, above⟩ := ih
    simp only [hyphenRun]
    refine ⟨List.pairwise_cons.mpr ⟨fun g hg => above g hg, rising⟩, fun g hg => ?_⟩
    rcases List.mem_cons.mp hg with rfl | hg
    · exact Nat.le_refl _
    · exact (Nat.le_succ pos).trans (above g hg)
  | case2 pos e rest ih =>
    obtain ⟨rising, above⟩ := ih
    simp only [hyphenRun]
    refine ⟨List.pairwise_cons.mpr ⟨fun g hg => above g hg, rising⟩, fun g hg => ?_⟩
    rcases List.mem_cons.mp hg with rfl | hg
    · exact Nat.le_succ _
    · exact (Nat.le_add_right pos 2).trans (above g hg)
  | case3 glyphs pos notLetter notHyphen =>
    have stops : hyphenRun pos glyphs = ⟨[], []⟩ := by
      unfold hyphenRun
      split
      · next e rest => exact absurd rfl (notLetter e rest)
      · next e rest => exact absurd rfl (notHyphen e rest)
      · rfl
    simp [stops, RisingGaps]

theorem hyphenWordFrom_rising {pos : Nat} {glyphs : List GlyphClass} {w : HyphenWord}
    (h : hyphenWordFrom pos glyphs = some w) : RisingGaps w.gaps := by
  induction glyphs generalizing pos with
  | nil => exact nomatch h
  | cons g rest ih =>
    cases g with
    | letter e =>
      obtain rfl : _ = w := Option.some.inj h
      exact (hyphenRun_rising pos rest).1
    | hyphen => exact ih h
    | other => exact ih h

/-- Candidates chosen from the gaps of a hyphenation word rise along the word as the gaps do. -/
theorem chosen_rising {w : HyphenWord} (rising : RisingGaps w.gaps) {choose : (Bool × Nat) × Nat → Option Candidate}
    (place : ∀ x c, choose x = some c → c.gap = x.1.2) :
    (w.numbered.filterMap choose).Pairwise fun a b => a.gap < b.gap := by
  have numbered : w.numbered.Pairwise fun a b => a.1.2 < b.1.2 := by
    have gaps : (w.numbered.map Prod.fst).Pairwise fun a b => a.2 < b.2 := by
      rw [HyphenWord.numbered, List.zipIdx_map_fst]
      exact rising
    exact (List.pairwise_map (R := fun a b : Bool × Nat => a.2 < b.2)).mp gaps
  refine numbered.filterMap _ fun a b lt c hc e he => ?_
  rw [place a c hc, place b e he]
  exact lt

theorem eligible_rising (p : Params) (t : Tables) (d : List DictEntry) {w : HyphenWord} (rising : RisingGaps w.gaps) :
    (eligible p t d w).Pairwise fun a b => a.gap < b.gap := by
  unfold eligible
  split
  · exact chosen_rising rising fun x c h => by grind
  · split
    · exact .nil
    · split
      · exact .nil
      · split
        · exact chosen_rising rising fun x c h => by grind
        · exact chosen_rising rising fun x c h => by grind

/-- The candidates of a word whose marks rise, rise along the word. -/
theorem candidates_rising (p : Params) (ladder : Nat) (t : Tables) (d : List DictEntry) {w : Word}
    (marks : w.marks.Pairwise (· < ·)) : (candidates p ladder t d w).Pairwise fun a b => a.gap < b.gap := by
  unfold candidates
  split
  · exact .nil
  · split
    · exact .nil
    · split
      · exact .nil
      · split
        · exact List.pairwise_map.mpr (marks.filter _)
        · split
          · exact .nil
          · next h hyphenated => exact eligible_rising p t d (hyphenWordFrom_rising hyphenated)

/-! ### The last of a list (R72, R73) -/

/-- A search from the right finds the last element that answers. -/
theorem findSome?_reverse_of_last {α β : Type} {f : α → Option β} {l : List α} {i : Nat} {a : α} {b : β}
    (at_i : l[i]? = some a) (answers : f a = some b) (later : ∀ j c, i < j → l[j]? = some c → f c = none) :
    l.reverse.findSome? f = some b := by
  obtain ⟨small, rfl⟩ := List.getElem?_eq_some_iff.mp at_i
  have rest : (l.drop (i + 1)).reverse.findSome? f = none := by
    rw [List.findSome?_eq_none_iff]
    intro c hc
    obtain ⟨j, hj⟩ := List.mem_iff_getElem?.mp (List.mem_reverse.mp hc)
    rw [List.getElem?_drop] at hj
    exact later _ c (by omega) hj
  have split : l.reverse = (l.drop (i + 1)).reverse ++ l[i] :: (l.take i).reverse := by
    have whole : l.take i ++ l[i] :: l.drop (i + 1) = l := by
      rw [← List.drop_eq_getElem_cons small, List.take_append_drop]
    conv_lhs => rw [← whole]
    simp
  rw [split, List.findSome?_append, rest, Option.none_or, List.findSome?_cons, answers]

theorem find?_reverse_range_of_last {p : Nat → Bool} {bound n : Nat} (small : n < bound) (holds : p n = true)
    (later : ∀ m, n < m → m < bound → p m = false) : (List.range bound).reverse.find? p = some n := by
  induction bound with
  | zero => exact absurd small (Nat.not_lt_zero n)
  | succ bound ih =>
    rw [List.range_succ, List.reverse_append, List.reverse_singleton, List.singleton_append]
    by_cases last : n = bound
    · subst last
      exact List.find?_cons_of_pos holds
    · rw [List.find?_cons_of_neg (by simp [later bound (by omega) (by omega)])]
      exact ih (by omega) fun m lt le => later m lt (by omega)

/-! ### The fit test (R72) -/

/-- A line that ends after `g` with `width` more fits its boundary and, with `n` glyphs, its capacity (R72). -/
def FitsAt (mr : Nat) (g : Glyph) (width : Int) (n : Nat) : Prop :=
  (g.after + width - g.shrinkAt + 24) / 48 ≤ (mr : Int) ∧ n ≤ 160

theorem fitsPlain_iff (mr : Nat) (g : Glyph) (n : Nat) : fitsPlain mr g n = true ↔ FitsAt mr g 0 n := by
  simp only [fitsPlain, Bool.and_eq_true, decide_eq_true_eq, FitsAt, Int.add_zero]
  exact Iff.rfl

theorem fitsHyphen_iff (mr : Nat) (g h : Glyph) (n : Nat) :
    fitsHyphen mr g h n = true ↔ FitsAt mr g (h.advance * h.hs * 5) (n + 1) := by
  simp only [fitsHyphen, Bool.and_eq_true, decide_eq_true_eq, FitsAt]
  exact Iff.rfl

/-- The hyphen glyph added after `g`: the font's hyphen with `g`'s setting values, right after it (R72, R73). -/
theorem hyphenAfter_eq_some_iff (t : Tables) (p : Params) (mr : Nat) (g h : Glyph) :
    hyphenAfter t p mr g = some h ↔ ∃ e, t.entry g.font = some e ∧ (t.widthSlot e.slot).valid = true ∧
      let position := tabGet (t.widthSlot e.slot).info 0 0
      let advance := (((tabGet (t.widthSlot e.slot).widths 0 position : Nat) : Int) + p.track).toNat
      h = { g with
        code := none, role := .addedHyphen, position := position, manualPart := 0, pairPart := 0, advance := advance
        x := min ((max 0 g.after + 24) / 48).toNat mr, after := max 0 g.after + advance * g.hs * 5 } := by
  have placed (position advance : Nat) : Glyph.place
      { g with code := none, position := position, role := .addedHyphen, manualPart := 0, pairPart := 0
               advance := advance } mr g.after g.shrinkAt 0 =
      { g with
        code := none, role := .addedHyphen, position := position, manualPart := 0, pairPart := 0, advance := advance
        x := min ((max 0 g.after + 24) / 48).toNat mr, after := max 0 g.after + advance * g.hs * 5 } := by
    simp [Glyph.place, fine, nearestStep]
  unfold hyphenAfter
  cases t.entry g.font with
  | none => simp
  | some e =>
    by_cases valid : (t.widthSlot e.slot).valid = true
    · simp only [valid, if_true, placed, Option.some.injEq, exists_eq_left', true_and, advanceOf]
      exact eq_comm
    · simp [valid]

/-! ### What a candidate keeps (R72, R73) -/

/-- A break after the first `n` items fits, with an added hyphen or without, and keeps these items. -/
def BreakKeeps (t : Tables) (p : Params) (mr : Nat) (items : List LineItem) (n : Nat) (adds : Bool)
    (kept : List LineItem) : Prop :=
  ∃ g, (items.take n).getLast? = some (.glyph g) ∧
    if adds = true then
      ∃ h, hyphenAfter t p mr g = some h ∧
        FitsAt mr g (h.advance * h.hs * 5) ((glyphsOf (items.take n)).length + 1) ∧ kept = items.take n ++ [.glyph h]
    else FitsAt mr g 0 (glyphsOf (items.take n)).length ∧ kept = items.take n

theorem tryCandidate_eq_some_iff (t : Tables) (p : Params) (mr : Nat) (items : List LineItem) (n : Nat) (adds : Bool)
    (cut : Cut) :
    tryCandidate t p mr items n adds = some cut ↔
      ∃ kept, BreakKeeps t p mr items n adds kept ∧ cut = ⟨kept, items.drop n, true, false, false⟩ := by
  unfold tryCandidate BreakKeeps
  cases last : (items.take n).getLast? with
  | none => simp [last]
  | some i =>
    cases i with
    | space q => simp [last]
    | glyph g =>
      simp only [last]
      cases adds with
      | true =>
        cases added : hyphenAfter t p mr g with
        | none => simp [added]
        | some h => simpa [added, fitsHyphen_iff] using fun _ => eq_comm
      | false => simpa [fitsPlain_iff] using fun _ => eq_comm

/-- A candidate of the word is tried after the items of the line that end with its glyph (R73, R76). -/
def CandidateKeeps (t : Tables) (p : Params) (mr : Nat) (items : List LineItem) (length gone : Nat) (c : Candidate)
    (kept : List LineItem) (n : Nat) : Prop :=
  gone < c.gap ∧ c.gap < length ∧ n = items.length - (length - c.gap) ∧ BreakKeeps t p mr items n c.addsHyphen kept

section Candidates

variable {t : Tables} {p : Params} {mr : Nat} {items : List LineItem} {length gone : Nat} {cs : List Candidate}

/-- One candidate tried, with its place on the line. -/
def tryOne (t : Tables) (p : Params) (mr : Nat) (items : List LineItem) (length gone : Nat) (c : Candidate) :
    Option Cut :=
  if gone < c.gap ∧ c.gap < length then
    tryCandidate t p mr items (items.length - (length - c.gap)) c.addsHyphen
  else none

theorem tryCandidates_eq : tryCandidates t p mr items length gone cs =
    cs.reverse.findSome? (tryOne t p mr items length gone) := rfl

theorem tryOne_eq_some_iff (c : Candidate) (cut : Cut) :
    tryOne t p mr items length gone c = some cut ↔ ∃ kept n, CandidateKeeps t p mr items length gone c kept n ∧
      cut = ⟨kept, items.drop n, true, false, false⟩ := by
  unfold tryOne CandidateKeeps
  by_cases inside : gone < c.gap ∧ c.gap < length
  · simp [inside, tryCandidate_eq_some_iff]
  · simp only [if_neg inside]
    grind

theorem tryOne_eq_none {c : Candidate} (h : ∀ kept n, ¬CandidateKeeps t p mr items length gone c kept n) :
    tryOne t p mr items length gone c = none := by
  rw [Option.eq_none_iff_forall_ne_some]
  intro cut tried
  obtain ⟨kept, n, keeps, -⟩ := (tryOne_eq_some_iff c cut).mp tried
  exact h kept n keeps

/-- The last candidate that keeps its items is the break taken. -/
theorem tryCandidates_of_last {i : Nat} {c : Candidate} {kept : List LineItem} {n : Nat} (at_i : cs[i]? = some c)
    (keeps : CandidateKeeps t p mr items length gone c kept n)
    (later : ∀ (j : Nat) c' k m, i < j → cs[j]? = some c' → ¬CandidateKeeps t p mr items length gone c' k m) :
    tryCandidates t p mr items length gone cs = some ⟨kept, items.drop n, true, false, false⟩ :=
  findSome?_reverse_of_last at_i ((tryOne_eq_some_iff c _).mpr ⟨kept, n, keeps, rfl⟩) fun j c' lt at_j =>
    tryOne_eq_none fun k m => later j c' k m lt at_j

theorem tryCandidates_of_none (h : ∀ c ∈ cs, ∀ kept n, ¬CandidateKeeps t p mr items length gone c kept n) :
    tryCandidates t p mr items length gone cs = none := by
  rw [tryCandidates_eq, List.findSome?_eq_none_iff]
  exact fun c hc => tryOne_eq_none (h c (List.mem_reverse.mp hc))

end Candidates

/-! ### The interword space and the forced break (R73, R74) -/

theorem getLast?_take_succ {items : List LineItem} {n : Nat} (small : n < items.length) :
    (items.take (n + 1)).getLast? = items[n]? := by
  rw [List.getLast?_take, if_neg (Nat.succ_ne_zero n), Nat.add_sub_cancel, List.getElem?_eq_getElem small]
  rfl

/-- Item `n` is a glyph after which a forced break fits. -/
def ForcedAt (mr : Nat) (items : List LineItem) (n : Nat) : Prop :=
  ∃ g, items[n]? = some (.glyph g) ∧ FitsAt mr g 0 (glyphsOf (items.take (n + 1))).length

theorem forcedFits_succ_iff (mr : Nat) {items : List LineItem} {n : Nat} (small : n < items.length) :
    forcedFits mr items (n + 1) = true ↔ ForcedAt mr items n := by
  unfold forcedFits ForcedAt
  rw [getLast?_take_succ small, List.getElem?_eq_getElem small]
  cases items[n] with
  | glyph g => simp [fitsPlain_iff]
  | space q => simp

theorem forcedFits_zero (mr : Nat) (items : List LineItem) : forcedFits mr items 0 = false := rfl

theorem ForcedAt.lt {mr : Nat} {items : List LineItem} {n : Nat} (h : ForcedAt mr items n) : n < items.length := by
  obtain ⟨g, at_n, -⟩ := h
  exact (List.getElem?_eq_some_iff.mp at_n).1

theorem forcedPlace_of_last {mr : Nat} {items : List LineItem} {n : Nat} (forced : ForcedAt mr items n)
    (later : ∀ m, n < m → ¬ForcedAt mr items m) : forcedPlace mr items = some (n + 1) := by
  refine find?_reverse_range_of_last (Nat.succ_lt_succ forced.lt) ((forcedFits_succ_iff mr forced.lt).mpr forced)
    fun m lt bound => ?_
  obtain ⟨k, rfl⟩ := Nat.exists_eq_succ_of_ne_zero (Nat.ne_zero_of_lt lt)
  rw [← Bool.not_eq_true]
  exact (forcedFits_succ_iff mr (Nat.lt_of_succ_lt_succ bound)).not.mpr (later k (Nat.lt_of_succ_lt_succ lt))

theorem forcedPlace_of_none {mr : Nat} {items : List LineItem} (none : ∀ n, ¬ForcedAt mr items n) :
    forcedPlace mr items = Option.none := by
  refine List.find?_eq_none.mpr fun m hm => ?_
  cases m with
  | zero => simp [forcedFits_zero]
  | succ k =>
    have small : k < items.length := by simpa using hm
    exact (forcedFits_succ_iff mr small).not.mpr (none k)

theorem forcedAt_of_place {mr : Nat} {items : List LineItem} {n : Nat} (h : forcedPlace mr items = some n) :
    ∃ k, n = k + 1 ∧ ForcedAt mr items k := by
  have fits := List.find?_some h
  have bound : n < items.length + 1 := by simpa using List.mem_of_find?_eq_some h
  cases n with
  | zero => exact absurd fits (by simp [forcedFits_zero])
  | succ k => exact ⟨k, rfl, (forcedFits_succ_iff mr (Nat.lt_of_succ_lt_succ bound)).mp fits⟩

/-- Item `n` is an interword space. -/
def InterwordAt (items : List LineItem) (n : Nat) : Prop := ∃ q, items[n]? = some (.space q) ∧ q.kind = .interword

theorem interwordAt_iff (items : List LineItem) (n : Nat) :
    InterwordAt items n ↔ ((items[n]?).map LineItem.isInterword).getD false = true := by
  unfold InterwordAt
  rcases items[n]? with _ | ⟨g⟩ | ⟨q⟩ <;> simp [LineItem.isInterword]

theorem lastInterword_of_last {items : List LineItem} {n : Nat} (here : InterwordAt items n)
    (later : ∀ m, n < m → ¬InterwordAt items m) : lastInterword items = some (n + 1) := by
  obtain ⟨q, at_n, -⟩ := id here
  refine Option.map_eq_some_iff.mpr ⟨n, find?_reverse_range_of_last (List.getElem?_eq_some_iff.mp at_n).1
    ((interwordAt_iff items n).mp here) fun m lt _ => ?_, rfl⟩
  rw [← Bool.not_eq_true]
  exact (interwordAt_iff items m).not.mp (later m lt)

theorem lastInterword_of_none {items : List LineItem} (none : ∀ n, ¬InterwordAt items n) :
    lastInterword items = Option.none :=
  Option.map_eq_none_iff.mpr (List.find?_eq_none.mpr fun n _ => (interwordAt_iff items n).not.mp (none n))

theorem firstGlyphPlace_eq {items : List LineItem} {n : Nat} {g : Glyph} (at_n : items[n]? = some (.glyph g))
    (first : (glyphsOf (items.take n)).length = 0) : firstGlyphPlace items = n + 1 := by
  induction items generalizing n with
  | nil => exact nomatch at_n
  | cons i items ih =>
    cases n with
    | zero =>
      obtain rfl : i = .glyph g := by simpa using at_n
      simp [firstGlyphPlace, LineItem.isGlyph]
    | succ n =>
      cases i with
      | glyph h => simp at first
      | space q =>
        have rest := ih (n := n) (by simpa using at_n) (by simpa using first)
        simpa [firstGlyphPlace, LineItem.isGlyph] using rest

/-! ### The break taken (R73, R74) -/

/-- Each break that a decision can take, with what it comes to. -/
inductive BreakTaken (t : Tables) (p : Params) (mr : Nat) (items : List LineItem) : Cut → Prop
  | candidate {n : Nat} {adds : Bool} {kept : List LineItem} (keeps : BreakKeeps t p mr items n adds kept) :
    BreakTaken t p mr items ⟨kept, items.drop n, true, false, false⟩
  | interword {n : Nat} (here : InterwordAt items n) :
    BreakTaken t p mr items ⟨items.take n, items.drop (n + 1), false, false, false⟩
  | forced {n : Nat} (plain : NoInterword items) (forced : ForcedAt mr items n) :
    BreakTaken t p mr items ⟨items.take (n + 1), items.drop (n + 1), false, true, false⟩
  | first (plain : NoInterword items) :
    BreakTaken t p mr items
      ⟨items.take (firstGlyphPlace items), items.drop (firstGlyphPlace items), false, false, true⟩

section Decision

variable {t : Tables} {d : List DictEntry} {p : Params} {ladder mr : Nat} {items : List LineItem} {w : Word}
  {gone : Nat}

theorem decideBreak_of_candidate {cut : Cut}
    (taken : tryCandidates t p mr items w.codes.length gone (candidates p ladder t d w) = some cut) :
    decideBreak t d p ladder mr items w gone = cut := by
  simp only [decideBreak, taken]

theorem decideBreak_of_interword {n : Nat}
    (untaken : tryCandidates t p mr items w.codes.length gone (candidates p ladder t d w) = none)
    (last : lastInterword items = some (n + 1)) :
    decideBreak t d p ladder mr items w gone = ⟨items.take n, items.drop (n + 1), false, false, false⟩ := by
  simp only [decideBreak, untaken, last, Nat.add_sub_cancel]

theorem decideBreak_of_forced {n : Nat}
    (untaken : tryCandidates t p mr items w.codes.length gone (candidates p ladder t d w) = none)
    (plain : lastInterword items = none) (forced : forcedPlace mr items = some n) :
    decideBreak t d p ladder mr items w gone = ⟨items.take n, items.drop n, false, true, false⟩ := by
  simp only [decideBreak, untaken, plain, forced]

theorem decideBreak_of_first
    (untaken : tryCandidates t p mr items w.codes.length gone (candidates p ladder t d w) = none)
    (plain : lastInterword items = none) (none : forcedPlace mr items = Option.none) :
    decideBreak t d p ladder mr items w gone =
      ⟨items.take (firstGlyphPlace items), items.drop (firstGlyphPlace items), false, false, true⟩ := by
  simp only [decideBreak, untaken, plain, none]

theorem lastInterword_succ {n : Nat} (h : lastInterword items = some n) : ∃ k, n = k + 1 ∧ InterwordAt items k := by
  obtain ⟨k, found, rfl⟩ := Option.map_eq_some_iff.mp h
  have holds := List.find?_some found
  exact ⟨k, rfl, (interwordAt_iff items k).mpr holds⟩

theorem decideBreak_taken (t : Tables) (d : List DictEntry) (p : Params) (ladder mr : Nat) (items : List LineItem)
    (w : Word) (gone : Nat) : BreakTaken t p mr items (decideBreak t d p ladder mr items w gone) := by
  cases tried : tryCandidates t p mr items w.codes.length gone (candidates p ladder t d w) with
  | some cut =>
    rw [decideBreak_of_candidate tried]
    obtain ⟨c, -, hc⟩ := List.exists_of_findSome?_eq_some tried
    obtain ⟨kept, n, ⟨-, -, -, keeps⟩, rfl⟩ := (tryOne_eq_some_iff c cut).mp hc
    exact .candidate keeps
  | none =>
    cases last : lastInterword items with
    | some n =>
      obtain ⟨k, rfl, here⟩ := lastInterword_succ last
      rw [decideBreak_of_interword tried last]
      exact .interword here
    | none =>
      have plain := lastInterword_none last
      cases place : forcedPlace mr items with
      | some n =>
        obtain ⟨k, rfl, forced⟩ := forcedAt_of_place place
        rw [decideBreak_of_forced tried last place]
        exact .forced plain forced
      | none =>
        rw [decideBreak_of_first tried last place]
        exact .first plain

end Decision

/-! ### What every break leaves of the line (R72 to R74) -/

section Taken

variable {t : Tables} {p : Params} {mr : Nat} {items : List LineItem} {cut : Cut}

theorem glyphsOf_take_drop (items : List LineItem) (n : Nat) :
    glyphsOf items = glyphsOf (items.take n) ++ glyphsOf (items.drop n) := by
  rw [← glyphsOf_append, List.take_append_drop]

theorem glyphsOf_drop_interword {n : Nat} (here : InterwordAt items n) :
    glyphsOf (items.drop n) = glyphsOf (items.drop (n + 1)) := by
  obtain ⟨q, at_n, -⟩ := here
  obtain ⟨small, same⟩ := List.getElem?_eq_some_iff.mp at_n
  rw [List.drop_eq_getElem_cons small, same, glyphsOf_cons_space]

/-- The glyphs kept and carried are the line's, but for one hyphen glyph added. -/
theorem BreakTaken.keepsGlyphs (h : BreakTaken t p mr items cut) :
    ∃ kept, glyphsOf items = glyphsOf kept ++ glyphsOf cut.carried ∧
      (cut.kept = kept ∨
        (cut.hyphenEnded = true ∧ ∃ g, cut.kept = kept ++ [.glyph g] ∧ g.role = .addedHyphen ∧ g.code = none)) := by
  cases h with
  | @candidate n adds kept keeps =>
    refine ⟨items.take n, glyphsOf_take_drop items n, ?_⟩
    obtain ⟨g, -, keeps⟩ := keeps
    split at keeps
    · obtain ⟨h, added, -, rfl⟩ := keeps
      obtain ⟨e, -, -, rfl⟩ := (hyphenAfter_eq_some_iff t p mr g h).mp added
      exact .inr ⟨rfl, _, rfl, rfl, rfl⟩
    · exact .inl keeps.2
  | @interword n here =>
    exact ⟨items.take n, by rw [glyphsOf_take_drop items n, glyphsOf_drop_interword here], .inl rfl⟩
  | @forced n plain forced => exact ⟨_, glyphsOf_take_drop items _, .inl rfl⟩
  | first plain => exact ⟨_, glyphsOf_take_drop items _, .inl rfl⟩

/-- A hyphen-ended or a forced line ends with a glyph that fits. -/
theorem BreakTaken.fits (h : BreakTaken t p mr items cut) (positive : ∀ g ∈ glyphsOf items, 0 ≤ g.after)
    (ends : cut.hyphenEnded = true ∨ cut.forced = true) :
    ∃ g, cut.kept.getLast? = some (.glyph g) ∧ FitsAt mr g 0 (glyphsOf cut.kept).length := by
  cases h with
  | @candidate n adds kept keeps =>
    obtain ⟨g, last, keeps⟩ := keeps
    split at keeps
    · obtain ⟨h, added, ⟨within, room⟩, rfl⟩ := keeps
      obtain ⟨e, -, -, rfl⟩ := (hyphenAfter_eq_some_iff t p mr g h).mp added
      have member : LineItem.glyph g ∈ items := List.mem_of_mem_take (List.mem_of_getLast? last)
      have start : 0 ≤ g.after := positive g (List.mem_filterMap.mpr ⟨_, member, rfl⟩)
      refine ⟨_, List.getLast?_concat, ?_, by simpa using room⟩
      simpa [max_eq_right start] using within
    · obtain ⟨fits, rfl⟩ := keeps
      exact ⟨g, last, fits⟩
  | interword here => exact absurd ends (by simp)
  | @forced n plain forced =>
    have small := forced.lt
    obtain ⟨g, at_n, fits⟩ := forced
    exact ⟨g, (getLast?_take_succ small).trans at_n, fits⟩
  | first plain => exact absurd ends (by simp)

theorem BreakTaken.plain (h : BreakTaken t p mr items cut) (ends : cut.forced = true ∨ cut.overset = true) :
    NoInterword items := by
  cases h with
  | candidate keeps => exact absurd ends (by simp)
  | interword here => exact absurd ends (by simp)
  | forced plain forced => exact plain
  | first plain => exact plain

theorem BreakTaken.overset_length (h : BreakTaken t p mr items cut) (overset : cut.overset = true) :
    (glyphsOf cut.kept).length ≤ 1 := by
  cases h with
  | candidate keeps => exact absurd overset (by simp)
  | interword here => exact absurd overset (by simp)
  | forced plain forced => exact absurd overset (by simp)
  | first plain => exact glyphsOf_take_firstGlyphPlace items

end Taken

/-- Settles O23: the break taken by the order of R73 and R74, and what every break taken leaves. -/
theorem breakDecisionKeepsEveryGlyphAndFits : Obligations.BreakDecisionKeepsEveryGlyphAndFits := by
  unfold Obligations.BreakDecisionKeepsEveryGlyphAndFits
  intro t d p ladder mr items w gone cut cs count fits hyphen takes none' forced interword
  have taken : BreakTaken t p mr items cut := decideBreak_taken ..
  have takes_iff (c : Candidate) (kept : List LineItem) (n : Nat) :
      takes c kept n ↔ CandidateKeeps t p mr items w.codes.length gone c kept n := by
    simp only [CandidateKeeps, BreakKeeps, hyphenAfter_eq_some_iff]
    exact Iff.rfl
  have untried (untaken : none') : tryCandidates t p mr items w.codes.length gone cs = none :=
    tryCandidates_of_none fun c hc kept n keeps => untaken c hc kept n ((takes_iff c kept n).mpr keeps)
  refine ⟨candidates_rising p ladder t d, fun i c kept n at_i keeps later => ?_, fun untaken n here later => ?_,
    fun untaken plain => ⟨fun n here later => ?_, fun unforced n g at_n first => ?_⟩, taken.keepsGlyphs,
    fun positive ends => ?_, taken.plain, taken.overset_length⟩
  · exact decideBreak_of_candidate (tryCandidates_of_last at_i ((takes_iff c kept n).mp keeps)
      fun j c' k m lt at_j keeps => later j c' k m lt at_j ((takes_iff c' k m).mpr keeps))
  · exact decideBreak_of_interword (untried untaken) (lastInterword_of_last here later)
  · exact decideBreak_of_forced (untried untaken) (lastInterword_of_none plain) (forcedPlace_of_last here later)
  · rw [← firstGlyphPlace_eq at_n first]
    exact decideBreak_of_first (untried untaken) (lastInterword_of_none plain) (forcedPlace_of_none unforced)
  · obtain ⟨g, last, within, room⟩ := taken.fits positive ends
    exact ⟨g, last, by simpa using within, room⟩

end Sys2Proof.Machine
end

section
/-! PROOFS. A carry list re-added to a new line (R64, R67, R76): which of its items are placed, and where each stands.
-/

namespace Sys2Proof.Machine

open Sys2Proof Sys2Proof.Safety

/-! ### The items placed (R67, R76) -/

def LineItem.isNoBreak : LineItem → Bool
  | .glyph _ => false
  | .space q => decide (q.kind = .noBreak)

/-- The items of a carry list that are placed: all but the no-break spaces before its first glyph (R67). -/
def placedOf (carried : List LineItem) : List LineItem :=
  let head := carried.takeWhile fun i => !i.isGlyph
  (head.filter fun i => !i.isNoBreak) ++ carried.drop head.length

@[simp] theorem placedOf_nil : placedOf [] = [] := rfl

@[simp] theorem placedOf_cons_glyph (g : Glyph) (l : List LineItem) : placedOf (.glyph g :: l) = .glyph g :: l := rfl

@[simp] theorem placedOf_cons_space (q : Space) (l : List LineItem) :
    placedOf (.space q :: l) = if q.kind = .noBreak then placedOf l else .space q :: placedOf l := by
  by_cases drop : q.kind = .noBreak <;> simp [placedOf, LineItem.isGlyph, LineItem.isNoBreak, drop]

theorem placedOf_concat (l : List LineItem) (i : LineItem) :
    placedOf (l ++ [i]) = if i.isNoBreak = true ∧ glyphsOf l = [] then placedOf l else placedOf l ++ [i] := by
  induction l with
  | nil => cases i <;> simp [LineItem.isNoBreak]
  | cons j l ih =>
    cases j with
    | glyph g => simp
    | space q =>
      simp only [List.cons_append, placedOf_cons_space, ih, glyphsOf_cons_space]
      split_ifs <;> rfl

theorem glyphsOf_placedOf (l : List LineItem) : glyphsOf (placedOf l) = glyphsOf l := by
  induction l with
  | nil => rfl
  | cons i l ih =>
    cases i with
    | glyph g => rfl
    | space q =>
      rw [placedOf_cons_space]
      split <;> simp [ih]

/-! ### Where each item stands (R64, R66, R76) -/

/-- The shrink and the stretch of the no-break spaces among some items. -/
def noBreakShrink (l : List LineItem) : Int :=
  ((spacesOf l).map fun q => if q.kind = .noBreak then q.normal - q.minimum else 0).sum

def noBreakStretch (l : List LineItem) : Int :=
  ((spacesOf l).map fun q => if q.kind = .noBreak then q.maximum - q.normal else 0).sum

/-- An item re-added after `done`, which stand for the items `before` of the carry list. -/
def LineItem.readd (ls mr : Nat) (done before : List LineItem) : LineItem → LineItem
  | .space q => .space { q with after := positionAfter ls done + q.normal }
  | .glyph g =>
    let pair := if glyphsOf before = [] then 0 else g.pairPart
    let x1 : Int := max 0 (positionAfter ls done + (g.manualPart + pair) * g.hs * 5)
    .glyph { g with
      pairPart := pair, x := min ((x1 + 24) / 48).toNat mr, after := x1 + g.advance * g.hs * 5
      shrinkAt := noBreakShrink before }

/-- Each item of `done` is the re-added item of `placed` in its place. -/
def Readded (ls mr : Nat) (placed done : List LineItem) : Prop :=
  done.length = placed.length ∧
    ∀ i (item : LineItem), placed[i]? = some item → done[i]? = some (item.readd ls mr (done.take i) (placed.take i))

theorem Readded.concat {ls mr : Nat} {placed done : List LineItem} (h : Readded ls mr placed done) (item : LineItem) :
    Readded ls mr (placed ++ [item]) (done ++ [item.readd ls mr done placed]) := by
  obtain ⟨length, each⟩ := h
  refine ⟨by simp [length], fun i other at_i => ?_⟩
  by_cases inside : i < placed.length
  · rw [List.getElem?_append_left inside] at at_i
    rw [List.getElem?_append_left (length ▸ inside), List.take_append_of_le_length inside.le,
      List.take_append_of_le_length (length ▸ inside.le)]
    exact each i other at_i
  · obtain rfl : i = placed.length := by
      have := (List.getElem?_eq_some_iff.mp at_i).1
      simp at this
      omega
    obtain rfl : item = other := by simpa using at_i
    rw [List.take_left' length, List.take_left, ← length, List.getElem?_concat_length]

/-- Some glyph of the items stands beyond the boundary, or is the 160th (R65). -/
def Overflowing (mr : Nat) (items : List LineItem) : Prop :=
  ∃ i g, items[i]? = some (.glyph g) ∧
    ((mr : Int) < (g.after - g.shrinkAt + 24) / 48 ∨ 160 ≤ (glyphsOf (items.take (i + 1))).length)

theorem overflowing_concat (mr : Nat) (items : List LineItem) (item : LineItem) :
    Overflowing mr (items ++ [item]) ↔ Overflowing mr items ∨ ∃ g, item = .glyph g ∧
      ((mr : Int) < (g.after - g.shrinkAt + 24) / 48 ∨ 160 ≤ (glyphsOf items).length + 1) := by
  have whole : (items ++ [item]).take (items.length + 1) = items ++ [item] := List.take_of_length_le (by simp)
  constructor
  · rintro ⟨i, g, at_i, beyond⟩
    by_cases inside : i < items.length
    · rw [List.getElem?_append_left inside] at at_i
      rw [List.take_append_of_le_length inside] at beyond
      exact .inl ⟨i, g, at_i, beyond⟩
    · obtain rfl : i = items.length := by
        have := (List.getElem?_eq_some_iff.mp at_i).1
        simp at this
        omega
      obtain rfl : item = .glyph g := by simpa using at_i
      rw [whole] at beyond
      exact .inr ⟨g, rfl, by simpa using beyond⟩
  · rintro (⟨i, g, at_i, beyond⟩ | ⟨g, rfl, beyond⟩)
    · have inside := (List.getElem?_eq_some_iff.mp at_i).1
      refine ⟨i, g, ?_, ?_⟩
      · rw [List.getElem?_append_left inside, at_i]
      · rwa [List.take_append_of_le_length inside]
    · refine ⟨items.length, g, by simp, ?_⟩
      rw [whole]
      simpa using beyond

/-! ### The line refilled -/

/-- What a line refilled from a carry list without interword spaces holds. -/
structure RefillHolds (ls mr : Nat) (carried : List LineItem) (r : Refill) : Prop where
  readded : Readded ls mr (placedOf carried) r.items
  overset : r.overset = false
  glyphs : r.glyphs = (glyphsOf carried).length
  spaces : (spacesOf r.items).length ≤ (spacesOf carried).length
  x : r.x = positionAfter ls r.items
  stretch : r.stretch = noBreakStretch (placedOf carried)
  shrink : r.shrink = noBreakShrink (placedOf carried)
  overflowed : r.overflowed = true ↔ Overflowing mr r.items

theorem refill_concat (ls mr : Nat) (l : List LineItem) (i : LineItem) :
    refill ls mr (l ++ [i]) = (refill ls mr l).add mr i := by
  simp [refill]

theorem positionAfter_concat (ls : Nat) (l : List LineItem) (i : LineItem) : positionAfter ls (l ++ [i]) = i.after := by
  simp [positionAfter]

section Adding

variable {ls mr : Nat} {carried : List LineItem} {r : Refill}

/-- A glyph takes its place after the items, the first of the line without its pair kern. -/
theorem RefillHolds.addGlyph (h : RefillHolds ls mr carried r) (count : (glyphsOf r.items).length = r.glyphs)
    (g : Glyph) : RefillHolds ls mr (carried ++ [.glyph g]) (r.add mr (.glyph g)) := by
  let pair := if r.glyphs = 0 then 0 else g.pairPart
  let g' := { g with pairPart := pair }.place mr r.x r.shrink (g.manualPart + pair)
  have added : r.add mr (.glyph g) = { r with
      items := r.items ++ [.glyph g'], x := g'.after, glyphs := r.glyphs + 1
      overflowed := r.overflowed || overflows mr g'.after r.shrink (r.glyphs + 1) } := rfl
  have readd : (LineItem.glyph g).readd ls mr r.items (placedOf carried) = .glyph g' := by
    simp only [LineItem.readd, g', pair, Glyph.place, ← h.x, h.shrink, h.glyphs, glyphsOf_placedOf,
      List.length_eq_zero_iff]
    rfl
  have placed : placedOf (carried ++ [.glyph g]) = placedOf carried ++ [.glyph g] := by
    simp [placedOf_concat, LineItem.isNoBreak]
  have beyond : overflows mr g'.after r.shrink (r.glyphs + 1) = true ↔
      (mr : Int) < (g'.after - g'.shrinkAt + 24) / 48 ∨ 160 ≤ (glyphsOf r.items).length + 1 := by
    simp only [overflows, Bool.or_eq_true, decide_eq_true_eq, count]
    exact Iff.rfl
  rw [added]
  refine ⟨?_, h.overset, ?_, ?_, ?_, ?_, ?_, ?_⟩
  · rw [placed, ← readd]
    exact h.readded.concat _
  · simp [h.glyphs]
  · simpa using h.spaces
  · exact (positionAfter_concat ls r.items (.glyph g')).symm
  · simpa [placed, noBreakStretch] using h.stretch
  · simpa [placed, noBreakShrink] using h.shrink
  · rw [overflowing_concat, ← h.overflowed, Bool.or_eq_true, beyond]
    simp

/-- A space takes its place after the items, unless it is a no-break space before the first glyph. -/
theorem RefillHolds.addSpace (h : RefillHolds ls mr carried r) {q : Space} (plain : q.kind ≠ .interword)
    (room : (spacesOf carried).length < 160) :
    RefillHolds ls mr (carried ++ [.space q]) (r.add mr (.space q)) := by
  have dropped : spaceDropped q.kind r.glyphs r.items.getLast? = true ↔
      (LineItem.space q).isNoBreak = true ∧ glyphsOf carried = [] := by
    rw [← List.length_eq_zero_iff, ← h.glyphs]
    cases kind : q.kind <;> simp_all [spaceDropped, LineItem.isNoBreak]
  have below : ¬Config.lineSpaces ≤ (spacesOf r.items).length := by
    have := h.spaces
    simp only [Config.lineSpaces]
    omega
  rw [Refill.add_space]
  by_cases drop : spaceDropped q.kind r.glyphs r.items.getLast? = true
  · have placed : placedOf (carried ++ [.space q]) = placedOf carried := by
      rw [placedOf_concat, if_pos (dropped.mp drop)]
    rw [if_pos drop]
    obtain ⟨readded, overset, glyphs, spaces, x, stretch, shrink, overflowed⟩ := h
    exact ⟨placed ▸ readded, overset, by simpa using glyphs, by simp; omega, x, placed ▸ stretch, placed ▸ shrink,
      overflowed⟩
  · have placed : placedOf (carried ++ [.space q]) = placedOf carried ++ [.space q] := by
      rw [placedOf_concat, if_neg (dropped.not.mp drop)]
    have justifiable : q.justifiable = decide (q.kind = .noBreak) := by simp [justifiable_eq, plain]
    rw [if_neg drop, if_neg below]
    refine ⟨?_, h.overset, ?_, ?_, ?_, ?_, ?_, ?_⟩
    · rw [placed]
      have readd := h.readded.concat (.space q)
      rw [LineItem.readd, ← h.x] at readd
      exact readd
    · simpa [Refill.addSpace] using h.glyphs
    · simpa [Refill.addSpace] using h.spaces
    · exact (positionAfter_concat ls r.items (.space { q with after := r.x + q.normal })).symm
    · by_cases noBreak : q.kind = .noBreak <;>
        simp [Refill.addSpace, justifiable, placed, noBreakStretch, h.stretch, noBreak]
    · by_cases noBreak : q.kind = .noBreak <;>
        simp [Refill.addSpace, justifiable, placed, noBreakShrink, h.shrink, noBreak]
    · simp [Refill.addSpace, overflowing_concat, h.overflowed]

end Adding

theorem refill_holds (ls mr : Nat) {carried : List LineItem} (plain : NoInterword carried)
    (room : (spacesOf carried).length ≤ 160) : RefillHolds ls mr carried (refill ls mr carried) := by
  induction carried using List.reverseRecOn with
  | nil => exact ⟨⟨rfl, nofun⟩, rfl, rfl, Nat.le_refl _, rfl, rfl, rfl, by simp [refill, Refill.start, Overflowing]⟩
  | append_singleton l i ih =>
    have before := plain.sublist (List.sublist_append_left l [i])
    rw [refill_concat]
    cases i with
    | glyph g =>
      exact (ih before (by simpa using room)).addGlyph (refill_bounded ls mr before).glyphs g
    | space q =>
      simp only [spacesOf_append, spacesOf_cons_space, spacesOf_nil, List.length_append, List.length_singleton] at room
      exact (ih before (by omega)).addSpace (plain q (by simp)) (by omega)

end Sys2Proof.Machine
end

section
/-! PROOFS. The end of a word in OVERFLOWED (`BreakDecisionClosesTheOverflowedLine`): a closed line over all that
follows it, the line that takes the carry, and the ending code on it. -/

namespace Sys2Proof.Machine

open Sys2Proof Sys2Proof.Safety

/-! ### A READY line over the code that follows (R71, R75, R76) -/

section Ready

variable {t : Tables} {dict : List DictEntry} {d e : Desk} {line : OpenLine} {i : Nat}

theorem KeepsReady.refl (i : Nat) (st : Store) : KeepsReady i st st := ⟨rfl, List.prefix_rfl⟩

theorem KeepsReady.ready {i : Nat} {a b : Store} (h : KeepsReady i a b) (ready : (a.slot i).state = .ready) :
    (b.slot i).state = .ready := by
  rw [h.1]
  exact ready

/-- A line opens beside the lines that are READY. -/
theorem Desk.openLine_keepsReady (ready : (d.store.slot i).state = .ready) (opened : d.openLine = some (e, line)) :
    e.composer.phase = .opened line ∧ line.slot ≠ i ∧ KeepsReady i d.store e.store := by
  have other : line.slot ≠ i := by
    rintro rfl
    rw [Desk.openLine_free opened] at ready
    exact nomatch ready
  obtain ⟨-, -, composer, store⟩ := Desk.openLine_some opened
  exact ⟨by rw [composer], other, store ▸ putSlot_keepsReady other _ _⟩

theorem Desk.takeSpace_keepsReady (other : line.slot ≠ i) (kind : SpaceKind) :
    KeepsReady i d.store (d.takeSpace t line kind).store := by
  unfold Desk.takeSpace
  dsimp only
  split
  · exact .refl i _
  · split
    · exact putSlot_keepsReady other _ _
    · split
      · exact putSlot_keepsReady other _ _
      · exact .refl i _

theorem Desk.spaceAfterWord_keepsReady (ready : (d.store.slot i).state = .ready)
    (other : d.composer.phase.openSlot ≠ some i) (code : Instr) (kind : SpaceKind) :
    KeepsReady i d.store (d.spaceAfterWord t code kind).store := by
  unfold Desk.spaceAfterWord
  split
  · next line phase =>
    rw [phase] at other
    exact Desk.takeSpace_keepsReady (fun same => other (congrArg some same)) kind
  · split
    · exact .refl i _
    · split
      · next e line opened =>
        obtain ⟨-, other, keeps⟩ := Desk.openLine_keepsReady ready opened
        exact keeps.trans (Desk.takeSpace_keepsReady other kind)
      · exact .refl i _
  · exact .refl i _

theorem Desk.endAfterWord_keepsReady (ready : (d.store.slot i).state = .ready)
    (other : d.composer.phase.openSlot ≠ some i) (code : Instr) (lastLine : Bool) :
    KeepsReady i d.store (d.endAfterWord code lastLine).store := by
  unfold Desk.endAfterWord
  split
  · next line phase =>
    rw [phase] at other
    exact close_keepsReady (fun same => other (congrArg some same)) _ _
  · split
    · next e line opened =>
      obtain ⟨-, other, keeps⟩ := Desk.openLine_keepsReady ready opened
      exact keeps.trans (close_keepsReady other _ _)
    · exact .refl i _
  · exact .refl i _

theorem Desk.closeForRecord_keepsReady (other : d.composer.phase.openSlot ≠ some i) :
    KeepsReady i d.store d.closeForRecord.store := by
  unfold Desk.closeForRecord
  split
  · next line phase =>
    rw [phase] at other
    exact close_keepsReady (fun same => other (congrArg some same)) _ _
  · exact .refl i _

/-- A CUT or a STOP DISC emits its record in a FREE slot, or waits. -/
theorem Desk.afterWord_emits_keepsReady {c : Instr} {cut : Bool} (emits : EmitsRecord c cut)
    (ready : (d.closeForRecord.store.slot i).state = .ready) :
    KeepsReady i d.closeForRecord.store (d.afterWord t c).store := by
  cases free : d.closeForRecord.store.lowestFree with
  | none =>
    rw [Desk.afterWord_waits emits t free]
    exact .refl i _
  | some j =>
    have other : j ≠ i := by
      rintro rfl
      rw [(lowestFree_spec free).2.1] at ready
      exact nomatch ready
    rw [Desk.afterWord_emits emits t free]
    exact close_keepsReady other _ _

/-- The code after a word touches the open line and FREE slots alone. -/
theorem Desk.afterWord_keepsReady (ready : (d.store.slot i).state = .ready)
    (other : d.composer.phase.openSlot ≠ some i) (code : Instr) :
    KeepsReady i d.store (d.afterWord t code).store := by
  have closes := Desk.closeForRecord_keepsReady other
  have emits {c : Instr} {cut : Bool} (h : EmitsRecord c cut) : KeepsReady i d.store (d.afterWord t c).store :=
    closes.trans (Desk.afterWord_emits_keepsReady h (closes.ready ready))
  unfold Desk.afterWord
  split
  · exact Desk.spaceAfterWord_keepsReady ready other _ _
  · exact Desk.spaceAfterWord_keepsReady ready other _ _
  · exact Desk.spaceAfterWord_keepsReady ready other _ _
  · exact Desk.spaceAfterWord_keepsReady ready other _ _
  · exact Desk.spaceAfterWord_keepsReady ready other _ _
  · exact Desk.endAfterWord_keepsReady ready other _ _
  · exact Desk.endAfterWord_keepsReady ready other _ _
  · exact emits (.inl ⟨rfl, rfl⟩)
  · exact emits (.inr ⟨rfl, rfl⟩)
  · exact .refl i _

theorem Desk.afterBreak_keepsReady (ready : (d.store.slot i).state = .ready)
    (other : d.composer.phase.openSlot ≠ some i) (ending : Option Instr) :
    KeepsReady i d.store (d.afterBreak t ending).store := by
  cases ending with
  | none => exact .refl i _
  | some code => exact Desk.afterWord_keepsReady ready other code

theorem Desk.closeLine_openSlot (d : Desk) (j : Nat) (r : LineRecord) (i : Nat) :
    (d.closeLine j r).composer.phase.openSlot ≠ some i := by
  simp [Desk.closeLine, Phase.openSlot]

end Ready

/-! ### The line closed at a break (R71, R75) -/

/-- The record of a line closed at a break decision: the items kept, with the decision's flags, in the quad mode. -/
def breakRecord (p : Params) (r : LineRecord) (cut : Cut) : LineRecord :=
  closeRecord p p.quad (positionAfter r.ls cut.kept) { r with
    items := cut.kept
    flags := { r.flags with
      hyphenEnded := r.flags.hyphenEnded || cut.hyphenEnded
      forced := r.flags.forced || cut.forced
      overset := r.flags.overset || cut.overset } }

theorem Desk.closeAtBreak_openSlot (d : Desk) (j : Nat) (cut : Cut) (i : Nat) :
    (d.closeAtBreak j cut).composer.phase.openSlot ≠ some i :=
  d.closeLine_openSlot j _ i

theorem Desk.closeAtBreak_eq (d : Desk) (slot : Nat) (cut : Cut) :
    d.closeAtBreak slot cut = d.closeLine slot (breakRecord d.composer.params (d.store.record slot) cut) := rfl

/-- What is carried from a line whose word stands at its end has no interword space. -/
theorem decideBreak_carried (t : Tables) (dict : List DictEntry) (p : Params) (ladder mr : Nat) {items : List LineItem}
    {w : Word} (gone : Nat) (word : NoInterword (items.drop (items.length - w.codes.length))) :
    NoInterword (decideBreak t dict p ladder mr items w gone).carried := by
  unfold decideBreak
  split
  · next cut tried =>
    obtain ⟨n, fromWord, carried, -⟩ := tryCandidates_some tried
    exact carried ▸ word.sublist (List.drop_sublist_drop_left items fromWord)
  · split
    · next n last => exact (lastInterword_some last).1
    · next none =>
      have plain := lastInterword_none none
      split
      · exact plain.sublist (List.drop_sublist _ _)
      · exact plain.sublist (List.drop_sublist _ _)

/-! ### The line that takes the carry (R75, R76, R82) -/

/-- The record of a line refilled from a carry list. -/
def Composer.carryRecord (c : Composer) (f : Refill) : LineRecord :=
  { c.textRecord with items := f.items, flags := { LineFlags.none with overset := f.overset } }

/-- The line a carry list makes with the boundaries in force. -/
def Composer.refilled (c : Composer) (carried : List LineItem) : Refill :=
  refill c.params.lineStart c.params.lineEnd carried

/-- The desk with a line just opened in slot `j` and refilled from a carry list. -/
def Desk.filledIn (d : Desk) (j : Nat) (f : Refill) : Desk :=
  { d.openedIn j with store := d.store.putSlot j ⟨.filling, d.composer.carryRecord f⟩ }

/-- The open line that a refilled line is. -/
def Refill.line (f : Refill) (j : Nat) : OpenLine := ⟨j, f.x, f.stretch, f.shrink, f.glyphs⟩

theorem Desk.openedIn_withRecord_eq (d : Desk) {j : Nat} (small : j < 8) (r : LineRecord) :
    (d.openedIn j).withRecord (d.composer.freshLine j).slot r =
      { d.openedIn j with store := d.store.putSlot j ⟨.filling, r⟩ } :=
  congrArg (fun store => { d.openedIn j with store := store }) (d.openedIn_withRecord small r)

section Carry

variable {t : Tables} {dict : List DictEntry} {d : Desk} {j : Nat} {ending : Option Instr} {carry : Carry}

theorem Desk.filledIn_record (small : j < 8) (f : Refill) :
    (d.filledIn j f).store.record j = d.composer.carryRecord f :=
  congrArg LineSlot.record (slot_putSlot_same d.store _ small)

/-- The carry placed on a line, by whether it overflows it. -/
theorem Desk.placeCarry_of_free (free : d.store.lowestFree = some j) (fuel : Nat) :
    let f := d.composer.refilled carry.items
    let e := d.filledIn j f
    let cut := decideBreak t dict d.composer.params d.composer.ladder d.composer.params.lineEnd f.items carry.word
      carry.gone
    d.placeCarry t dict ending (fuel + 1) carry =
      if f.overflowed then
        if cut.carried.isEmpty then (e.closeAtBreak j cut).afterBreak t ending
        else (e.closeAtBreak j cut).placeCarry t dict ending fuel (carryAfter carry.word carry.gone cut)
      else (e.withPhase (.opened (f.line j))).afterBreak t ending := by
  have small := (lowestFree_spec free).1
  rw [Desk.placeCarry]
  simp only [Desk.openLine_eq free, Desk.openedIn_record d small, Desk.openedIn_withRecord_eq d small]
  rfl

theorem Desk.placeCarry_of_full (full : d.store.lowestFree = none) (fuel : Nat) :
    d.placeCarry t dict ending (fuel + 1) carry = d.wait (.carry carry ending) := by
  rw [Desk.placeCarry]
  simp only [Desk.openLine_of_full full]

/-- The lines that a carry opens, and its ending code, leave a READY line as it is. -/
theorem Desk.placeCarry_afterReady {i : Nat} (fuel : Nat) (carry : Carry) (d : Desk)
    (ready : (d.store.slot i).state = .ready) :
    KeepsReady i d.store (d.placeCarry t dict ending fuel carry).store := by
  induction fuel generalizing carry d with
  | zero => exact .refl i _
  | succ fuel ih =>
    cases free : d.store.lowestFree with
    | none =>
      rw [Desk.placeCarry_of_full free]
      exact .refl i _
    | some j =>
      have other : j ≠ i := by
        rintro rfl
        rw [(lowestFree_spec free).2.1] at ready
        exact nomatch ready
      have filled (f : Refill) : KeepsReady i d.store (d.filledIn j f).store := putSlot_keepsReady other _ _
      have closed (f : Refill) (cut : Cut) : KeepsReady i d.store ((d.filledIn j f).closeAtBreak j cut).store :=
        (filled f).trans (close_keepsReady other _ _)
      have opened (f : Refill) :
          KeepsReady i d.store ((d.filledIn j f).withPhase (.opened (f.line j))).store := filled f
      have onLine (f : Refill) : ((d.filledIn j f).withPhase (.opened (f.line j))).composer.phase.openSlot ≠ some i :=
        fun same => other (Option.some.inj same)
      rw [Desk.placeCarry_of_free free]
      split
      · split
        · exact (closed _ _).trans
            (Desk.afterBreak_keepsReady ((closed _ _).ready ready) (Desk.closeAtBreak_openSlot _ _ _ _) ending)
        · exact (closed _ _).trans (ih _ _ ((closed _ _).ready ready))
      · exact (opened _).trans (Desk.afterBreak_keepsReady ((opened _).ready ready) (onLine _) ending)

/-- A carry that overflows its line: the line closes at a break decision of its own, and stays as it closed (R76). -/
theorem Desk.placeCarry_overflows (free : d.store.lowestFree = some j) (fuel : Nat)
    (overflows : (d.composer.refilled carry.items).overflowed = true) :
    let f := d.composer.refilled carry.items
    let cut := decideBreak t dict d.composer.params d.composer.ladder d.composer.params.lineEnd f.items carry.word
      carry.gone
    let e := d.placeCarry t dict ending (fuel + 1) carry
    d.store.ready ++ [j] <+: e.store.ready ∧
      e.store.slot j = ⟨.ready, breakRecord d.composer.params (d.composer.carryRecord f) cut⟩ := by
  intro f cut e
  have small := (lowestFree_spec free).1
  have closed : ((d.filledIn j f).closeAtBreak j cut).store.slot j =
      ⟨.ready, breakRecord d.composer.params (d.composer.carryRecord f) cut⟩ := by
    rw [Desk.closeAtBreak_eq, Desk.filledIn_record small]
    exact slot_close_same small _ _
  have keeps : KeepsReady j ((d.filledIn j f).closeAtBreak j cut).store e.store := by
    have placed := Desk.placeCarry_of_free (t := t) (dict := dict) (ending := ending) (carry := carry) free fuel
    rw [show e = _ from placed, if_pos overflows]
    split
    · exact Desk.afterBreak_keepsReady (by rw [closed]) (Desk.closeAtBreak_openSlot _ _ _ _) ending
    · exact Desk.placeCarry_afterReady fuel _ _ (by rw [closed])
  exact ⟨keeps.2, keeps.1.trans closed⟩

end Carry

/-! ### The ending code on the line refilled (R66 to R68, R75, R77, R85) -/

section OnLine

variable {t : Tables} {d : Desk} {line : OpenLine} {c : Instr}

theorem Desk.afterWord_ends {lastLine : Bool} (ends : EndsLine c lastLine) (phase : d.composer.phase = .opened line) :
    d.afterWord t c = d.closeOpen line lastLine := by
  simp only [afterWord_endsLine ends, Desk.endAfterWord, phase]

/-- A CUT or a STOP DISC closes the line with the last-line quad mode, and the line stays as it closed. -/
theorem Desk.afterWord_closes {cut : Bool} (emits : EmitsRecord c cut) (phase : d.composer.phase = .opened line)
    (small : line.slot < 8) :
    (d.afterWord t c).store.slot line.slot =
        ⟨.ready, closeRecord d.composer.params d.composer.params.lastQuad line.x (d.store.record line.slot)⟩ ∧
      d.store.ready ++ [line.slot] <+: (d.afterWord t c).store.ready := by
  have closed := Desk.closeForRecord_of_opened phase
  have slot : d.closeForRecord.store.slot line.slot =
      ⟨.ready, closeRecord d.composer.params d.composer.params.lastQuad line.x (d.store.record line.slot)⟩ := by
    rw [closed]
    exact slot_close_same small _ _
  have list : d.closeForRecord.store.ready = d.store.ready ++ [line.slot] := by
    rw [closed]
    rfl
  have keeps := Desk.afterWord_emits_keepsReady (t := t) emits (by rw [slot])
  exact ⟨keeps.1.trans slot, list ▸ keeps.2⟩

theorem putRecord_state (st : Store) {i : Nat} (small : i < 8) (r : LineRecord) :
    ((st.putRecord i r).slot i).state = (st.slot i).state := by
  rw [Store.putRecord, slot_putSlot_same _ _ small]

theorem spaceDropped_of_glyph {items : List LineItem} (plain : NoInterword items) {glyphs : Nat} (some : glyphs ≠ 0)
    (kind : SpaceKind) : spaceDropped kind glyphs items.getLast? = false := by
  have noInterword : (items.getLast?.map LineItem.isInterword).getD false = false := by
    cases last : items.getLast? with
    | none => rfl
    | some i => exact (noInterword_iff items).mp plain i (List.mem_of_getLast? last)
  cases kind <;> simp [spaceDropped, some, noInterword]

/-- A space on a line with a glyph, without interword spaces and with room, joins it. -/
theorem Desk.afterWord_joins {kind : SpaceKind} (sets : SetsSpace c kind) (phase : d.composer.phase = .opened line)
    (small : line.slot < 8) {font lens hs : Nat} (hfont : d.composer.params.font = some font)
    (resolve : t.resolve d.composer.params.size = some (lens, hs)) (glyph : line.glyphs ≠ 0)
    (plain : NoInterword (d.store.record line.slot).items)
    (room : (spacesOf (d.store.record line.slot).items).length < 160) :
    let q := spaceFor d.composer.params kind font lens hs line.x
    let e := d.afterWord t c
    (e.store.slot line.slot).state = (d.store.slot line.slot).state ∧ e.store.ready = d.store.ready ∧
      (e.store.record line.slot).items = (d.store.record line.slot).items ++ [LineItem.space q] ∧
      e.composer.phase = .opened (line.widen q) := by
  have joined := Desk.takeSpace_joins hfont resolve (spaceDropped_of_glyph plain glyph kind) room
  have taken : d.afterWord t c = d.takeSpace t line kind := by
    simp only [Desk.afterWord_setsSpace sets, Desk.spaceAfterWord, phase]
  intro q e
  rw [show e = _ from taken.trans joined]
  refine ⟨?_, rfl, ?_, rfl⟩
  · exact putRecord_state d.store small _
  · exact congrArg LineRecord.items (record_putRecord_same d.store small _)

end OnLine

/-! ### The break of the overflowed line (R71, R75) -/

/-- The word in the word buffer. -/
def WordBuffer.word (b : WordBuffer) : Word := ⟨b.glyphs.map (·.code), b.marks, b.noHyphenate⟩

/-- The break decision on the open line and the word in the buffer. -/
def Desk.lineCut (t : Tables) (dict : List DictEntry) (d : Desk) (line : OpenLine) : Cut :=
  decideBreak t dict d.composer.params d.composer.ladder (d.store.record line.slot).mr
    ((d.store.record line.slot).items ++ d.composer.word.glyphs.map LineItem.glyph) d.composer.word.word 0

section Breaking

variable (t : Tables) (dict : List DictEntry) (d : Desk) (line : OpenLine)

theorem Desk.breakLine_eq (ending : Option Instr) :
    let cut := d.lineCut t dict line
    let closed := d.closeAtBreak line.slot cut
    d.breakLine t dict line ending =
      if cut.carried.isEmpty then closed.afterBreak t ending
      else closed.placeCarry t dict ending (cut.carried.length + 1) (carryAfter d.composer.word.word 0 cut) := rfl

theorem Desk.takeEnding_of_overflowed {line : OpenLine} (phase : d.composer.phase = .overflowed line) (code : Instr) :
    d.takeEnding t dict code = d.breakLine t dict line (some code) := by
  simp only [Desk.takeEnding, phase]

/-- What is carried from the overflowed line are glyphs of the word and spaces that are no break points. -/
theorem Desk.lineCut_carried : NoInterword (d.lineCut t dict line).carried := by
  refine decideBreak_carried t dict _ _ _ _ ?_
  simp [WordBuffer.word, NoInterword]

/-- The ladder count after a close, as the statement says it (R102). -/
theorem ladderAfter_eq (ladder : Nat) (hyphenEnded : Bool) :
    ladderAfter ladder hyphenEnded = if hyphenEnded = true then max ladder (min 255 (ladder + 1)) else 0 := by
  unfold ladderAfter saturate
  split
  · split <;> omega
  · rfl

end Breaking

/-- A code that ends a word and, where it is a space, can be set. -/
def EndsWord (c : Instr) (u : State) : Prop :=
  c = .endLine ∨ c = .endPara ∨ c = .cut ∨ c = .stopDisc ∨ ∃ kind, SetsSpace c kind ∧ CanSet u

theorem EndsWord.canSet {c : Instr} {u : State} {kind : SpaceKind} (ends : EndsWord c u) (sets : SetsSpace c kind) :
    CanSet u := by
  have space : c ≠ .endLine ∧ c ≠ .endPara ∧ c ≠ .cut ∧ c ≠ .stopDisc := by
    rcases sets with ⟨rfl, -⟩ | ⟨rfl, -⟩ | ⟨rfl, -⟩ | ⟨rfl, -⟩ | ⟨rfl, -⟩ <;> simp
  obtain ⟨notEndLine, notEndPara, notCut, notStop⟩ := space
  rcases ends with h | h | h | h | ⟨-, -, canSet⟩
  · exact absurd h notEndLine
  · exact absurd h notEndPara
  · exact absurd h notCut
  · exact absurd h notStop
  · exact canSet

theorem exec_endsWord {c : Instr} {s u : State} (ends : EndsWord c u) (takes : Takes c s u) :
    exec c s = .next (u.withDesk (u.desk.takeEnding u.tables u.dict c)).runOut := by
  rcases ends with rfl | rfl | rfl | rfl | ⟨kind, sets, canSet⟩
  · exact deliver_onDesk (f := fun t dict d => d.takeEnding t dict .endLine) takes rfl
  · exact deliver_onDesk (f := fun t dict d => d.takeEnding t dict .endPara) takes rfl
  · exact deliver_onDesk (f := fun t dict d => d.takeEnding t dict .cut) takes rfl
  · exact deliver_onDesk (f := fun t dict d => d.takeEnding t dict .stopDisc) takes rfl
  · exact exec_space_of_canSet sets takes canSet rfl

/-- With no line open and no slot FREE a code that ends a word waits, unless it is a justifiable space (R61, R75). -/
theorem Desk.afterWord_waits_of_idle {c : Instr} {u : State} (ends : EndsWord c u) {t : Tables} {d : Desk}
    (idle : d.composer.phase = .idle) (full : d.store.lowestFree = none) (interword : c ≠ .interwordSpace)
    (noBreak : c ≠ .noBreakSpace) : d.afterWord t c = d.wait (.code c) := by
  have still := Desk.closeForRecord_of_idle idle
  have ended {lastLine : Bool} (h : EndsLine c lastLine) : d.afterWord t c = d.wait (.code c) := by
    simp only [afterWord_endsLine h, Desk.endAfterWord, idle, Desk.openLine_of_full full]
  have emitted {cut : Bool} (h : EmitsRecord c cut) : d.afterWord t c = d.wait (.code c) := by
    rw [Desk.afterWord_waits h t (by rw [still]; exact full), still]
  rcases ends with h | h | h | h | ⟨kind, sets, -⟩
  · exact ended (.inl ⟨h, rfl⟩)
  · exact ended (.inr ⟨h, rfl⟩)
  · exact emitted (.inl ⟨h, rfl⟩)
  · exact emitted (.inr ⟨h, rfl⟩)
  · have fixed : kind = .thin ∨ kind = .en ∨ kind = .em := by
      rcases sets with ⟨rfl, -⟩ | ⟨rfl, -⟩ | ⟨-, h⟩ | ⟨-, h⟩ | ⟨-, h⟩
      · exact absurd rfl interword
      · exact absurd rfl noBreak
      · exact .inl h
      · exact .inr (.inl h)
      · exact .inr (.inr h)
    rw [Desk.afterWord_setsSpace sets, Desk.spaceAfterWord_waits idle fixed full]

/-- The desk with a refilled line open in slot `j`. -/
def Desk.refilledIn (d : Desk) (j : Nat) (f : Refill) : Desk := (d.filledIn j f).withPhase (.opened (f.line j))

/-- A carry that fits its line: the ending code is processed on it (R75, R76). -/
theorem Desk.placeCarry_fits {t : Tables} {dict : List DictEntry} {d : Desk} {j : Nat} {ending : Option Instr}
    {carry : Carry} (free : d.store.lowestFree = some j) (fuel : Nat)
    (fits : (d.composer.refilled carry.items).overflowed = false) :
    d.placeCarry t dict ending (fuel + 1) carry =
      (d.refilledIn j (d.composer.refilled carry.items)).afterBreak t ending := by
  have placed := Desk.placeCarry_of_free (t := t) (dict := dict) (ending := ending) (carry := carry) free fuel
  exact placed.trans (if_neg (by rw [fits]; exact Bool.false_ne_true))

/-- With no line open a code that ends the line closes the line that an empty carry list makes. -/
theorem Desk.afterWord_endsEmpty {c : Instr} {lastLine : Bool} (ends : EndsLine c lastLine) {t : Tables}
    {dict : List DictEntry} {d : Desk} (idle : d.composer.phase = .idle) {j : Nat} (free : d.store.lowestFree = some j)
    {carry : Carry} (empty : carry.items = []) :
    d.afterWord t c = d.placeCarry t dict (some c) 1 carry := by
  have opened : d.refilledIn j (d.composer.refilled []) = d.openedIn j := rfl
  have fits : (d.composer.refilled carry.items).overflowed = false := by
    rw [empty]
    rfl
  rw [Desk.placeCarry_fits free 0 fits, empty, opened, Desk.afterBreak,
    Desk.afterWord_ends (d := d.openedIn j) (line := d.composer.freshLine j) ends rfl]
  simp only [afterWord_endsLine ends, Desk.endAfterWord, idle, Desk.openLine_eq free]

section Refilled

variable {t : Tables} {d : Desk} {j : Nat} {c : Instr} {f : Refill}

theorem Desk.refilledIn_slot (small : j < 8) :
    (d.refilledIn j f).store.slot j = ⟨.filling, d.composer.carryRecord f⟩ :=
  slot_putSlot_same d.store _ small

theorem Desk.refilledIn_record (small : j < 8) : (d.refilledIn j f).store.record j = d.composer.carryRecord f :=
  congrArg LineSlot.record (Desk.refilledIn_slot small)

theorem Desk.refilledIn_phase : (d.refilledIn j f).composer.phase = .opened (f.line j) := rfl

theorem Desk.refilledIn_ends {lastLine : Bool} (ends : EndsLine c lastLine) (small : j < 8) :
    let p := d.composer.params
    let e := (d.refilledIn j f).afterWord t c
    e.store.slot j =
        ⟨.ready, closeRecord p (if lastLine then p.lastQuad else p.quad) f.x (d.composer.carryRecord f)⟩ ∧
      e.store.ready = d.store.ready ++ [j] ∧ e.composer.phase = .idle := by
  rw [Desk.afterWord_ends ends Desk.refilledIn_phase, ← Desk.refilledIn_record small]
  exact ⟨slot_close_same small _ _, rfl, rfl⟩

theorem Desk.refilledIn_emits {cut : Bool} (emits : EmitsRecord c cut) (small : j < 8) :
    let p := d.composer.params
    let e := (d.refilledIn j f).afterWord t c
    e.store.slot j = ⟨.ready, closeRecord p p.lastQuad f.x (d.composer.carryRecord f)⟩ ∧
      d.store.ready ++ [j] <+: e.store.ready := by
  rw [← Desk.refilledIn_record small]
  exact Desk.afterWord_closes emits Desk.refilledIn_phase small

theorem Desk.refilledIn_joins {kind : SpaceKind} (sets : SetsSpace c kind) (small : j < 8) {font lens hs : Nat}
    (hfont : d.composer.params.font = some font) (resolve : t.resolve d.composer.params.size = some (lens, hs))
    (glyph : f.glyphs ≠ 0) (plain : NoInterword f.items) (room : (spacesOf f.items).length < 160) :
    let q := spaceFor d.composer.params kind font lens hs f.x
    let e := (d.refilledIn j f).afterWord t c
    (e.store.slot j).state = .filling ∧ e.store.ready = d.store.ready ∧
      (e.store.record j).items = f.items ++ [LineItem.space q] ∧
      e.composer.phase = .opened ((f.line j).widen q) := by
  have record : (d.refilledIn j f).store.record (f.line j).slot = _ := Desk.refilledIn_record small
  obtain ⟨state, ready, items, phase⟩ := Desk.afterWord_joins (t := t) sets (Desk.refilledIn_phase (d := d)) small hfont
    resolve glyph (by rw [record]; exact plain) (by rw [record]; exact room)
  exact ⟨state.trans (congrArg LineSlot.state (Desk.refilledIn_slot small)), ready,
    items.trans (by rw [record]; rfl), phase⟩

end Refilled

/-- The line closed at the break stays as it closed over the carry and the ending code. -/
theorem Desk.breakLine_keepsReady (t : Tables) (dict : List DictEntry) (d : Desk) {line : OpenLine}
    (small : line.slot < 8) (ending : Option Instr) :
    KeepsReady line.slot (d.closeAtBreak line.slot (d.lineCut t dict line)).store
      (d.breakLine t dict line ending).store := by
  have ready : ((d.closeAtBreak line.slot (d.lineCut t dict line)).store.slot line.slot).state = .ready := by
    rw [Desk.closeAtBreak_eq]
    exact congrArg LineSlot.state (slot_close_same small d.store _)
  rw [Desk.breakLine_eq]
  split
  · exact Desk.afterBreak_keepsReady ready (Desk.closeAtBreak_openSlot _ _ _ _) ending
  · exact Desk.placeCarry_afterReady _ _ _ ready

/-- What a carry list placed on slot `j` leaves, the ending code processed after it, as the obligation says it (R75,
R76): a carry that overflows closes at a break decision of its own, one that fits takes the code. -/
def CarriedTo (u : State) (ladder : Nat) (carry : Carry) (before : List Nat) (j : Nat) (ending : Option Instr)
    (t : State) : Prop :=
  let p := u.composer.params
  let f := u.composer.refilled carry.items
  let filled := u.composer.carryRecord f
  let cut := decideBreak u.tables u.dict p ladder p.lineEnd f.items carry.word carry.gone
  (f.overflowed = true → before ++ [j] <+: t.store.ready ∧ t.store.slot j = ⟨.ready, breakRecord p filled cut⟩) ∧
  (f.overflowed = false →
    (ending = none → t.store.slot j = ⟨.filling, filled⟩ ∧ t.store.ready = before ∧
      t.composer.phase = .opened (f.line j)) ∧
    (ending = some .endLine ∨ ending = some .endPara →
      t.store.slot j =
        ⟨.ready, closeRecord p (if ending = some .endPara then p.lastQuad else p.quad) f.x filled⟩ ∧
      t.store.ready = before ++ [j] ∧ t.composer.phase = .idle) ∧
    (ending = some .cut ∨ ending = some .stopDisc →
      t.store.slot j = ⟨.ready, closeRecord p p.lastQuad f.x filled⟩ ∧ before ++ [j] <+: t.store.ready) ∧
    (∀ c kind, ending = some c → SetsSpace c kind → CanSet u → f.glyphs ≠ 0 → (spacesOf f.items).length < 160 →
      (t.store.slot j).state = .filling ∧ t.store.ready = before ∧
      ∃ q l, (t.store.record j).items = f.items ++ [LineItem.space q] ∧ q.kind = kind ∧ q.after = f.x + q.normal ∧
        t.composer.phase = .opened l ∧ l.slot = j ∧ l.x = q.after ∧ l.glyphs = f.glyphs))

/-- The desk with the parameters, the counter and the pending settings of `u` in force. -/
def State.deskAt (u : State) (phase : Phase) (word : WordBuffer) (ladder : Nat) (store : Store) (events : Word24) :
    Desk :=
  ⟨{ u.composer with phase := phase, word := word, ladder := ladder }, store, events⟩

/-- A carry without interword spaces, placed on a desk with the parameters of `u` in force. -/
theorem placeCarry_carriedTo (u : State) (phase : Phase) (word : WordBuffer) (ladder : Nat) (store : Store)
    (events : Word24) (carry : Carry) (plain : NoInterword carry.items) (ending : Option Instr) (fuel : Nat) {j : Nat}
    (free : store.lowestFree = some j) (intake : Intake) :
    let d := u.deskAt phase word ladder store events
    CarriedTo u ladder carry store.ready j ending
      { u.withDesk (d.placeCarry u.tables u.dict ending (fuel + 1) carry) with intake := intake } := by
  intro d
  have small := (lowestFree_spec free).1
  refine ⟨Desk.placeCarry_overflows (d := d) free fuel, fun fits => ?_⟩
  rw [Desk.placeCarry_fits (d := d) free fuel fits]
  refine ⟨?_, ?_, ?_, ?_⟩
  · rintro rfl
    exact ⟨Desk.refilledIn_slot (d := d) small, rfl, rfl⟩
  · rintro (rfl | rfl)
    · exact Desk.refilledIn_ends (t := u.tables) (d := d) (.inl ⟨rfl, rfl⟩) small
    · exact Desk.refilledIn_ends (t := u.tables) (d := d) (.inr ⟨rfl, rfl⟩) small
  · rintro (rfl | rfl)
    · exact Desk.refilledIn_emits (t := u.tables) (d := d) (.inl ⟨rfl, rfl⟩) small
    · exact Desk.refilledIn_emits (t := u.tables) (d := d) (.inr ⟨rfl, rfl⟩) small
  · rintro c kind rfl sets canSet glyph room
    obtain ⟨font, -, lens, hs, hfont, -, resolve⟩ := resolve_of_canSet canSet u.composer.params.size
    obtain ⟨state, ready, items, phase⟩ := Desk.refilledIn_joins (t := u.tables) (d := d) sets small hfont resolve
      glyph (refill_bounded _ _ plain).plain room
    exact ⟨state, ready, _, _, items, rfl, rfl, phase, rfl, rfl, rfl⟩

/-- Settles O22: the line closed by the decision, then the carry placed or held, or the code with no line open; the
carry placed by `refill_holds`. -/
theorem breakDecisionClosesTheOverflowedLine : Obligations.BreakDecisionClosesTheOverflowedLine := by
  unfold Obligations.BreakDecisionClosesTheOverflowedLine
  intro carriedTo
  refine ⟨fun c s u line takes ends phase small filling => ?_, fun s carry ending j waits free plain => ?_,
    fun ls mr carried plain room => ?_⟩
  · extract_lets p r b w cut _ closed gone ladder
    let d := u.desk.closeAtBreak line.slot cut
    have slot : d.store.slot line.slot = ⟨.ready, closed⟩ := slot_close_same small u.store closed
    have held : (u.store.slot line.slot).state ≠ .free := by
      rw [filling]
      nofun
    have still : d.store.lowestFree = u.store.lowestFree := lowestFree_close held closed
    have ladder_eq : ladder = ladderAfter u.composer.ladder closed.flags.hyphenEnded := (ladderAfter_eq _ _).symm
    have keeps := Desk.breakLine_keepsReady u.tables u.dict u.desk small (some c)
    have broken : u.desk.breakLine u.tables u.dict line (some c) =
        if cut.carried.isEmpty then d.afterWord u.tables c
        else d.placeCarry u.tables u.dict (some c) (cut.carried.length + 1) (carryAfter w 0 cut) := rfl
    rw [exec_endsWord ends takes, Desk.takeEnding_of_overflowed _ _ _ phase]
    refine answersWith_runOut fun intake => ⟨keeps.1.trans slot, keeps.2, fun full some => ?_, fun j free some => ?_,
      fun none => ?_⟩
    · rw [broken, if_neg (by simpa using some), Desk.placeCarry_of_full (still.trans (lowestFree_of_noneFree full))]
      exact ⟨rfl, rfl⟩
    · rw [broken, if_neg (by simpa using some), ladder_eq]
      exact placeCarry_carriedTo u .idle .empty _ d.store d.events (carryAfter w 0 cut)
        (Desk.lineCut_carried u.tables u.dict u.desk line) (Option.some c) _ (still.trans (lowestFree_of free)) intake
    · rw [broken, if_pos (by simpa using none)]
      have stays : d.closeForRecord = d := Desk.closeForRecord_of_idle rfl
      refine ⟨fun dropped => ?_, fun interword noBreak full => ?_, fun j free => ?_⟩
      · have left : d.afterWord u.tables c = d := by
          obtain ⟨kind, sets, justifiable⟩ : ∃ kind, SetsSpace c kind ∧ (kind = .interword ∨ kind = .noBreak) :=
            dropped.elim (fun h => ⟨.interword, .inl ⟨h, rfl⟩, .inl rfl⟩)
              fun h => ⟨.noBreak, .inr (.inl ⟨h, rfl⟩), .inr rfl⟩
          rw [Desk.afterWord_setsSpace sets, Desk.spaceAfterWord_dropped (d := d) rfl justifiable]
        rw [left]
        exact ⟨rfl, rfl⟩
      · have full' := still.trans (lowestFree_of_noneFree full)
        rw [Desk.afterWord_waits_of_idle ends (d := d) rfl full' interword noBreak]
        exact ⟨rfl, rfl⟩
      · have free' := still.trans (lowestFree_of free)
        refine ⟨fun ended => ?_, fun emitted => ?_, fun kind sets fixed => ?_⟩
        · obtain ⟨lastLine, ended⟩ : ∃ lastLine, EndsLine c lastLine :=
            ended.elim (fun h => ⟨false, .inl ⟨h, rfl⟩⟩) fun h => ⟨true, .inr ⟨h, rfl⟩⟩
          rw [Desk.afterWord_endsEmpty (dict := u.dict) (carry := ⟨[], w.codes, w.marks, w.noHyphenate, gone⟩) ended rfl
            free' rfl, ladder_eq]
          exact placeCarry_carriedTo u .idle .empty _ d.store d.events ⟨[], w.codes, w.marks, w.noHyphenate, gone⟩
            (by simp [NoInterword]) (Option.some c) 0 free' intake
        · obtain ⟨isCut, emits⟩ : ∃ isCut, EmitsRecord c isCut :=
            emitted.elim (fun h => ⟨true, .inl ⟨h, rfl⟩⟩) fun h => ⟨false, .inr ⟨h, rfl⟩⟩
          rw [Desk.afterWord_emits emits _ (stays ▸ free'), stays]
          have own := slot_close_same free.1 d.store (d.composer.ownRecord isCut)
          refine ⟨rfl, rfl, congrArg LineSlot.state own, ?_, ?_⟩
          · rcases emits with ⟨rfl, rfl⟩ | ⟨rfl, rfl⟩ <;> exact congrArg (fun x => x.record.number) own
          · rcases emits with ⟨rfl, rfl⟩ | ⟨rfl, rfl⟩ <;> exact congrArg (fun x => x.record.kind) own
        · obtain ⟨font, -, lens, hs, hfont, -, resolve⟩ :=
            resolve_of_canSet (EndsWord.canSet ends sets) u.composer.params.size
          have opens := Desk.spaceAfterWord_opens (d := d) rfl fixed free' hfont resolve c
          rw [Desk.afterWord_setsSpace sets, opens]
          have slot := slot_putSlot_same d.store ⟨.filling, { d.composer.textRecord with
            flags := { LineFlags.none with sizeSubstituted := decide (hs ≠ d.composer.params.size) }
            items := [.space (spaceFor p kind font lens hs ((p.lineStart : Int) * 48))] }⟩ free.1
          have start : (p.lineStart : Int) * 48 = (p.left : Int) * 10 * 48 := congrArg (· * 48) (Nat.cast_mul _ _)
          exact ⟨congrArg LineSlot.state slot, rfl, _, _, congrArg (fun x => x.record.items) slot, rfl,
            congrArg (· + _) start, rfl, rfl, rfl, rfl⟩
  · rw [exec_waitSlotResume_of_free waits free rfl]
    exact answersWith_runOut (placeCarry_carriedTo s .idle s.composer.word s.composer.ladder s.store s.reply.pending
      carry plain ending _ (lowestFree_of free))
  · extract_lets f isGlyph isNoBreak head placed shrinks stretches
    have isGlyph_eq : isGlyph = LineItem.isGlyph := funext fun i => by cases i <;> rfl
    have isNoBreak_eq : isNoBreak = LineItem.isNoBreak := funext fun i => by cases i <;> rfl
    have placed_eq : placed = placedOf carried := by
      simp only [placed, head, isGlyph_eq, isNoBreak_eq, placedOf]
    have holds : RefillHolds ls mr carried f := refill_holds ls mr plain room
    obtain ⟨⟨length, each⟩, overset, glyphs, -, x, stretch, shrink, overflowed⟩ := holds
    rw [placed_eq]
    exact ⟨length, overset, glyphs, x, stretch, shrink, fun i q at_i => each i _ at_i, fun i g at_i => each i _ at_i,
      overflowed⟩

end Sys2Proof.Machine
end

section
/-! PROOFS. The exception dictionary's edits (`DictionaryEdits`): which codes of a DICT ADD are in a good form and what
they are read as, and what an entry put leaves of the dictionary. -/

namespace Sys2Proof.Machine

open Sys2Proof Sys2Proof.Safety

/-! ### The form of a DICT ADD (R106) -/

/-- The word codes among the codes of a DICT ADD or a DICT DELETE. -/
def wordCodes (codes : List Byte) : List Byte := codes.filter (· != 0x04)

/-- The break gaps that the marks stand for: the number of word codes before each. -/
def markedBreaks (codes : List Byte) : List Nat :=
  ((List.range codes.length).filter fun i => codes[i]? == some 0x04).map fun i => (wordCodes (codes.take i)).length

/-- The good forms of R106. -/
def GoodForm (codes : List Byte) : Prop :=
  (∀ c ∈ wordCodes codes, 0x21 ≤ c.toNat) ∧ 2 ≤ (wordCodes codes).length ∧ (wordCodes codes).length ≤ 24 ∧
    codes.head? ≠ some 0x04 ∧ codes.getLast? ≠ some 0x04 ∧ ¬[0x04, 0x04] <:+: codes

/-- Codes in which R106 finds no fault yet, whatever comes after them. -/
structure GoodBeginning (codes : List Byte) : Prop where
  high : ∀ c ∈ wordCodes codes, 0x21 ≤ c.toNat
  head : codes.head? ≠ some 0x04
  apart : ¬[0x04, 0x04] <:+: codes

theorem wordCodes_concat_mark (codes : List Byte) : wordCodes (codes ++ [0x04]) = wordCodes codes := by
  simp [wordCodes]

theorem wordCodes_concat_code (codes : List Byte) {c : Byte} (code : c ≠ 0x04) :
    wordCodes (codes ++ [c]) = wordCodes codes ++ [c] := by
  rw [wordCodes, List.filter_append, List.filter_cons_of_pos (p := (· != 0x04)) (bne_iff_ne.mpr code)]
  rfl

theorem markedBreaks_concat (codes : List Byte) (c : Byte) :
    markedBreaks (codes ++ [c]) = markedBreaks codes ++ if c = 0x04 then [(wordCodes codes).length] else [] := by
  have marks : (List.range codes.length).filter (fun i => (codes ++ [c])[i]? == some 0x04) =
      (List.range codes.length).filter fun i => codes[i]? == some 0x04 :=
    List.filter_congr fun i hi => by rw [List.getElem?_append_left (List.mem_range.mp hi)]
  have places : ∀ i ∈ (List.range codes.length).filter (fun i => codes[i]? == some 0x04),
      (wordCodes ((codes ++ [c]).take i)).length = (wordCodes (codes.take i)).length := fun i hi => by
    rw [List.take_append_of_le_length (List.mem_range.mp (List.mem_of_mem_filter hi)).le]
  unfold markedBreaks
  rw [List.length_append, List.length_singleton, List.range_succ, List.filter_append, List.map_append, marks,
    List.map_congr_left places]
  by_cases mark : c = 0x04
  · simp [mark]
  · have last : ¬((codes ++ [c])[codes.length]? == some 0x04) = true := by simpa using mark
    rw [List.filter_cons_of_neg (p := fun i => (codes ++ [c])[i]? == some 0x04) last, if_neg mark]
    rfl

/-- Two marks in a row, with one code more: they were there already, or they are the last two codes. -/
theorem pairedMarks_concat_iff (codes : List Byte) (c : Byte) :
    [0x04, 0x04] <:+: codes ++ [c] ↔ (c = 0x04 ∧ codes.getLast? = some 0x04) ∨ [0x04, 0x04] <:+: codes := by
  rw [List.infix_concat_iff, List.getLast?_eq_some_iff]
  refine or_congr_left ⟨fun ⟨pre, same⟩ => ?_, fun ⟨mark, pre, same⟩ => ⟨pre, by simp [mark, same]⟩⟩
  have same : (pre ++ [0x04]) ++ [0x04] = codes ++ [c] := by simpa using same
  obtain ⟨rest, last⟩ := List.append_inj' same rfl
  exact ⟨(List.singleton_inj.mp last).symm, pre, rest.symm⟩

theorem GoodForm.beginning {codes rest : List Byte} (h : GoodForm (codes ++ rest)) : GoodBeginning codes := by
  obtain ⟨high, -, -, head, -, apart⟩ := h
  refine ⟨fun c hc => high c ?_, fun mark => head (by simp [mark]), fun pair => apart (pair.trans ?_)⟩
  · rw [wordCodes, List.filter_append]
    exact List.mem_append_left _ hc
  · exact (List.prefix_append codes rest).isInfix

/-- A mark may follow exactly where there is a word code and no mark is last. -/
theorem goodBeginning_concat_mark_iff {codes : List Byte} (h : GoodBeginning codes) :
    GoodBeginning (codes ++ [0x04]) ↔ ¬(codes.getLast? = some 0x04 ∨ wordCodes codes = []) := by
  cases codes with
  | nil => exact iff_of_false (fun more => more.head rfl) (by simp [wordCodes])
  | cons c rest =>
    have code : c ≠ 0x04 := fun mark => h.head (by simp [mark])
    have filled : wordCodes (c :: rest) ≠ [] := by
      rw [wordCodes, List.filter_cons_of_pos (p := (· != 0x04)) (bne_iff_ne.mpr code)]
      exact List.cons_ne_nil _ _
    rw [or_iff_left filled]
    refine ⟨fun more last => more.apart ((pairedMarks_concat_iff _ _).mpr (.inl ⟨rfl, last⟩)),
      fun last => ⟨?_, h.head, ?_⟩⟩
    · rw [wordCodes_concat_mark]
      exact h.high
    · rw [pairedMarks_concat_iff]
      exact fun pair => pair.elim (fun mark => last mark.2) h.apart

/-- A word code may follow exactly where it is at least 21h. -/
theorem goodBeginning_concat_code_iff {codes : List Byte} (h : GoodBeginning codes) {c : Byte} (code : c ≠ 0x04) :
    GoodBeginning (codes ++ [c]) ↔ 0x21 ≤ c.toNat := by
  refine ⟨fun more => more.high c (by simp [wordCodes_concat_code codes code]), fun high => ⟨?_, ?_, ?_⟩⟩
  · rw [wordCodes_concat_code codes code]
    exact List.forall_mem_append.mpr ⟨h.high, List.forall_mem_singleton.mpr high⟩
  · cases codes with
    | nil => exact fun mark => code (Option.some.inj mark)
    | cons d rest => exact h.head
  · rw [pairedMarks_concat_iff]
    exact fun pair => pair.elim (fun mark => code mark.1) h.apart

/-- What is read after a good beginning: the good forms, as their word codes and break gaps. -/
theorem dictForm_after_beginning_iff {codes pre : List Byte} {afterMark : Bool} (begun : GoodBeginning pre)
    (last : afterMark = true ↔ pre.getLast? = some 0x04) (r : List Byte × List Nat) :
    dictForm codes (wordCodes pre) (markedBreaks pre) afterMark = some r ↔
      GoodForm (pre ++ codes) ∧ (wordCodes (pre ++ codes), markedBreaks (pre ++ codes)) = r := by
  induction codes generalizing pre afterMark with
  | nil =>
    unfold dictForm
    rw [List.append_nil]
    split_ifs with bad
    · refine iff_of_false nofun fun ⟨⟨_, two, most, _, noMark, _⟩, _⟩ => ?_
      rcases bad with mark | short | long
      · exact noMark (last.mp mark)
      · exact short.not_ge two
      · exact long.not_ge most
    · simp only [not_or, Nat.not_lt] at bad
      obtain ⟨noMark, two, most⟩ := bad
      have good : GoodForm pre := ⟨begun.high, two, most, begun.head, fun mark => noMark (last.mpr mark), begun.apart⟩
      rw [Option.some_inj, and_iff_right good]
  | cons c rest ih =>
    have spoilt (bad : ¬GoodBeginning (pre ++ [c])) : ¬GoodForm (pre ++ [c] ++ rest) := fun good => bad good.beginning
    rw [List.append_cons pre c rest]
    unfold dictForm
    split_ifs with mark bad low
    · subst mark
      rw [last, ← not_not (a := _ ∨ _), ← goodBeginning_concat_mark_iff begun] at bad
      exact iff_of_false nofun fun read => spoilt bad read.1
    · subst mark
      rw [last, ← goodBeginning_concat_mark_iff begun] at bad
      have next := ih bad (afterMark := true) (by simp)
      rwa [wordCodes_concat_mark pre, markedBreaks_concat, if_pos rfl] at next
    · rw [← Nat.not_le, ← goodBeginning_concat_code_iff begun mark] at low
      exact iff_of_false nofun fun read => spoilt low read.1
    · rw [Nat.not_lt, ← goodBeginning_concat_code_iff begun mark] at low
      have next := ih low (afterMark := false) (by simpa using mark)
      rwa [wordCodes_concat_code pre mark, markedBreaks_concat, if_neg mark, List.append_nil] at next

theorem dictForm_iff (codes : List Byte) (r : List Byte × List Nat) :
    dictForm codes [] [] false = some r ↔ GoodForm codes ∧ (wordCodes codes, markedBreaks codes) = r :=
  dictForm_after_beginning_iff (pre := []) ⟨nofun, nofun, by simp⟩ (by simp) r

theorem dictForm_of_good {codes : List Byte} (good : GoodForm codes) :
    dictForm codes [] [] false = some (wordCodes codes, markedBreaks codes) :=
  (dictForm_iff codes _).mpr ⟨good, rfl⟩

theorem dictForm_of_bad {codes : List Byte} (bad : ¬GoodForm codes) : dictForm codes [] [] false = none :=
  Option.eq_none_iff_forall_ne_some.mpr fun r read => bad ((dictForm_iff codes r).mp read).1

/-! ### An entry put (R107) -/

theorem inDict_iff (d : List DictEntry) (word : List Byte) : inDict d word = true ↔ ∃ e ∈ d, e.word = word := by
  simp [inDict]

theorem dictRoom_iff (d : List DictEntry) (length : Nat) :
    dictRoom d length = true ↔ d.length < 384 ∧ (d.map (·.word.length)).sum + length ≤ 4096 := by
  rw [dictRoom, Bool.and_eq_true, decide_eq_true_eq, decide_eq_true_eq]
  rfl

theorem mem_dictPut_self (e : DictEntry) (d : List DictEntry) : e ∈ dictPut e d := by
  induction d with
  | nil => exact List.mem_singleton_self e
  | cons x rest ih =>
    unfold dictPut
    split_ifs with same first
    · exact List.mem_cons_self
    · exact List.mem_cons_self
    · exact List.mem_cons_of_mem x ih

/-- The entries of other words stay. -/
theorem mem_dictPut_of_ne {e y : DictEntry} (other : y.word ≠ e.word) (d : List DictEntry) :
    y ∈ dictPut e d ↔ y ∈ d := by
  have ne : y ≠ e := fun same => other (congrArg DictEntry.word same)
  induction d with
  | nil => simp [dictPut, ne]
  | cons x rest ih =>
    unfold dictPut
    split_ifs with same first
    · have ne' : y ≠ x := fun h => other (h ▸ same)
      simp [ne, ne']
    · simp [ne]
    · simp [ih]

theorem dictPut_length_of_unknown {e : DictEntry} {d : List DictEntry} (unknown : ¬∃ x ∈ d, x.word = e.word) :
    (dictPut e d).length = d.length + 1 := by
  induction d with
  | nil => rfl
  | cons x rest ih =>
    unfold dictPut
    split_ifs with same first
    · exact absurd ⟨x, List.mem_cons_self, same⟩ unknown
    · rfl
    · exact congrArg (· + 1) (ih fun ⟨y, hy, word⟩ => unknown ⟨y, List.mem_cons_of_mem x hy, word⟩)

theorem dictPut_length_of_known {e : DictEntry} {d : List DictEntry} (ordered : DictOrdered d)
    (known : ∃ x ∈ d, x.word = e.word) : (dictPut e d).length = d.length := by
  simpa using congrArg List.length (dictPut_words ordered ((inDict_iff d e.word).mpr known))

/-! ### The commands (R106 to R109) -/

/-- The dictionary is locked against edits. -/
def State.DictLocked (u : State) : Prop := u.tables.locks.dictionary = true ∧ u.pins.serviceSwitch = false

theorem State.dictLockPasses_iff (u : State) : u.dictLockPasses = true ↔ ¬u.DictLocked := by
  rw [State.dictLockPasses, lockPasses_iff, State.DictLocked, not_and_or, Bool.not_eq_true, Bool.not_eq_false]

/-- Every edit of the dictionary is refused while it is locked. -/
theorem State.edits_of_locked {u : State} (locked : u.DictLocked) (codes : List Byte) :
    u.takeDictAdd codes = posted .loadRefused u ∧ u.takeDictDelete codes = posted .loadRefused u ∧
      u.takeDictClear = posted .loadRefused u := by
  have shut : (!u.dictLockPasses) = true := by
    rw [Bool.not_eq_true', ← Bool.not_eq_true, u.dictLockPasses_iff]
    exact not_not_intro locked
  exact ⟨if_pos shut, if_pos shut, if_pos shut⟩

section Unlocked

variable {u : State} (unlocked : ¬u.DictLocked) {codes : List Byte}
include unlocked

theorem State.dictLock_open : ¬(!u.dictLockPasses) = true := by simpa using u.dictLockPasses_iff.mpr unlocked

theorem State.takeDictAdd_of_bad (bad : ¬GoodForm codes) : u.takeDictAdd codes = posted .loadRefused u := by
  rw [State.takeDictAdd, if_neg (State.dictLock_open unlocked), dictForm_of_bad bad]
  rfl

theorem State.takeDictAdd_of_good (good : GoodForm codes) :
    let folded := foldCodes u.tables (wordCodes codes)
    u.takeDictAdd codes =
      if (∃ e ∈ u.dict, e.word = folded) ∨
          (u.dict.length < 384 ∧ (u.dict.map (·.word.length)).sum + (wordCodes codes).length ≤ 4096) then
        { u with dict := dictPut ⟨folded, markedBreaks codes⟩ u.dict }
      else posted .dictionaryFull u := by
  rw [State.takeDictAdd, if_neg (State.dictLock_open unlocked), dictForm_of_good good]
  simp only [Bool.or_eq_true, inDict_iff, dictRoom_iff, foldCodes_length]
  rfl

theorem State.takeDictDelete_of_high (high : ∀ c ∈ wordCodes codes, 0x20 ≤ c.toNat) :
    u.takeDictDelete codes =
      { u with dict := u.dict.filter fun e => decide (e.word ≠ foldCodes u.tables (wordCodes codes)) } := by
  have all : ((wordCodes codes).all fun c => decide (0x20 ≤ c.toNat)) = true := by simpa using high
  have others : (fun e : DictEntry => e.word != foldCodes u.tables (wordCodes codes)) =
      fun e => decide (e.word ≠ foldCodes u.tables (wordCodes codes)) := funext fun e => by simp [bne, beq_eq_decide]
  rw [State.takeDictDelete, if_neg (State.dictLock_open unlocked), ← others]
  exact if_pos all

theorem State.takeDictDelete_of_low (low : ¬∀ c ∈ wordCodes codes, 0x20 ≤ c.toNat) : u.takeDictDelete codes = u := by
  have found : ¬((wordCodes codes).all fun c => decide (0x20 ≤ c.toNat)) = true := by simpa using low
  rw [State.takeDictDelete, if_neg (State.dictLock_open unlocked)]
  exact if_neg found

theorem State.takeDictClear_of_unlocked : u.takeDictClear = { u with dict := [] } :=
  if_neg (State.dictLock_open unlocked)

end Unlocked

/-- Settles O33: an unlocked DICT ADD by the reading of its form and what an entry put leaves; the other edits by their
lock and the codes they hold. -/
theorem dictionaryEdits : Obligations.DictionaryEdits := by
  unfold Obligations.DictionaryEdits
  intro locked
  have delivered {c : Instr} {s u v : State} {owner : State → State} (takes : Takes c s u) (acts : owner u = v) :
      deliver c owner s = .next v.runOut := acts ▸ deliver_of_takes takes owner
  refine ⟨fun codes s u takes => ?_, fun codes s u takes => ?_, fun s u takes => ?_⟩
  · intro word good folded breaks known room
    refine ⟨fun refused => ?_, fun unlocked formed unknown full => ?_, fun unlocked formed fits ordered => ?_⟩
    · by_cases shut : u.DictLocked
      · exact delivered takes (u.edits_of_locked shut codes).1
      · exact delivered takes (State.takeDictAdd_of_bad shut (refused.resolve_left shut))
    · have acts := State.takeDictAdd_of_good unlocked formed
      exact delivered takes (acts.trans (if_neg (not_or.mpr ⟨unknown, full⟩)))
    · have acts := State.takeDictAdd_of_good unlocked formed
      have answer : exec (.dictAdd codes) s = _ :=
        delivered (owner := (·.takeDictAdd codes)) takes (acts.trans (if_pos fits))
      refine answer ▸ answersWith_runOut fun intake =>
        ⟨mem_dictPut_self _ _, ?_, fun e other => mem_dictPut_of_ne other _, rfl⟩
      split_ifs with has
      · exact dictPut_length_of_known ordered has
      · exact dictPut_length_of_unknown has
  · intro word
    exact ⟨fun shut => delivered takes (u.edits_of_locked shut codes).2.1,
      fun unlocked high => delivered takes (State.takeDictDelete_of_high unlocked high),
      fun unlocked low => delivered takes (State.takeDictDelete_of_low unlocked low)⟩
  · exact ⟨fun shut => delivered takes (u.edits_of_locked shut []).2.2,
      fun unlocked => delivered takes (State.takeDictClear_of_unlocked unlocked)⟩

end Sys2Proof.Machine
end

section
/-! PROOFS. The candidates of a word (`CandidatesFollowTheOrderOfEligibility`): where the letters and gaps of a
hyphenation word stand in the word, and the rows of the order of eligibility one by one. -/

namespace Sys2Proof.Machine

open Sys2Proof Sys2Proof.Safety

/-! ### The classes of glyphs (R90) -/

/-- Glyph `k` of a word, counting from 0, is a letter, and `e` is its entry in the letter class table. -/
def LetterAt (t : Tables) (codes : List (Option Byte)) (k : Nat) (e : ClassEntry) : Prop :=
  ∃ c, codes[k]? = some (some c) ∧ c ≠ 0x2D ∧ (t.classOf c).cls ≠ 0 ∧ e = t.classOf c

theorem classify_eq_hyphen_iff (t : Tables) (code : Option Byte) : classify t code = .hyphen ↔ code = some 0x2D := by
  cases code with
  | none => simp [classify]
  | some c =>
    simp only [classify]
    split_ifs with hyphen zero
    · exact iff_of_true rfl (congrArg some hyphen)
    · exact iff_of_false nofun fun same => hyphen (Option.some.inj same)
    · exact iff_of_false nofun fun same => hyphen (Option.some.inj same)

theorem classify_eq_letter_iff (t : Tables) (code : Option Byte) (e : ClassEntry) :
    classify t code = .letter e ↔ ∃ c, code = some c ∧ c ≠ 0x2D ∧ (t.classOf c).cls ≠ 0 ∧ e = t.classOf c := by
  cases code with
  | none => simp [classify]
  | some c =>
    simp only [Option.some.injEq, exists_eq_left', classify]
    split_ifs with hyphen zero
    · exact iff_of_false nofun fun h => h.1 hyphen
    · exact iff_of_false nofun fun h => h.2.1 zero
    · rw [GlyphClass.letter.injEq, and_iff_right hyphen, and_iff_right zero, eq_comm]

theorem classified_hyphen_iff (t : Tables) (codes : List (Option Byte)) (k : Nat) :
    (codes.map (classify t))[k]? = some .hyphen ↔ codes[k]? = some (some 0x2D) := by
  simp [classify_eq_hyphen_iff, -BitVec.ofNat_eq_ofNat]

theorem classified_letter_iff (t : Tables) (codes : List (Option Byte)) (k : Nat) (e : ClassEntry) :
    (codes.map (classify t))[k]? = some (.letter e) ↔ LetterAt t codes k e := by
  simp only [List.getElem?_map, Option.map_eq_some_iff, classify_eq_letter_iff]
  constructor
  · rintro ⟨_, there, c, rfl, isLetter⟩
    exact ⟨c, there, isLetter⟩
  · rintro ⟨c, there, isLetter⟩
    exact ⟨some c, there, c, rfl, isLetter⟩

/-! ### The gaps of a hyphenation word (R91) -/

/-- A gap of a hyphenation word stands in the word after letter `a`, or after the hyphen that follows `a`, and before
letter `b`. -/
def StandsBetween (glyphs : List GlyphClass) (gap : Bool × Nat) (a b : ClassEntry) : Prop :=
  glyphs[gap.2]? = some (.letter b) ∧ 1 ≤ gap.2 ∧
    if gap.1 = true then
      glyphs[gap.2 - 1]? = some .hyphen ∧ 2 ≤ gap.2 ∧ glyphs[gap.2 - 2]? = some (.letter a)
    else glyphs[gap.2 - 1]? = some (.letter a)

/-- A hyphenation word has one gap less than letters, and each gap stands between the letters around it. -/
structure HyphenWord.LiesIn (w : HyphenWord) (glyphs : List GlyphClass) : Prop where
  count : w.gaps.length + 1 = w.letters.length
  between : ∀ i g, w.gaps[i]? = some g →
    ∃ a b, w.letters[i]? = some a ∧ w.letters[i + 1]? = some b ∧ StandsBetween glyphs g a b

theorem HyphenWord.LiesIn.single (glyphs : List GlyphClass) (a : ClassEntry) : HyphenWord.LiesIn ⟨[a], []⟩ glyphs :=
  ⟨rfl, nofun⟩

/-- One letter and one gap more at the front. -/
theorem HyphenWord.LiesIn.cons {w : HyphenWord} {glyphs : List GlyphClass} {a b : ClassEntry} {g : Bool × Nat}
    (h : HyphenWord.LiesIn ⟨b :: w.letters, w.gaps⟩ glyphs) (first : StandsBetween glyphs g a b) :
    HyphenWord.LiesIn ⟨a :: b :: w.letters, g :: w.gaps⟩ glyphs where
  count := congrArg (· + 1) h.count
  between i := by
    cases i with
    | zero => exact fun g' hg => ⟨a, b, rfl, rfl, Option.some.inj hg ▸ first⟩
    | succ i => exact h.between i

theorem getElem?_of_drop_eq_cons {α : Type} {l rest : List α} {x : α} {n : Nat} (h : l.drop n = x :: rest) :
    l[n]? = some x ∧ l.drop (n + 1) = rest := by
  refine ⟨?_, ?_⟩
  · simpa using congrArg List.head? h
  · simpa using congrArg List.tail h

/-- The run after a letter `a` that is the glyph before the `pos`-th of the word. -/
theorem hyphenRun_liesIn {glyphs run : List GlyphClass} {pos : Nat} {a : ClassEntry} (at_pos : glyphs.drop pos = run)
    (begun : 1 ≤ pos) (last : glyphs[pos - 1]? = some (.letter a)) :
    HyphenWord.LiesIn ⟨a :: (hyphenRun pos run).letters, (hyphenRun pos run).gaps⟩ glyphs := by
  induction pos, run using hyphenRun.induct generalizing a with
  | case1 pos e rest ih =>
    obtain ⟨letter, next⟩ := getElem?_of_drop_eq_cons at_pos
    have follows : StandsBetween glyphs (false, pos) a e := ⟨letter, begun, last⟩
    exact (ih next (Nat.le_add_left 1 pos) letter).cons follows
  | case2 pos e rest ih =>
    obtain ⟨hyphen, after⟩ := getElem?_of_drop_eq_cons at_pos
    obtain ⟨letter, next⟩ := getElem?_of_drop_eq_cons after
    have follows : StandsBetween glyphs (true, pos + 1) a e :=
      ⟨letter, Nat.le_add_left 1 pos, hyphen, Nat.succ_le_succ begun, last⟩
    exact (ih next (Nat.le_add_left 1 (pos + 1)) letter).cons follows
  | case3 run pos notLetter notHyphen =>
    have stops : hyphenRun pos run = ⟨[], []⟩ := by
      unfold hyphenRun
      split
      · next e rest => exact absurd rfl (notLetter e rest)
      · next e rest => exact absurd rfl (notHyphen e rest)
      · rfl
    rw [stops]
    exact .single glyphs a

theorem hyphenWordFrom_liesIn {glyphs rest : List GlyphClass} {pos : Nat} {w : HyphenWord}
    (at_pos : glyphs.drop pos = rest) (h : hyphenWordFrom (pos + 1) rest = some w) : w.LiesIn glyphs := by
  induction rest generalizing pos with
  | nil => exact nomatch h
  | cons g rest ih =>
    obtain ⟨glyph, next⟩ := getElem?_of_drop_eq_cons at_pos
    cases g with
    | letter e =>
      obtain rfl : _ = w := Option.some.inj h
      exact hyphenRun_liesIn next (Nat.le_add_left 1 pos) glyph
    | hyphen => exact ih next h
    | other => exact ih next h

/-- A word has a hyphenation word exactly where it has a letter. -/
theorem hyphenWordFrom_eq_none_iff (pos : Nat) (glyphs : List GlyphClass) :
    hyphenWordFrom pos glyphs = none ↔ ∀ e, .letter e ∉ glyphs := by
  induction glyphs generalizing pos with
  | nil => simp [hyphenWordFrom]
  | cons g rest ih =>
    cases g with
    | letter e => exact iff_of_false nofun fun noLetter => noLetter e List.mem_cons_self
    | hyphen => exact (ih (pos + 1)).trans (forall_congr' fun e => by simp)
    | other => exact (ih (pos + 1)).trans (forall_congr' fun e => by simp)

theorem hyphenWord_eq_none_iff (t : Tables) (codes : List (Option Byte)) :
    hyphenWord t codes = none ↔ ∀ k e, ¬LetterAt t codes k e := by
  simp only [hyphenWord, hyphenWordFrom_eq_none_iff, List.mem_iff_getElem?, classified_letter_iff, not_exists]
  exact forall_comm

theorem hyphenWord_liesIn {t : Tables} {codes : List (Option Byte)} {w : HyphenWord} (h : hyphenWord t codes = some w) :
    w.LiesIn (codes.map (classify t)) :=
  hyphenWordFrom_liesIn List.drop_zero h

/-! ### The candidates chosen from the gaps (R92, R96, R98 to R100, R105) -/

/-- The gap after letter `i`, counting from 1. -/
def HyphenWord.GapAfter (w : HyphenWord) (i : Nat) (g : Bool × Nat) : Prop := 1 ≤ i ∧ w.gaps[i - 1]? = some g

theorem HyphenWord.mem_numbered_iff (w : HyphenWord) (g : Bool × Nat) (i : Nat) :
    (g, i) ∈ w.numbered ↔ w.GapAfter i g :=
  List.mem_zipIdx_iff_le_and_getElem?_sub

theorem HyphenWord.mem_chosen_iff (w : HyphenWord) (keep : Bool × Nat → Nat → Bool) (source : BreakSource)
    (x : Candidate) :
    (x ∈ w.numbered.filterMap fun (g, i) => if keep g i then some ⟨g.2, source⟩ else none) ↔
      ∃ i g, w.GapAfter i g ∧ keep g i = true ∧ x = ⟨g.2, source⟩ := by
  simp only [List.mem_filterMap, Prod.exists (α := Bool × Nat), mem_numbered_iff]
  grind

theorem meetsMinimums_iff (p : Params) (n i : Nat) :
    meetsMinimums p n i = true ↔ p.leftMin ≤ i ∧ i + p.rightMin ≤ n := by
  simp [meetsMinimums]

theorem mem_hyphenCandidates_iff (p : Params) (w : HyphenWord) (x : Candidate) :
    x ∈ hyphenCandidates p w ↔ ∃ i place, w.GapAfter i (true, place) ∧
      (p.leftMin ≤ i ∧ i + p.rightMin ≤ w.letters.length) ∧ x = ⟨place, .hyphenCharacter⟩ := by
  rw [hyphenCandidates, w.mem_chosen_iff fun g i => g.1 && meetsMinimums p w.letters.length i]
  simp [meetsMinimums_iff]

theorem mem_entryCandidates_iff (p : Params) (w : HyphenWord) (e : DictEntry) (x : Candidate) :
    x ∈ entryCandidates p w e ↔ ∃ i hyphen place, w.GapAfter i (hyphen, place) ∧ i ∈ e.breaks ∧
      (p.leftMin ≤ i ∧ i + p.rightMin ≤ w.letters.length) ∧ x = ⟨place, .dictionary⟩ := by
  rw [entryCandidates, w.mem_chosen_iff fun _ i => e.breaks.contains i && meetsMinimums p w.letters.length i]
  simp [meetsMinimums_iff, and_assoc]

theorem mem_ruleCandidates_iff (p : Params) (t : Tables) (w : HyphenWord) (x : Candidate) :
    x ∈ ruleCandidates p t w ↔ ∃ i hyphen place, w.GapAfter i (hyphen, place) ∧ p.threshold ≤ w.score t i ∧
      (p.leftMin ≤ i ∧ i + p.rightMin ≤ w.letters.length) ∧ w.classAt i ≠ 4 ∧ x = ⟨place, .rule⟩ := by
  rw [ruleCandidates, w.mem_chosen_iff fun _ i =>
    decide (p.threshold ≤ w.score t i) && meetsMinimums p w.letters.length i && decide (w.classAt i ≠ 4)]
  simp [meetsMinimums_iff, and_assoc]

/-! ### Rows 6 to 10 (R93, R95 to R97) -/

/-- The word is a compound: a hyphen stands between two of its letters (R91). -/
def HyphenWord.Compound (w : HyphenWord) : Prop := ∃ i place, w.GapAfter i (true, place)

/-- The word begins with a capital, and words that do are not hyphenated (R97). -/
def HyphenWord.Capital (w : HyphenWord) (p : Params) : Prop :=
  p.capitals = false ∧ ∃ e, w.letters.head? = some e ∧ e.upper = true

/-- The word is too long or too short (R93). -/
def HyphenWord.Outside (w : HyphenWord) (p : Params) : Prop :=
  32 < w.letters.length ∨ w.letters.length < p.leftMin + p.rightMin

theorem HyphenWord.compound_iff (w : HyphenWord) : (w.gaps.any (·.1)) = true ↔ w.Compound := by
  rw [List.any_eq_true]
  refine ⟨fun ⟨(hyphen, place), mem, yes⟩ => ?_, fun ⟨i, place, _, found⟩ => ⟨_, List.mem_of_getElem? found, rfl⟩⟩
  obtain ⟨i, found⟩ := List.mem_iff_getElem?.mp mem
  obtain rfl : hyphen = true := yes
  exact ⟨i + 1, place, Nat.le_add_left 1 i, found⟩

theorem HyphenWord.capital_iff (w : HyphenWord) (p : Params) :
    ((w.letters.head?.map (·.upper)).getD false && !p.capitals) = true ↔ w.Capital p := by
  cases first : w.letters.head? with
  | none => simp [Capital, first]
  | some e => simp [Capital, first, and_comm]

section Rows

variable {p : Params} {t : Tables} {d : List DictEntry} {w : HyphenWord}

theorem eligible_of_compound (compound : w.Compound) : eligible p t d w = hyphenCandidates p w :=
  if_pos (w.compound_iff.mpr compound)

theorem eligible_of_excluded (plain : ¬w.Compound) (excluded : w.Capital p ∨ w.Outside p) : eligible p t d w = [] := by
  rw [eligible, if_neg (mt w.compound_iff.mp plain)]
  split_ifs with capital outside
  · rfl
  · rfl
  · rw [w.capital_iff] at capital
    exact absurd excluded (not_or.mpr ⟨capital, outside⟩)

theorem eligible_of_admitted (plain : ¬w.Compound) (small : ¬w.Capital p) (within : ¬w.Outside p) :
    eligible p t d w =
      (d.find? fun e => e.word == w.letters.map (·.fold)).elim (ruleCandidates p t w) (entryCandidates p w) := by
  rw [eligible, if_neg (mt w.compound_iff.mp plain), if_neg (mt (w.capital_iff p).mp small)]
  refine (if_neg within).trans ?_
  cases d.find? fun e => e.word == w.letters.map (·.fold) with
  | none => rfl
  | some e => rfl

/-- The dictionary's only entry of the word gives its breaks. -/
theorem eligible_of_entry (plain : ¬w.Compound) (small : ¬w.Capital p) (within : ¬w.Outside p) {e : DictEntry}
    (mem : e ∈ d) (word : e.word = w.letters.map (·.fold))
    (only : ∀ f ∈ d, f.word = w.letters.map (·.fold) → f = e) : eligible p t d w = entryCandidates p w e := by
  have found : d.find? (fun e => e.word == w.letters.map (·.fold)) = some e := by
    cases found : d.find? (fun e => e.word == w.letters.map (·.fold)) with
    | none => exact absurd (beq_iff_eq.mpr word) (List.find?_eq_none.mp found e mem)
    | some f => exact congrArg some (only f (List.mem_of_find?_eq_some found) (by simpa using List.find?_some found))
  rw [eligible_of_admitted plain small within, found, Option.elim_some]

theorem eligible_of_noEntry (plain : ¬w.Compound) (small : ¬w.Capital p) (within : ¬w.Outside p)
    (unknown : ∀ e ∈ d, e.word ≠ w.letters.map (·.fold)) : eligible p t d w = ruleCandidates p t w := by
  have missing : d.find? (fun e => e.word == w.letters.map (·.fold)) = none :=
    List.find?_eq_none.mpr fun e mem => by simpa using unknown e mem
  rw [eligible_of_admitted plain small within, missing, Option.elim_none]

end Rows

/-! ### Rows 1 to 5 (R93, R94) -/

theorem Word.innerMarks_eq (w : Word) :
    w.innerMarks = w.marks.filter fun k => decide (1 ≤ k ∧ k < w.codes.length) := by
  simp only [innerMarks, Bool.decide_and]

section Admission

variable {p : Params} {ladder : Nat} {t : Tables} {d : List DictEntry} {w : Word}

theorem candidates_of_barred
    (barred : p.hyphenation = false ∨ (p.ladderLimit ≠ 0 ∧ p.ladderLimit ≤ ladder) ∨ w.noHyphenate = true) :
    candidates p ladder t d w = [] := by
  unfold candidates
  rcases barred with off | limit | noHyphenate
  · rw [off]
    rfl
  · rw [if_pos limit, ite_self]
  · rw [if_pos noHyphenate, ite_self, ite_self]

theorem candidates_of_admitted (on : p.hyphenation = true) (below : p.ladderLimit = 0 ∨ ladder < p.ladderLimit)
    (free : w.noHyphenate = false) :
    candidates p ladder t d w =
      if w.innerMarks ≠ [] then w.innerMarks.map fun k => ⟨k, .discretionary⟩
      else (hyphenWord t w.codes).elim [] (eligible p t d) := by
  have off : ¬(!p.hyphenation) = true := by simp [on]
  have limit : ¬(p.ladderLimit ≠ 0 ∧ p.ladderLimit ≤ ladder) := by omega
  have held : ¬w.noHyphenate = true := by simp [free]
  rw [candidates, if_neg off, if_neg limit, if_neg held]
  cases hyphenWord t w.codes with
  | none => rfl
  | some h => rfl

end Admission

/-- Settles O27: the rows of R93 one by one, and the gaps of the hyphenation word by where it lies in the word. -/
theorem candidatesFollowTheOrderOfEligibility : Obligations.CandidatesFollowTheOrderOfEligibility := by
  unfold Obligations.CandidatesFollowTheOrderOfEligibility
  intro p ladder t d w cs inside letter
  refine ⟨candidates_of_barred, fun on below free => ?_, candidates_rising p ladder t d⟩
  have inside_eq : inside = w.innerMarks := w.innerMarks_eq.symm
  have admitted : cs = _ := candidates_of_admitted on below free
  rw [inside_eq]
  refine ⟨fun marks => admitted.trans (if_pos marks), fun noMarks noLetter => ?_,
    fun noMarks ⟨k, e, isLetter⟩ => ?_⟩
  · rw [admitted, if_neg (not_not_intro noMarks), (hyphenWord_eq_none_iff t w.codes).mpr noLetter, Option.elim_none]
  · obtain ⟨h, hyphenated⟩ : ∃ h, hyphenWord t w.codes = some h :=
      Option.ne_none_iff_exists'.mp fun missing => (hyphenWord_eq_none_iff t w.codes).mp missing k e isLetter
    rw [if_neg (not_not_intro noMarks), hyphenated, Option.elim_some] at admitted
    have lies := hyphenWord_liesIn hyphenated
    refine ⟨h, hyphenated, lies.count, fun i hyphen place gap => ?_, fun compound x => ?_, fun plain excluded => ?_,
      fun plain small within => ⟨fun e mem word only x => ?_, fun unknown x => ?_⟩⟩
    · obtain ⟨begun, found⟩ := gap
      obtain ⟨a, b, before, after, between⟩ := lies.between _ _ found
      rw [Nat.sub_add_cancel begun] at after
      refine ⟨a, b, before, after, ?_⟩
      simp only [StandsBetween, classified_letter_iff, classified_hyphen_iff] at between
      exact between
    · rw [admitted, eligible_of_compound compound, mem_hyphenCandidates_iff]
      rfl
    · rw [admitted, eligible_of_excluded plain excluded]
    · rw [admitted, eligible_of_entry plain small within mem word only, mem_entryCandidates_iff]
      rfl
    · rw [admitted, eligible_of_noEntry plain small within unknown, mem_ruleCandidates_iff]
      rfl

end Sys2Proof.Machine
end

section
/-! PROOFS. The line slots and what names them (`SlotLaw`): `Store.InStep` is the law on the Line Store, with the slots
named by the Composer's open line, by the line in hand, and by a decision under way; one lemma says of each change of a
slot's state that the lists follow it. -/

namespace Sys2Proof.Machine

open Sys2Proof Sys2Proof.Safety

/-! ### The slots in one state -/

/-- Slot `i` is in a state. -/
def Store.Has (st : Store) (i : Nat) (state : SlotState) : Prop := i < 8 ∧ (st.slot i).state = state

/-- The slots named are exactly those in a state. -/
def Store.Names (st : Store) (named : Nat → Prop) (state : SlotState) : Prop := ∀ i, named i ↔ st.Has i state

section Slots

variable {st : Store} {named named' : Nat → Prop} {state : SlotState} {i : Nat} {x : LineSlot}

theorem Store.has_putSlot (j : Nat) :
    (st.putSlot i x).Has j state ↔ if i = j ∧ i < 8 then x.state = state else st.Has j state := by
  unfold Store.Has
  rw [slot_putSlot]
  split
  · next same =>
    obtain ⟨rfl, small⟩ := same
    exact and_iff_right small
  · exact Iff.rfl

/-- A slot that leaves its state for another matters to no third state. -/
theorem Store.Names.kept (h : st.Names named state) (was : (st.slot i).state ≠ state) (now : x.state ≠ state) :
    (st.putSlot i x).Names named state := by
  intro j
  rw [h j, Store.has_putSlot]
  split
  · next same =>
    obtain ⟨rfl, -⟩ := same
    exact iff_of_false (fun has => was has.2) now
  · exact Iff.rfl

/-- A slot written in the state it had. -/
theorem Store.Names.same (h : st.Names named state) (now : x.state = (st.slot i).state) :
    (st.putSlot i x).Names named state := by
  intro j
  rw [h j, Store.has_putSlot]
  split
  · next same =>
    obtain ⟨rfl, small⟩ := same
    rw [now]
    exact and_iff_right small
  · exact Iff.rfl

/-- A slot that comes into a state is named with the others. -/
theorem Store.Names.joined (h : st.Names named state) (small : i < 8) (now : x.state = state)
    (join : ∀ j, named' j ↔ named j ∨ j = i) : (st.putSlot i x).Names named' state := by
  intro j
  rw [join j, h j, Store.has_putSlot]
  split
  · next same => exact iff_of_true (.inr same.1.symm) now
  · next other => exact or_iff_left fun same => other ⟨same.symm, small⟩

/-- A slot that leaves a state is no longer named. -/
theorem Store.Names.left (h : st.Names named state) (now : x.state ≠ state)
    (leave : ∀ j, named' j ↔ named j ∧ j ≠ i) : (st.putSlot i x).Names named' state := by
  intro j
  rw [leave j, h j, Store.has_putSlot]
  split
  · next same => exact iff_of_false (fun both => both.2 same.1.symm) now
  · next other => exact and_iff_left_of_imp fun has same => other ⟨same.symm, same ▸ has.1⟩

end Slots

/-! ### The lists and lines that name the slots (R111, R112, R114, R116, R120) -/

/-- The slots in step with what names them: the ready and awaiting lists, the open line, the line in hand, and a slot
on which the Proof Spooler has still to decide. -/
structure Store.InStep (st : Store) (filling imaging undecided : Option Nat) : Prop where
  readyOnce : st.ready.Nodup
  awaitingOnce : st.awaiting.Nodup
  ready : st.Names (· ∈ st.ready) .ready
  awaiting : st.Names (· ∈ st.awaiting) .setAwaiting
  filling : st.Names (filling = some ·) .filling
  imaging : st.Names (imaging = some ·) .imaging
  undecided : st.Names (undecided = some ·) .setUndecided

theorem slotLaw_iff (s : State) :
    SlotLaw s ↔ s.store.InStep s.composer.phase.openSlot (s.imager.line.map (·.slot)) none := by
  constructor
  · rintro ⟨readyOnce, awaitingOnce, ready, awaiting, filling, imaging, decided⟩
    exact ⟨readyOnce, awaitingOnce, ready, awaiting, filling, imaging,
      fun i => iff_of_false nofun fun has => decided i has.1 has.2⟩
  · intro h
    exact ⟨h.readyOnce, h.awaitingOnce, h.ready, h.awaiting, h.filling, h.imaging,
      fun i small now => nomatch (h.undecided i).mpr ⟨small, now⟩⟩

section InStep

variable {st : Store} {filling imaging undecided : Option Nat} {i : Nat}

/-- Allocation (R112). -/
theorem Store.InStep.fill (h : st.InStep none imaging undecided) (free : st.Has i .free) (r : LineRecord) :
    (st.fill i r).InStep (some i) imaging undecided := by
  obtain ⟨small, was⟩ := free
  exact {
    readyOnce := h.readyOnce
    awaitingOnce := h.awaitingOnce
    ready := h.ready.kept (by simp [was]) nofun
    awaiting := h.awaiting.kept (by simp [was]) nofun
    filling := h.filling.joined small rfl fun j => by simp [eq_comm]
    imaging := h.imaging.kept (by simp [was]) nofun
    undecided := h.undecided.kept (by simp [was]) nofun }

/-- A close (R114). -/
theorem Store.InStep.close (h : st.InStep (some i) imaging undecided) (r : LineRecord) :
    (st.close i r).InStep none imaging undecided := by
  obtain ⟨small, was⟩ := (h.filling i).mp rfl
  have fresh : i ∉ st.ready := fun mem => by simpa [was] using ((h.ready i).mp mem).2
  exact {
    readyOnce := (List.concat_eq_append ▸ List.Nodup.concat fresh h.readyOnce : (st.ready ++ [i]).Nodup)
    awaitingOnce := h.awaitingOnce
    ready := h.ready.joined small rfl fun j => by simp [Store.close]
    awaiting := h.awaiting.kept (by simp [was]) nofun
    filling := h.filling.left nofun fun j => by simp [eq_comm]
    imaging := h.imaging.kept (by simp [was]) nofun
    undecided := h.undecided.kept (by simp [was]) nofun }

theorem Store.mem_release_awaiting (j : Nat) : j ∈ (st.release i).awaiting ↔ j ∈ st.awaiting ∧ j ≠ i := by
  simp

/-- A line killed (R87). -/
theorem Store.InStep.kill (h : st.InStep (some i) imaging undecided) :
    (st.release i).InStep none imaging undecided := by
  obtain ⟨small, was⟩ := (h.filling i).mp rfl
  exact {
    readyOnce := h.readyOnce
    awaitingOnce := h.awaitingOnce.filter _
    ready := h.ready.kept (by simp [was]) nofun
    awaiting := h.awaiting.left nofun st.mem_release_awaiting
    filling := h.filling.left nofun fun j => by simp [eq_comm]
    imaging := h.imaging.kept (by simp [was]) nofun
    undecided := h.undecided.kept (by simp [was]) nofun }

/-- The line taken from the head of the ready list (R116). -/
theorem Store.InStep.take (h : st.InStep filling none undecided) {rest : List Nat} (ready : st.ready = i :: rest) :
    Store.InStep { st.mark i .imaging with ready := st.ready.tail } filling (some i) undecided := by
  obtain ⟨small, was⟩ := (h.ready i).mp (by simp [ready])
  have once := h.readyOnce
  rw [ready, List.nodup_cons] at once
  exact {
    readyOnce := by simpa [ready] using once.2
    awaitingOnce := h.awaitingOnce
    ready := h.ready.left nofun fun j => by
      simp only [ready, List.tail_cons, List.mem_cons]
      exact ⟨fun mem => ⟨.inr mem, ne_of_mem_of_not_mem mem once.1⟩, fun both => both.1.resolve_left both.2⟩
    awaiting := h.awaiting.kept (by simp [was]) nofun
    filling := h.filling.kept (by simp [was]) nofun
    imaging := h.imaging.joined small rfl fun j => by simp [eq_comm]
    undecided := h.undecided.kept (by simp [was]) nofun }

/-- The imaging end, before the Proof Spooler decides (R117). -/
theorem Store.InStep.set (h : st.InStep filling (some i) none) (r : LineRecord) :
    (st.putSlot i ⟨.setUndecided, r⟩).InStep filling none (some i) := by
  obtain ⟨small, was⟩ := (h.imaging i).mp rfl
  exact {
    readyOnce := h.readyOnce
    awaitingOnce := h.awaitingOnce
    ready := h.ready.kept (by simp [was]) nofun
    awaiting := h.awaiting.kept (by simp [was]) nofun
    filling := h.filling.kept (by simp [was]) nofun
    imaging := h.imaging.left nofun fun j => by simp [eq_comm]
    undecided := h.undecided.joined small rfl fun j => by simp [eq_comm] }

/-- The decision that a line does not wait (R120, R165). -/
theorem Store.InStep.decideFree (h : st.InStep filling imaging (some i)) :
    (st.release i).InStep filling imaging none := by
  obtain ⟨small, was⟩ := (h.undecided i).mp rfl
  exact {
    readyOnce := h.readyOnce
    awaitingOnce := h.awaitingOnce.filter _
    ready := h.ready.kept (by simp [was]) nofun
    awaiting := h.awaiting.left nofun st.mem_release_awaiting
    filling := h.filling.kept (by simp [was]) nofun
    imaging := h.imaging.kept (by simp [was]) nofun
    undecided := h.undecided.left nofun fun j => by simp [eq_comm] }

/-- The decision that a line awaits proof (R120, R167). -/
theorem Store.InStep.await (h : st.InStep filling imaging (some i)) :
    (st.await i).InStep filling imaging none := by
  obtain ⟨small, was⟩ := (h.undecided i).mp rfl
  have fresh : i ∉ st.awaiting := fun mem => by simpa [was] using ((h.awaiting i).mp mem).2
  exact {
    readyOnce := h.readyOnce
    awaitingOnce := (List.concat_eq_append ▸ List.Nodup.concat fresh h.awaitingOnce : (st.awaiting ++ [i]).Nodup)
    ready := h.ready.kept (by simp [was]) nofun
    awaiting := h.awaiting.joined small rfl fun j => by simp
    filling := h.filling.kept (by simp [was]) nofun
    imaging := h.imaging.kept (by simp [was]) nofun
    undecided := h.undecided.left nofun fun j => by simp [eq_comm] }

/-- A slot that awaited proof is copied or skipped (R169, R170). -/
theorem Store.InStep.releaseAwaiting (h : st.InStep filling imaging undecided) (waits : i ∈ st.awaiting) :
    (st.release i).InStep filling imaging undecided := by
  obtain ⟨small, was⟩ := (h.awaiting i).mp waits
  exact {
    readyOnce := h.readyOnce
    awaitingOnce := h.awaitingOnce.filter _
    ready := h.ready.kept (by simp [was]) nofun
    awaiting := h.awaiting.left nofun st.mem_release_awaiting
    filling := h.filling.kept (by simp [was]) nofun
    imaging := h.imaging.kept (by simp [was]) nofun
    undecided := h.undecided.kept (by simp [was]) nofun }

theorem Store.InStep.putRecord (h : st.InStep filling imaging undecided) (i : Nat) (r : LineRecord) :
    (st.putRecord i r).InStep filling imaging undecided :=
  ⟨h.readyOnce, h.awaitingOnce, h.ready.same rfl, h.awaiting.same rfl, h.filling.same rfl, h.imaging.same rfl,
    h.undecided.same rfl⟩

/-- Discard marking changes no slot's state (R118). -/
theorem Store.slot_discardReady_state (st : Store) (i : Nat) :
    (st.discardReady.slot i).state = (st.slot i).state := by
  unfold Store.slot Store.discardReady tabGet
  by_cases small : i < 8
  · simp only [Vector.getElem?_eq_getElem small, Vector.getElem_map, Option.getD_some]
    split <;> rfl
  · simp [small]

theorem Store.InStep.discardReady (h : st.InStep filling imaging undecided) :
    st.discardReady.InStep filling imaging undecided := by
  have names {named : Nat → Prop} {state : SlotState} (h : st.Names named state) :
      st.discardReady.Names named state := fun i => by
    rw [h i, Store.Has, Store.Has, Store.slot_discardReady_state]
  exact ⟨h.readyOnce, h.awaitingOnce, names h.ready, names h.awaiting, names h.filling, names h.imaging,
    names h.undecided⟩

/-- With no slot IMAGING no line is in hand (R116). -/
theorem Store.InStep.imaging_none (h : st.InStep filling imaging undecided) (none : st.imaging = Option.none) :
    imaging = Option.none := by
  refine Option.eq_none_iff_forall_not_mem.mpr fun i mem => ?_
  obtain ⟨small, now⟩ := (h.imaging i).mp mem
  unfold Store.imaging at none
  simp only [List.find?_eq_none, List.mem_range, beq_iff_eq] at none
  exact none i small now

end InStep

end Sys2Proof.Machine
end

section
/-! PROOFS. The line slots over every operation of the photo unit's side: `Photo.Steady` says that an operation keeps
them in step with what names them, it composes, and there is one lemma for each operation of the model. -/

namespace Sys2Proof.Machine

open Sys2Proof Sys2Proof.Safety

/-- The slot of the line in hand (R116). -/
def Imager.lineSlot (x : Imager) : Option Nat := x.line.map (·.slot)

theorem Imager.lineSlot_of_line {x : Imager} {pr : Progress} (h : x.line = some pr) : x.lineSlot = some pr.slot := by
  simp [Imager.lineSlot, h]

/-- The slots in step, as the photo unit's side sees them, with a slot for the Composer's open line. -/
def Photo.InStep (p : Photo) (filling : Option Nat) : Prop := p.store.InStep filling p.imager.lineSlot none

/-- `q` comes of `p` by operations that keep the slots in step, whatever line the Composer has open. -/
def Photo.Steady (p q : Photo) : Prop := ∀ filling, p.InStep filling → q.InStep filling

theorem Photo.Steady.refl {p : Photo} : p.Steady p := fun _ => id

theorem Photo.Steady.trans {p q r : Photo} (hpq : p.Steady q) (hqr : q.Steady r) : p.Steady r :=
  fun filling h => hqr filling (hpq filling h)

/-- `Photo.Steady.trans` with the later operation first. -/
theorem Photo.Steady.after {p q r : Photo} (hqr : q.Steady r) (hpq : p.Steady q) : p.Steady r := hpq.trans hqr

variable {p : Photo} {pr : Progress}

/-! ### Small writers -/

/-- An operation that leaves the Line Store and the slot of the line in hand alone. -/
theorem Photo.steady_of_eq {q : Photo} (store : q.store = p.store) (line : q.imager.lineSlot = p.imager.lineSlot) :
    p.Steady q := fun filling h => by
  unfold Photo.InStep
  rw [store, line]
  exact h

theorem Photo.withImager_steady {x : Imager} (line : x.line = p.imager.line) : p.Steady (p.withImager x) :=
  Photo.steady_of_eq rfl (congrArg (Option.map Progress.slot) line)

theorem Photo.enter_steady (state : ImagerState) : p.Steady (p.enter state) := Photo.withImager_steady rfl

theorem Photo.withLine_steady (line : p.imager.lineSlot = some pr.slot) : p.Steady (p.withLine pr) :=
  Photo.steady_of_eq rfl line.symm

theorem Photo.post_steady (e : Event) : p.Steady (p.post e) := Photo.steady_of_eq rfl rfl

theorem Photo.withProof_steady (x : Proof) : p.Steady (p.withProof x) := Photo.steady_of_eq rfl rfl

theorem Photo.flagLine_steady (f : LineFlags → LineFlags) : p.Steady (p.flagLine f) := by
  unfold Photo.flagLine
  split
  · exact .refl
  · exact fun filling h => Store.InStep.putRecord h _ _

/-! ### The Proof Spooler (chapter 9) -/

/-- The decision settles the undecided slot: it is FREE, or it awaits proof (R120, R165, R167). -/
theorem Photo.decideProof_inStep {filling imaging : Option Nat} {i : Nat}
    (h : p.store.InStep filling imaging (some i)) : (p.decideProof i).store.InStep filling imaging none := by
  unfold Photo.decideProof
  split
  · split
    · exact h.decideFree
    · split
      · exact h.decideFree
      · split
        · exact h.decideFree
        · exact h.await
  · exact h.decideFree

theorem Photo.finishRecord_steady : p.Steady p.finishRecord := by
  intro filling h
  unfold Photo.finishRecord
  dsimp only
  split
  · exact h
  · next i rest waits =>
    exact Store.InStep.releaseAwaiting h (show i ∈ p.store.awaiting by
      rw [show p.store.awaiting = i :: rest from waits]; exact List.mem_cons_self)

theorem Photo.accept_steady : p.Steady p.accept := by
  unfold Photo.accept
  split
  · extract_lets _ q _ r
    have accepted : Photo.Steady p q := Photo.withProof_steady _
    have moved : Photo.Steady q r := by
      unfold r
      split
      · exact Photo.withProof_steady _
      · exact Photo.finishRecord_steady
    exact (accepted.trans moved).trans (Photo.withProof_steady _)
  · exact .refl

/-- Every slot that awaits proof is skipped, each once (R170). -/
theorem Photo.skipAll_steady (slots : List Nat) (once : slots.Nodup) (p : Photo)
    (await : ∀ i ∈ slots, i ∈ p.store.awaiting) : p.Steady (slots.foldl Photo.skipLine p) := by
  induction slots generalizing p with
  | nil => exact .refl
  | cons i rest ih =>
    obtain ⟨other, once⟩ := List.nodup_cons.mp once
    have skipped : p.Steady (p.skipLine i) := fun filling h =>
      Store.InStep.releaseAwaiting h (await i List.mem_cons_self)
    refine skipped.trans (ih once (p.skipLine i) fun j mem => ?_)
    simp only [Photo.skipLine_store, release_awaiting, List.mem_filter, bne_iff_ne]
    exact ⟨await j (List.mem_cons_of_mem i mem), ne_of_mem_of_not_mem mem other⟩

theorem Photo.goOffline_steady (note : Bool) : p.Steady (p.goOffline note) := by
  unfold Photo.goOffline
  extract_lets x q
  intro filling h
  exact Photo.skipAll_steady q.store.awaiting h.awaitingOnce q (fun _ => id) filling h

theorem Photo.deselect_steady : p.Steady p.deselect := by
  unfold Photo.deselect
  split
  · exact Photo.goOffline_steady true
  · exact Photo.withProof_steady _

theorem Photo.reselect_steady : p.Steady p.reselect := by
  unfold Photo.reselect
  split
  · exact Photo.withProof_steady _
  · exact .refl

theorem Photo.notBusy_steady : p.Steady p.notBusy := by
  unfold Photo.notBusy
  split
  · exact Photo.withProof_steady _
  · exact .refl

theorem Photo.busyExpires_steady : p.Steady p.busyExpires := by
  unfold Photo.busyExpires
  split
  · exact Photo.goOffline_steady false
  · exact .refl

theorem Photo.ackExpires_steady : p.Steady p.ackExpires := by
  unfold Photo.ackExpires
  split
  · exact Photo.withProof_steady _
  · exact Photo.goOffline_steady false
  · exact .refl

/-! ### The imaging end (R117, R120) -/

theorem Photo.imagingEnd_steady (o : LineOutcome) (tag : Nat) : p.Steady (p.imagingEnd o tag) := by
  intro filling h
  unfold Photo.imagingEnd
  split
  · exact h
  · next pr line =>
    extract_lets _ r q _ u
    obtain ⟨reply, written⟩ := Photo.writeLog_frame u (logRecord r o tag pr)
    obtain ⟨st, x, reply', decided⟩ := Photo.decideProof_frame (u.writeLog (logRecord r o tag pr)) pr.slot
    have set : (u.writeLog (logRecord r o tag pr)).store.InStep filling none (some pr.slot) := by
      rw [written]
      rw [Photo.InStep, Imager.lineSlot_of_line line] at h
      exact h.set r
    have free := Photo.decideProof_inStep set
    have imager : ((u.writeLog (logRecord r o tag pr)).decideProof pr.slot).imager.lineSlot = none := by
      rw [decided, written]
      rfl
    unfold Photo.InStep
    rw [imager]
    exact free

/-- With the imaging end no line is in hand. -/
@[simp] theorem Photo.imagingEnd_imager (p : Photo) (o : LineOutcome) (tag : Nat) :
    (p.imagingEnd o tag).imager = { p.imager with line := none } := by
  cases line : p.imager.line with
  | none =>
    rw [Photo.imagingEnd_none p o tag line]
    conv_lhs => rw [show p.imager = { p.imager with line := p.imager.line } from rfl, line]
  | some pr =>
    obtain ⟨st, x, r, ended⟩ := Photo.imagingEnd_frame p o tag pr line
    rw [ended]

/-! ### Stopping (R129, R148) -/

theorem Photo.abandonLine_steady : p.Steady p.abandonLine := by
  unfold Photo.abandonLine
  split
  · exact (Photo.imagingEnd_steady _ _).after (Photo.steady_of_eq rfl rfl)
  · exact .refl

theorem Photo.haltNow_steady : p.Steady p.haltNow := by
  unfold Photo.haltNow
  split
  · exact .refl
  · exact Photo.abandonLine_steady.trans (Photo.withImager_steady rfl)

theorem Photo.halt_steady (e : Event) : p.Steady (p.halt e) := (Photo.post_steady e).trans Photo.haltNow_steady

theorem Photo.spend_steady (timer : ImagerTimer) : p.Steady (p.spend timer) := Photo.withImager_steady rfl

theorem Photo.expire_steady (timer : ImagerTimer) (e : Event) : p.Steady (p.expire timer e) := by
  rcases Photo.expire_cases p timer e with ⟨-, runs⟩ | ⟨-, -, -, spent⟩ | ⟨-, -, idle⟩
  · rw [runs]; exact (Photo.halt_steady e).trans (Photo.spend_steady timer)
  · rw [spent]; exact (Photo.post_steady e).trans (Photo.spend_steady timer)
  · rw [idle]; exact .refl

/-! ### Motions and homing (R126, R135 to R137, R149) -/

@[simp] theorem Imager.driveCarriage_line (x : Imager) (target : Nat) : (x.driveCarriage target).line = x.line := by
  unfold Imager.driveCarriage
  split <;> rfl

@[simp] theorem Imager.driveTurret_line (x : Imager) (lens : Nat) : (x.driveTurret lens).line = x.line := by
  unfold Imager.driveTurret
  split <;> rfl

@[simp] theorem Imager.selectRing_line (x : Imager) (ring : Nat) : (x.selectRing ring).line = x.line := by
  unfold Imager.selectRing
  split <;> rfl

@[simp] theorem Imager.position_line (x : Imager) (g : Glyph) : (x.position g).line = x.line := by
  simp [Imager.position]

@[simp] theorem Imager.homed_line (x : Imager) : x.homed.line = x.line := by
  unfold Imager.homed
  split <;> rfl

theorem Photo.beginHoming_steady (detent : Bool) : p.Steady (p.beginHoming detent) := by
  unfold Photo.beginHoming
  extract_lets _ y driven placed
  have still : driven.line = p.imager.line := y.driveCarriage_line 0
  have line : placed.line = driven.line := by
    unfold placed
    split
    · rfl
    · split <;> rfl
  exact Photo.steady_of_eq rfl (congrArg (Option.map Progress.slot) (placed.homed_line.trans (line.trans still)))

/-! ### A line in hand (R131 to R144) -/

@[simp] theorem Photo.applyFilm_imager (p : Photo) (y : FilmResult) : (p.applyFilm y).imager = p.imager := by
  obtain ⟨st, r, applied⟩ := Photo.applyFilm_frame p y
  rw [applied]

theorem Photo.applyFilm_steady (y : FilmResult) : p.Steady (p.applyFilm y) := by
  have posts (l : List Event) : ∀ q : Photo, q.Steady (l.foldl Photo.post q) := by
    induction l with
    | nil => exact fun q => .refl
    | cons e l ih => exact fun q => (Photo.post_steady e).trans (ih _)
  have moved : p.Steady (y.posts.foldl Photo.post { p with film := y.film }) :=
    (posts y.posts _).after (Photo.steady_of_eq rfl rfl)
  unfold Photo.applyFilm
  dsimp only
  split
  · exact moved.trans (Photo.flagLine_steady _)
  · exact moved

theorem Photo.completeLine_steady : p.Steady p.completeLine :=
  (Photo.imagingEnd_steady _ _).trans (Photo.enter_steady _)

theorem Photo.goHome_steady (pr : Progress) : p.Steady (p.goHome pr) := by
  unfold Photo.goHome
  split
  · exact Photo.completeLine_steady
  · exact Photo.withImager_steady (by simp)

theorem Photo.pursueCut_steady (line : p.imager.lineSlot = some pr.slot) : p.Steady (p.pursueCut pr) := by
  unfold Photo.pursueCut
  split
  · exact Photo.completeLine_steady
  · split
    · exact .refl
    · split
      · extract_lets y q
        have asked : Photo.Steady p q := (Photo.applyFilm_steady y).after (Photo.withLine_steady line)
        split
        · exact asked.trans Photo.haltNow_steady
        · exact asked
      · exact Photo.withImager_steady (by simp)

theorem Photo.waitMount_steady (line : p.imager.lineSlot = some pr.slot) (disc : Nat) :
    p.Steady (p.waitMount pr disc) :=
  Photo.steady_of_eq rfl line.symm

theorem Photo.startGlyph_steady (line : p.imager.lineSlot = some pr.slot) : p.Steady (p.startGlyph pr) := by
  unfold Photo.startGlyph
  split
  · exact .refl
  · split
    · exact Photo.steady_of_eq rfl line.symm
    · exact Photo.waitMount_steady line _

theorem Photo.pursue_steady : p.Steady p.pursue := by
  unfold Photo.pursue
  split
  · exact .refl
  · next pr inHand =>
    have line := Imager.lineSlot_of_line inHand
    split
    · exact Photo.startGlyph_steady line
    · exact Photo.startGlyph_steady line
    · exact Photo.goHome_steady pr
    · exact Photo.pursueCut_steady line

theorem Photo.pursueSetting_steady : p.Steady p.pursueSetting := by
  unfold Photo.pursueSetting
  split
  · exact Photo.pursue_steady
  · exact .refl

theorem Photo.nextGlyph_steady (line : p.imager.lineSlot = some pr.slot) : p.Steady (p.nextGlyph pr) := by
  unfold Photo.nextGlyph
  extract_lets next after
  have slot : after.slot = pr.slot := by
    unfold after
    split <;> rfl
  exact (Photo.withLine_steady (by rw [slot, line])).trans Photo.pursueSetting_steady

/-! ### Reports of Film Transport (R132, R144, R148) -/

theorem Photo.filmDone_steady (tag : Nat) : p.Steady (p.filmDone tag) := by
  unfold Photo.filmDone
  extract_lets _ q
  have tagged : Photo.Steady p q := Photo.withImager_steady rfl
  refine tagged.trans ?_
  split
  · exact .refl
  · next pr inHand =>
    have line := Imager.lineSlot_of_line inHand
    extract_lets phase r
    have lined : Photo.Steady q r := Photo.withLine_steady line
    split
    · exact lined
    · exact lined.trans Photo.pursueSetting_steady

theorem Photo.cutEnds_steady : p.Steady p.cutEnds := by
  unfold Photo.cutEnds
  split
  · exact .refl
  · next pr inHand =>
    have line := Imager.lineSlot_of_line inHand
    exact Photo.pursueSetting_steady.after (Photo.withLine_steady line)

theorem Photo.takeReport_steady (r : Report) : p.Steady (p.takeReport r) := by
  cases r with
  | moveDone tag => exact Photo.filmDone_steady tag
  | cutDone => exact Photo.cutEnds_steady
  | filmFault => exact Photo.haltNow_steady

theorem Photo.runFilm_steady (y : FilmResult) : p.Steady (p.runFilm y) := by
  unfold Photo.runFilm
  split
  · exact Photo.applyFilm_steady y
  · exact (Photo.applyFilm_steady y).trans (Photo.takeReport_steady _)

/-! ### Taking a line (R116, R130) -/

theorem Photo.endAtOnce_steady (o : LineOutcome) : p.Steady (p.endAtOnce o) :=
  (Photo.imagingEnd_steady _ _).after (Photo.withImager_steady rfl)

theorem Photo.takeText_steady (r : LineRecord) : p.Steady (p.takeText r) := by
  unfold Photo.takeText
  dsimp only
  split
  · exact (Photo.runFilm_steady _).after (Photo.withImager_steady rfl)
  · exact ((Photo.enter_steady .setting).trans (Photo.runFilm_steady _)).trans Photo.pursueSetting_steady

theorem Photo.takeBare_steady (r : LineRecord) : p.Steady (p.takeBare r) :=
  (Photo.enter_steady .setting).trans (Photo.runFilm_steady _)

theorem Photo.takeStop_steady : p.Steady p.takeStop :=
  (Photo.enter_steady .standby).after ((Photo.endAtOnce_steady .set).after (Photo.withImager_steady rfl))

theorem Photo.takeSlot_steady {i : Nat} {rest : List Nat} (ready : p.store.ready = i :: rest)
    (none : p.store.imaging = none) : p.Steady (p.takeSlot i) := by
  unfold Photo.takeSlot
  extract_lets r _ q u
  have taken : Photo.Steady p u := fun filling h => by
    rw [Photo.InStep, h.imaging_none none] at h
    exact h.take ready
  refine taken.trans ?_
  split
  · exact Photo.endAtOnce_steady .discarded
  · split
    · exact Photo.takeStop_steady
    · exact Photo.takeBare_steady _
    · split
      · exact Photo.takeBare_steady _
      · exact Photo.takeText_steady _

theorem Photo.takeLine_steady : p.Steady p.takeLine := by
  unfold Photo.takeLine
  split
  · exact .refl
  · next i rest ready =>
    split
    · next can =>
      simp only [Photo.canTakeLine, Bool.and_eq_true, Option.isNone_iff_eq_none] at can
      exact Photo.takeSlot_steady ready can.2
    · exact .refl

/-! ### Completed motions (R126, R136, R137) -/

theorem Photo.carriageArrives_steady : p.Steady p.carriageArrives := by
  unfold Photo.carriageArrives
  split
  · exact .refl
  · extract_lets _ q
    have stands : Photo.Steady p q := Photo.withImager_steady rfl
    refine stands.trans ?_
    split
    · exact Photo.withImager_steady (by simp)
    · split
      · exact .refl
      · split
        · exact Photo.pursue_steady
        · exact .refl

theorem Photo.homingStep_steady (detent : Bool) : p.Steady (p.homingStep detent) := by
  unfold Photo.homingStep
  dsimp only
  split
  · exact Photo.withImager_steady (by simp)
  · split
    · exact (Photo.halt_steady _).after (Photo.withImager_steady rfl)
    · split
      · exact Photo.withImager_steady rfl
      · exact Photo.withImager_steady rfl

theorem Photo.glyphStep_steady (position : Nat) (way : Direction) (detent : Bool) :
    p.Steady (p.glyphStep position way detent) := by
  unfold Photo.glyphStep
  extract_lets next _ q
  have stepped : Photo.Steady p q := Photo.withImager_steady rfl
  refine stepped.trans ?_
  split
  · exact Photo.halt_steady _
  · split
    · exact .refl
    · split
      · exact Photo.pursue_steady
      · exact .refl

theorem Photo.turretSteps_steady (detent : Bool) : p.Steady (p.turretSteps detent) := by
  unfold Photo.turretSteps
  split
  · exact .refl
  · split
    · exact Photo.homingStep_steady detent
    · split
      · exact Photo.glyphStep_steady _ _ detent
      · exact Photo.withImager_steady rfl

theorem Photo.ringSettles_steady : p.Steady p.ringSettles := Photo.withImager_steady rfl

/-! ### Sector events (R127, R128, R138 to R142) -/

theorem Photo.dropGlyph_steady (line : p.imager.lineSlot = some pr.slot) : p.Steady (p.dropGlyph pr) := by
  unfold Photo.dropGlyph
  extract_lets pr' q
  have lined : (p.post .glyphDropped).Steady ((p.post .glyphDropped).withLine pr') := Photo.withLine_steady line
  have counted : Photo.Steady p q := (Photo.flagLine_steady _).after (lined.after (Photo.post_steady .glyphDropped))
  refine counted.trans ?_
  split
  · exact Photo.halt_steady _
  · exact Photo.nextGlyph_steady (Imager.lineSlot_of_line (by simp [q]))

theorem Photo.closeWindow_steady : p.Steady p.closeWindow := by
  unfold Photo.closeWindow
  split
  · extract_lets _ q
    have closed : Photo.Steady p q := Photo.withImager_steady rfl
    refine closed.trans ?_
    split
    · exact .refl
    · next pr inHand =>
      have line := Imager.lineSlot_of_line inHand
      split
      · exact Photo.withLine_steady line
      · exact Photo.dropGlyph_steady line
  · exact .refl

theorem Photo.flash_steady (line : p.imager.lineSlot = some pr.slot) : p.Steady (p.flash pr) := by
  unfold Photo.flash
  split
  · exact Photo.steady_of_eq rfl line.symm
  · exact Photo.steady_of_eq rfl line.symm

theorem Photo.flashIfDue_steady (n : Nat) : p.Steady (p.flashIfDue n) := by
  unfold Photo.flashIfDue
  split
  · exact .refl
  · next pr inHand =>
    split
    · exact .refl
    · split
      · exact Photo.flash_steady (Imager.lineSlot_of_line inHand)
      · exact .refl

theorem Photo.sectorEvent_steady (n : Nat) : p.Steady (p.sectorEvent n) := by
  unfold Photo.sectorEvent
  split
  · exact .refl
  · exact (Photo.flashIfDue_steady n).after (Photo.closeWindow_steady.after (Photo.withImager_steady rfl))

/-! ### Index events (R127, R128, R134, R147) -/

theorem Photo.resumeLine_steady : p.Steady p.resumeLine := Photo.pursue_steady.after (Photo.withImager_steady rfl)

theorem Photo.spunUp_steady (identity : Nat) : p.Steady (p.spunUp identity) := by
  unfold Photo.spunUp
  split
  · exact Photo.withImager_steady rfl
  · extract_lets _ q
    have running : Photo.Steady p q := Photo.withImager_steady rfl
    split
    · exact running.trans Photo.resumeLine_steady
    · exact running

theorem Photo.rechecked_steady (identity : Nat) : p.Steady (p.rechecked identity) := by
  unfold Photo.rechecked
  extract_lets _ q
  have running : Photo.Steady p q := Photo.withImager_steady rfl
  refine running.trans ?_
  split
  · exact Photo.withImager_steady rfl
  · exact Photo.resumeLine_steady
  · exact Photo.resumeLine_steady
  · exact Photo.resumeLine_steady
  · exact .refl

theorem Photo.indexEvent_steady (identity : Nat) : p.Steady (p.indexEvent identity) := by
  unfold Photo.indexEvent
  split
  · exact .refl
  · split
    · exact Photo.spunUp_steady identity
    · exact Photo.withImager_steady rfl
  · split
    · extract_lets q
      have recounted : Photo.Steady p q := Photo.withImager_steady rfl
      refine recounted.trans ?_
      split
      · exact Photo.resumeLine_steady.after (Photo.withImager_steady rfl)
      · exact .refl
    · exact Photo.halt_steady _
  · split
    · exact Photo.rechecked_steady identity
    · exact Photo.withImager_steady rfl

/-! ### The flash confirm, the cover and LAMP (R139, R140, R146, R147, R149) -/

theorem Photo.confirm_steady : p.Steady p.confirm := by
  unfold Photo.confirm
  split
  · extract_lets _ q
    have closed : Photo.Steady p q := Photo.withImager_steady rfl
    refine closed.trans ?_
    split
    · exact .refl
    · next pr inHand =>
      have line := Imager.lineSlot_of_line inHand
      exact Photo.nextGlyph_steady line
  · exact .refl

theorem Photo.suspend_steady : p.Steady p.suspend := by
  unfold Photo.suspend
  exact (Photo.flagLine_steady _).after ((Photo.post_steady .coverOpen).after (Photo.withImager_steady rfl))

theorem Photo.coverOpens_steady : p.Steady p.coverOpens := by
  unfold Photo.coverOpens
  split
  · exact Photo.withImager_steady rfl
  · exact Photo.withImager_steady rfl
  · exact Photo.suspend_steady

theorem Photo.startRecheck_steady : p.Steady p.startRecheck := Photo.withImager_steady rfl

theorem Photo.resume_steady (detent : Bool) : p.Steady (p.resume detent) := by
  unfold Photo.resume
  split
  · exact Photo.beginHoming_steady detent
  · exact Photo.withImager_steady rfl
  · split
    · exact Photo.startRecheck_steady
    · exact Photo.withImager_steady rfl
  · exact Photo.startRecheck_steady
  · split
    · exact Photo.startRecheck_steady
    · exact Photo.resumeLine_steady
  · split
    · exact Photo.startRecheck_steady
    · exact Photo.resumeLine_steady
  · exact .refl

theorem Photo.coverCloses_steady (detent : Bool) : p.Steady (p.coverCloses detent) := by
  unfold Photo.coverCloses
  split
  · exact Photo.resume_steady detent
  · split
    · exact Photo.beginHoming_steady detent
    · exact .refl
  · exact .refl

theorem Photo.takeLamp_steady (window most : Nat) : p.Steady (p.takeLamp window most) := Photo.withImager_steady rfl

theorem Photo.start_steady (detent : Bool) : p.Steady (p.start detent) := by
  unfold Photo.start
  split
  · exact (Photo.post_steady .coverOpen).after (Photo.withImager_steady rfl)
  · exact Photo.beginHoming_steady detent

end Sys2Proof.Machine
end

section
/-! PROOFS. The line slots over every operation of the Composer: `Desk.Steady` says that an operation keeps them in step
with what names them, whatever line the Imager has in hand. -/

namespace Sys2Proof.Machine

open Sys2Proof Sys2Proof.Safety

/-- The slots in step, as the Composer's side sees them, with a slot for the line in hand. -/
def Desk.InStep (d : Desk) (imaging : Option Nat) : Prop := d.store.InStep d.composer.phase.openSlot imaging none

/-- `e` comes of `d` by operations that keep the slots in step, whatever line the Imager has in hand. -/
def Desk.Steady (d e : Desk) : Prop := ∀ imaging, d.InStep imaging → e.InStep imaging

theorem Desk.Steady.refl {d : Desk} : d.Steady d := fun _ => id

theorem Desk.Steady.trans {d e f : Desk} (hde : d.Steady e) (hef : e.Steady f) : d.Steady f :=
  fun imaging h => hef imaging (hde imaging h)

/-- `Desk.Steady.trans` with the later operation first. -/
theorem Desk.Steady.after {d e f : Desk} (hef : e.Steady f) (hde : d.Steady e) : d.Steady f := hde.trans hef

/-- A phase in which no line has overflowed and no item waits for a slot. -/
def Phase.Calm (phase : Phase) : Prop := phase = .idle ∨ ∃ line, phase = .opened line

variable {d e : Desk} {line : OpenLine} (t : Tables) (dict : List DictEntry)

/-! ### Small writers -/

/-- An operation that leaves the Line Store and the slot of the open line alone. -/
theorem Desk.steady_of_eq (store : e.store = d.store) (same : e.composer.phase.openSlot = d.composer.phase.openSlot) :
    d.Steady e := fun imaging h => by
  unfold Desk.InStep
  rw [store, same]
  exact h

/-- An operation that writes a record and leaves the slot of the open line alone. -/
theorem Desk.steady_of_putRecord {i : Nat} {r : LineRecord} (store : e.store = d.store.putRecord i r)
    (same : e.composer.phase.openSlot = d.composer.phase.openSlot) : d.Steady e := fun imaging h => by
  unfold Desk.InStep
  rw [store, same]
  exact Store.InStep.putRecord h i r

/-! ### Opening, waiting and closing (R60, R61, R82, R112, R114) -/

theorem Desk.openLine_steady (none : d.composer.phase.openSlot = none) (opened : d.openLine = some (e, line)) :
    d.Steady e ∧ e.composer.phase = .opened line := by
  obtain ⟨small, -, composer, store⟩ := Desk.openLine_some opened
  have phase : e.composer.phase = .opened line := by rw [composer]
  refine ⟨fun imaging h => ?_, phase⟩
  rw [Desk.InStep, none] at h
  rw [Desk.InStep, phase, store]
  exact h.fill ⟨small, Desk.openLine_free opened⟩ _

theorem Desk.wait_steady (none : d.composer.phase.openSlot = none) (w : Waiting) : d.Steady (d.wait w) :=
  Desk.steady_of_eq rfl none.symm

theorem Desk.closeLine_steady {i : Nat} (filling : d.composer.phase.openSlot = some i) (r : LineRecord) :
    d.Steady (d.closeLine i r) := fun imaging h => by
  rw [Desk.InStep, filling] at h
  exact h.close r

theorem Desk.closeOpen_steady (filling : d.composer.phase.openSlot = some line.slot) (lastLine : Bool) :
    d.Steady (d.closeOpen line lastLine) :=
  Desk.closeLine_steady filling _

/-! ### Spaces, CUT and STOP records (R66 to R68, R85, R86) -/

theorem Desk.takeSpace_steady (phase : d.composer.phase = .opened line) (kind : SpaceKind) :
    d.Steady (d.takeSpace t line kind) := by
  unfold Desk.takeSpace
  dsimp only
  split
  · exact .refl
  · split
    · exact Desk.steady_of_putRecord rfl rfl
    · split
      · exact Desk.steady_of_putRecord rfl (by rw [phase]; rfl)
      · exact .refl

/-- A record emitted is opened and closed at once. -/
theorem Desk.emit_steady (none : d.composer.phase.openSlot = none) {r : LineRecord} {c : Composer}
    (emitted : d.emit r c = some e) : d.Steady e := by
  unfold Desk.emit at emitted
  split at emitted
  · exact nomatch emitted
  · next i lowest =>
    cases emitted
    obtain ⟨small, free, -⟩ := lowestFree_spec lowest
    intro imaging h
    rw [Desk.InStep, none] at h
    exact (h.fill ⟨small, free⟩ r).close r

theorem Desk.emitCut_steady (none : d.composer.phase.openSlot = none) : d.Steady d.emitCut := by
  unfold Desk.emitCut
  split
  · next emitted => exact Desk.emit_steady none emitted
  · exact Desk.wait_steady none _

theorem Desk.emitStop_steady (none : d.composer.phase.openSlot = none) : d.Steady d.emitStop := by
  unfold Desk.emitStop
  split
  · next emitted => exact Desk.emit_steady none emitted
  · exact Desk.wait_steady none _

/-! ### A code after its word has ended (R71, R75) -/

theorem Desk.spaceAfterWord_steady (code : Instr) (kind : SpaceKind) : d.Steady (d.spaceAfterWord t code kind) := by
  unfold Desk.spaceAfterWord
  split
  · next phase => exact Desk.takeSpace_steady t phase kind
  · next phase =>
    have none : d.composer.phase.openSlot = none := by rw [phase]; rfl
    split
    · exact .refl
    · split
      · next opened =>
        obtain ⟨opens, phase⟩ := Desk.openLine_steady none opened
        exact opens.trans (Desk.takeSpace_steady t phase kind)
      · exact Desk.wait_steady none _
  · exact .refl

theorem Desk.endAfterWord_steady (code : Instr) (lastLine : Bool) : d.Steady (d.endAfterWord code lastLine) := by
  unfold Desk.endAfterWord
  split
  · next phase => exact Desk.closeOpen_steady (by rw [phase]; rfl) lastLine
  · next phase =>
    have none : d.composer.phase.openSlot = none := by rw [phase]; rfl
    split
    · next opened =>
      obtain ⟨opens, phase⟩ := Desk.openLine_steady none opened
      exact opens.trans (Desk.closeOpen_steady (by rw [phase]; rfl) lastLine)
    · exact Desk.wait_steady none _
  · exact .refl

theorem Desk.closeForRecord_steady (calm : d.composer.phase.Calm) :
    d.Steady d.closeForRecord ∧ d.closeForRecord.composer.phase.openSlot = none := by
  unfold Desk.closeForRecord
  rcases calm with idle | ⟨line, phase⟩
  · simp only [idle]
    exact ⟨.refl, rfl⟩
  · simp only [phase]
    exact ⟨Desk.closeOpen_steady (by rw [phase]; rfl) true, rfl⟩

theorem Desk.afterWord_steady (calm : d.composer.phase.Calm) (code : Instr) : d.Steady (d.afterWord t code) := by
  obtain ⟨closes, none⟩ := Desk.closeForRecord_steady calm
  unfold Desk.afterWord
  split
  · exact Desk.spaceAfterWord_steady t _ _
  · exact Desk.spaceAfterWord_steady t _ _
  · exact Desk.spaceAfterWord_steady t _ _
  · exact Desk.spaceAfterWord_steady t _ _
  · exact Desk.spaceAfterWord_steady t _ _
  · exact Desk.endAfterWord_steady _ _
  · exact Desk.endAfterWord_steady _ _
  · exact closes.trans (Desk.emitCut_steady none)
  · exact closes.trans (Desk.emitStop_steady none)
  · exact .refl

theorem Desk.afterBreak_steady (calm : d.composer.phase.Calm) (ending : Option Instr) :
    d.Steady (d.afterBreak t ending) := by
  cases ending with
  | none => exact .refl
  | some code => exact Desk.afterWord_steady t calm code

/-! ### The break and its carry (R71, R75, R76) -/

theorem Desk.closeAtBreak_steady {i : Nat} (filling : d.composer.phase.openSlot = some i) (cut : Cut) :
    d.Steady (d.closeAtBreak i cut) :=
  Desk.closeLine_steady filling _

/-- Placing a carry list, by induction on the number of lines it may open: each line is opened with none open before,
and closed or left OPEN. -/
theorem Desk.placeCarry_steady (ending : Option Instr) (fuel : Nat) {carry : Carry} (idle : d.composer.phase = .idle) :
    d.Steady (d.placeCarry t dict ending fuel carry) := by
  induction fuel generalizing d carry with
  | zero => exact .refl
  | succ fuel ih =>
    have none : d.composer.phase.openSlot = none := by rw [idle]; rfl
    unfold Desk.placeCarry
    split
    · exact Desk.wait_steady none _
    · next e line opened =>
      obtain ⟨opens, phase⟩ := Desk.openLine_steady none opened
      refine opens.trans ?_
      extract_lets r f _ r' e' cut closed
      have filled : Desk.Steady e e' := Desk.steady_of_putRecord rfl rfl
      have filling : e'.composer.phase.openSlot = some line.slot := congrArg Phase.openSlot phase
      split
      · have closes : Desk.Steady e closed := filled.trans (Desk.closeAtBreak_steady filling cut)
        split
        · exact closes.trans (Desk.afterBreak_steady t (.inl rfl) ending)
        · exact closes.trans (ih rfl)
      · have stands : Desk.Steady e' (e'.withPhase (.opened ⟨line.slot, f.x, f.stretch, f.shrink, f.glyphs⟩)) :=
          Desk.steady_of_eq rfl filling.symm
        exact (filled.trans stands).trans (Desk.afterBreak_steady t (.inr ⟨_, rfl⟩) ending)

theorem Desk.breakLine_steady (filling : d.composer.phase.openSlot = some line.slot) (ending : Option Instr) :
    d.Steady (d.breakLine t dict line ending) := by
  unfold Desk.breakLine
  extract_lets r b w cut closed
  have closes : d.Steady closed := Desk.closeAtBreak_steady filling cut
  split
  · exact closes.trans (Desk.afterBreak_steady t (.inl rfl) ending)
  · exact closes.trans (Desk.placeCarry_steady t dict ending _ rfl)

/-! ### The word and its glyphs (R63 to R65, R69) -/

theorem Desk.settleWord_steady (line : OpenLine) : d.Steady (d.settleWord line) := Desk.steady_of_putRecord rfl rfl

theorem Desk.takeEnding_steady (code : Instr) : d.Steady (d.takeEnding t dict code) := by
  unfold Desk.takeEnding
  split
  · next phase => exact Desk.afterWord_steady t (.inl phase) code
  · next line phase =>
    have calm : (d.settleWord line).composer.phase.Calm := .inr ⟨line, phase⟩
    exact (Desk.settleWord_steady line).trans (Desk.afterWord_steady t calm code)
  · next phase => exact Desk.breakLine_steady t dict (by rw [phase]; rfl) (some code)
  · exact .refl

theorem Desk.setGlyph_steady (filling : d.composer.phase.openSlot = some line.slot) (was : Bool)
    (code : Option Byte) : d.Steady (d.setGlyph t dict line was code) := by
  unfold Desk.setGlyph
  split
  · exact .refl
  · extract_lets r further full _ c _ e
    have slot : e.composer.phase.openSlot = some line.slot := by
      change (if full then Phase.overflowed further else Phase.opened further).openSlot = _
      split <;> rfl
    have set : Desk.Steady d e := Desk.steady_of_putRecord rfl (slot.trans filling.symm)
    split
    · exact set
    · split
      · exact set.trans (Desk.breakLine_steady t dict (line := further) slot none)
      · exact set.trans (Desk.settleWord_steady further)

theorem Desk.takeGlyph_steady (code : Option Byte) (item : Instr) : d.Steady (d.takeGlyph t dict code item) := by
  unfold Desk.takeGlyph
  split
  · next phase => exact Desk.setGlyph_steady t dict (by rw [phase]; rfl) false code
  · next phase => exact Desk.setGlyph_steady t dict (by rw [phase]; rfl) true code
  · next phase =>
    have none : d.composer.phase.openSlot = none := by rw [phase]; rfl
    split
    · next opened =>
      obtain ⟨opens, phase⟩ := Desk.openLine_steady none opened
      exact opens.trans (Desk.setGlyph_steady t dict (by rw [phase]; rfl) false code)
    · exact Desk.wait_steady none _
  · exact .refl

/-! ### The check at the take, and leaving WAIT SLOT (R31, R61) -/

theorem Desk.whenSettable_steady {f : Desk → Desk} (hf : d.Steady (f d)) : d.Steady (d.whenSettable t f) := by
  unfold Desk.whenSettable
  split
  · exact hf
  · exact Desk.steady_of_eq rfl rfl

theorem Desk.resumeHeld_steady (idle : d.composer.phase = .idle) (held : Waiting) :
    d.Steady (d.resumeHeld t dict held) := by
  unfold Desk.resumeHeld
  split
  · exact Desk.takeGlyph_steady t dict _ _
  · exact Desk.takeGlyph_steady t dict _ _
  · exact Desk.afterWord_steady t (.inl idle) _
  · exact Desk.placeCarry_steady t dict _ _ idle

theorem Desk.resume_steady : d.Steady (d.resume t dict) := by
  unfold Desk.resume
  split
  · next held phase =>
    split
    · have left : d.Steady (d.withPhase .idle) := Desk.steady_of_eq rfl (by rw [phase]; rfl)
      exact left.trans (Desk.resumeHeld_steady t dict rfl held)
    · exact .refl
  · exact .refl

/-! ### Marks, film commands, KILL LINE and CLEAR (R70, R84, R87, R88, R118) -/

theorem Desk.markDiscretionary_steady : d.Steady d.markDiscretionary := by
  unfold Desk.markDiscretionary
  dsimp only
  split
  · exact .refl
  · exact Desk.steady_of_eq rfl rfl

theorem Desk.adjustFilm_steady (steps : Int) : d.Steady (d.adjustFilm steps) := Desk.steady_of_eq rfl rfl

theorem Desk.kill_steady (filling : d.composer.phase.openSlot = some line.slot) : d.Steady (d.kill line) :=
  fun imaging h => by
    rw [Desk.InStep, filling] at h
    exact h.kill

/-- KILL LINE leaves no line open (R87). -/
theorem Desk.killLine_steady : d.Steady d.killLine ∧ d.killLine.composer.phase.openSlot = none := by
  unfold Desk.killLine
  split
  · next phase => exact ⟨Desk.kill_steady (by rw [phase]; rfl), rfl⟩
  · next phase => exact ⟨Desk.kill_steady (by rw [phase]; rfl), rfl⟩
  · next phase => exact ⟨.refl, by rw [phase]; rfl⟩
  · next phase => exact ⟨.refl, by rw [phase]; rfl⟩

theorem Desk.clear_steady : d.Steady d.clear := by
  obtain ⟨kills, none⟩ := d.killLine_steady
  refine kills.trans fun imaging h => ?_
  rw [Desk.InStep, none] at h
  exact h.discardReady

end Sys2Proof.Machine
end

section
/-! PROOFS. The whole part over a step: every command keeps the line slots in step with what names them
(`EveryStepKeepsTheSlotLaw`). -/

namespace Sys2Proof.Machine

open Sys2Proof Sys2Proof.Safety

/-- `t` comes of `s` by a step that keeps the slots in step. -/
def State.Steady (s t : State) : Prop := SlotLaw s → SlotLaw t

variable {s t : State}

theorem State.Steady.refl : s.Steady s := id

theorem State.Steady.trans {u : State} (hst : s.Steady t) (htu : t.Steady u) : s.Steady u := htu ∘ hst

/-! ### The views -/

/-- A step of another block. -/
theorem State.steady_of_eq (store : t.store = s.store) (phase : t.composer.phase = s.composer.phase)
    (line : t.imager.line = s.imager.line) : s.Steady t := by
  unfold State.Steady
  rw [slotLaw_iff, slotLaw_iff, store, phase, line]
  exact id

theorem State.onDesk_steady {f : Tables → List DictEntry → Desk → Desk}
    (h : s.desk.Steady (f s.tables s.dict s.desk)) : s.Steady (s.onDesk f) := by
  unfold State.Steady
  rw [slotLaw_iff, slotLaw_iff]
  exact h (s.imager.line.map (·.slot))

theorem State.withPhoto_steady {busy : Bool} {p : Photo} (h : (s.photo busy).Steady p) :
    s.Steady (s.withPhoto p) := by
  unfold State.Steady
  rw [slotLaw_iff, slotLaw_iff]
  exact h s.composer.phase.openSlot

theorem State.postWhen_steady (c : Bool) (e : Event) : s.Steady (s.postWhen c e) := by
  cases c <;> exact State.steady_of_eq rfl rfl rfl

theorem State.runOut_steady : s.Steady s.runOut := by
  obtain ⟨mode, sources, frame⟩ := runOut_frame s
  rw [frame]
  exact State.steady_of_eq rfl rfl rfl

/-- An owner's step, then the note of a clamp. -/
theorem State.Steady.noted (h : s.Steady t) (c : Bool) (e : Event) : s.Steady (t.postWhen c e) :=
  h.trans (State.postWhen_steady c e)

/-- A code that sets a glyph, checked at the take (R31). -/
theorem State.glyphItem_steady (s : State) (code : Option Byte) (item : Instr) :
    s.Steady (s.onDesk fun t dict d => d.whenSettable t fun d => d.takeGlyph t dict code item) :=
  State.onDesk_steady (Desk.whenSettable_steady _ (Desk.takeGlyph_steady _ _ code item))

/-- A code that sets a space, checked at the take (R31). -/
theorem State.spaceItem_steady (s : State) (code : Instr) :
    s.Steady (s.onDesk fun t dict d => d.whenSettable t fun d => d.takeEnding t dict code) :=
  State.onDesk_steady (Desk.whenSettable_steady _ (Desk.takeEnding_steady _ _ code))

/-- A code that ends a line or emits a record. -/
theorem State.endItem_steady (s : State) (code : Instr) :
    s.Steady (s.onDesk fun t dict d => d.takeEnding t dict code) :=
  State.onDesk_steady (Desk.takeEnding_steady _ _ code)

theorem State.withParams_steady (p : Params) : s.Steady (s.withParams p) := State.steady_of_eq rfl rfl rfl

/-! ### The Reply Unit and the photo unit (R10, R184) -/

theorem State.takeReplyItem_steady (h : HeldReply) : s.Steady (s.takeReplyItem h) := by
  cases h <;> exact State.steady_of_eq rfl rfl rfl

theorem State.replyItem_steady (h : HeldReply) : s.Steady (s.replyItem h) := by
  unfold State.replyItem
  split
  · exact State.takeReplyItem_steady h
  · exact State.steady_of_eq rfl rfl rfl

theorem State.retryHeld_steady : s.Steady s.retryHeld := by
  unfold State.retryHeld
  split
  · exact .refl
  · next h _ =>
    split
    · have released : s.Steady (s.withReply { s.reply with held := none }) := State.steady_of_eq rfl rfl rfl
      exact (released.trans (State.takeReplyItem_steady h)).trans State.runOut_steady
    · exact .refl

theorem State.onPhoto_steady {busy : Bool} {f : Photo → Photo} (h : (s.photo busy).Steady (f (s.photo busy))) :
    s.Steady (s.onPhoto busy f) := by
  have photo := State.withPhoto_steady h
  unfold State.onPhoto
  rcases (s.withPhoto (f (s.photo busy))).retrySync_cases with ⟨same, -⟩ | looks
  · rw [same]; exact photo
  · rw [looks]; exact photo.trans State.retryHeld_steady

theorem State.filmEvent_steady (busy : Bool) (f : Film → FilmResult) : s.Steady (s.filmEvent busy f) :=
  State.onPhoto_steady (Photo.runFilm_steady _)

theorem State.recordSent_steady (heldFirst : Bool) : s.Steady (s.recordSent heldFirst) := by
  have sent : s.Steady (s.withReply (s.reply.sent s.pins.cts)) := State.steady_of_eq rfl rfl rfl
  unfold State.recordSent
  split
  · dsimp only
    split
    · exact sent.trans State.retryHeld_steady
    · exact sent
  · exact .refl

theorem State.answerWaiting_steady : s.Steady s.answerWaiting := by
  have answered : s.Steady (s.withReply (s.reply.answerOne s.pins.cts)) := State.steady_of_eq rfl rfl rfl
  unfold State.answerWaiting
  split
  · exact answered.trans State.retryHeld_steady
  · exact .refl

theorem State.setClearToSend_steady (level : Bool) (bytes : Nat) : s.Steady (s.setClearToSend level bytes) := by
  unfold State.setClearToSend
  split
  · exact .refl
  · exact State.steady_of_eq rfl rfl rfl

/-! ### The owners that touch no line slot -/

theorem State.takeFont_steady (f : Nat) : s.Steady (s.takeFont f) := by
  unfold State.takeFont
  split <;> exact State.steady_of_eq rfl rfl rfl

theorem State.takeMeasure_steady (p : Params) (out : Bool) : s.Steady (s.takeMeasure p out) :=
  (State.withParams_steady _).noted _ _

theorem State.takeSpaceband_steady (lo mid hi : Nat) (out : Bool) : s.Steady (s.takeSpaceband lo mid hi out) :=
  (State.withParams_steady _).noted _ _

theorem State.takeSave_steady (mask : Byte) : s.Steady (s.takeSave mask) := by
  unfold State.takeSave
  split <;> exact State.steady_of_eq rfl rfl rfl

theorem State.takeRestore_steady (mask : Byte) : s.Steady (s.takeRestore mask) := by
  unfold State.takeRestore
  split
  · exact State.steady_of_eq rfl rfl rfl
  · refine State.Steady.noted ?_ _ _
    exact State.steady_of_eq rfl rfl rfl

theorem State.takeDefine_steady (n : Nat) (nestable : Bool) : s.Steady (s.takeDefine n nestable) := by
  unfold State.takeDefine
  split <;> exact State.steady_of_eq rfl rfl rfl

theorem State.takeEndDefine_steady : s.Steady s.takeEndDefine := by
  unfold State.takeEndDefine
  split
  · exact State.steady_of_eq rfl rfl rfl
  · exact State.steady_of_eq rfl rfl rfl
  · dsimp only
    split <;> exact State.steady_of_eq rfl rfl rfl

theorem State.takeCall_steady (n : Nat) : s.Steady (s.takeCall n) := by
  unfold State.takeCall
  split <;> exact State.steady_of_eq rfl rfl rfl

theorem State.commitLoad_steady (tab : Table) (b : LoadBlock) : s.Steady (s.commitLoad tab b) := by
  refine State.Steady.noted ?_ _ _
  exact State.steady_of_eq rfl rfl rfl

theorem State.takeLensLoad_steady (b : LoadBlock) : s.Steady (s.takeLensLoad b) := by
  unfold State.takeLensLoad
  split
  · exact State.steady_of_eq rfl rfl rfl
  · split
    · exact State.steady_of_eq rfl rfl rfl
    · exact State.commitLoad_steady _ b

theorem State.takeLoad_steady (b : LoadBlock) : s.Steady (s.takeLoad b) := by
  refine (State.postWhen_steady b.directionOut .parameterClamped).trans ?_
  unfold State.takeLoad
  dsimp only
  split
  · exact State.steady_of_eq rfl rfl rfl
  · split
    · exact State.takeLensLoad_steady b
    · exact State.commitLoad_steady _ b
    · exact .refl

theorem State.endLensWait_steady (b : LoadBlock) : s.Steady (s.endLensWait b) := by
  have ended : s.Steady (s.withTables { s.tables with waiting := none }) := State.steady_of_eq rfl rfl rfl
  refine ended.trans ?_
  unfold State.endLensWait
  dsimp only
  split
  · exact State.commitLoad_steady _ b
  · exact State.steady_of_eq rfl rfl rfl

theorem State.takeLock_steady (ident : Byte) : s.Steady (s.takeLock ident) := by
  unfold State.takeLock
  split <;> exact State.steady_of_eq rfl rfl rfl

theorem State.takeDictAdd_steady (codes : List Byte) : s.Steady (s.takeDictAdd codes) := by
  unfold State.takeDictAdd
  split
  · exact State.steady_of_eq rfl rfl rfl
  · split
    · exact State.steady_of_eq rfl rfl rfl
    · dsimp only
      split <;> exact State.steady_of_eq rfl rfl rfl

theorem State.takeDictDelete_steady (codes : List Byte) : s.Steady (s.takeDictDelete codes) := by
  unfold State.takeDictDelete
  split
  · exact State.steady_of_eq rfl rfl rfl
  · dsimp only
    split
    · exact State.steady_of_eq rfl rfl rfl
    · exact .refl

theorem State.takeDictClear_steady : s.Steady s.takeDictClear := by
  unfold State.takeDictClear
  split <;> exact State.steady_of_eq rfl rfl rfl

/-! ### Delivery, and the commands that are no item (R10, R19) -/

theorem deliver_steady {c : Instr} {owner : State → State} (h : deliver c owner s = .next t)
    (howner : ∀ u : State, u.Steady (owner u)) : s.Steady t := by
  rcases deliver_cases c owner s with same | ⟨u, takes, delivered⟩
  · rw [same] at h
    cases h
    exact .refl
  · rw [delivered] at h
    cases h
    obtain ⟨-, f, -, rfl⟩ := takes_frame takes
    have taken : s.Steady (s.withFront f) := State.steady_of_eq rfl rfl rfl
    exact (taken.trans (howner _)).trans State.runOut_steady

theorem next_steady {u : State} (h : (.next u : StepResult) = .next t) (hu : s.Steady u) : s.Steady t := by
  cases h
  exact hu

/-- In the reset state every slot is FREE, and nothing names one (R111, R123). -/
theorem resetWith_slotLaw (pins : Pins) : SlotLaw (State.resetWith pins) := by
  have free (i : Nat) : (Store.reset.slot i).state = .free := congrArg LineSlot.state (tabGet_replicate 8 _ i)
  have none {named : Nat → Prop} {state : SlotState} (nobody : ∀ i, ¬named i) (other : SlotState.free ≠ state) :
      Store.reset.Names named state := fun i =>
    iff_of_false (nobody i) fun has => other ((free i).symm.trans has.2)
  rw [slotLaw_iff]
  exact ⟨.nil, .nil, none (fun _ => List.not_mem_nil) nofun, none (fun _ => List.not_mem_nil) nofun, none nofun nofun,
    none nofun nofun, none nofun nofun⟩

theorem execReset_steady (h : execReset s = .next t) : s.Steady t :=
  next_steady h fun _ => resetWith_slotLaw { s.pins with resetLine := true }

theorem execResetEnd_steady {detent : Bool} (h : execResetEnd detent s = .next t) : s.Steady t := by
  unfold execResetEnd at h
  split at h
  · refine next_steady h (State.Steady.trans ?_ (State.withPhoto_steady (Photo.start_steady detent)))
    exact State.steady_of_eq rfl rfl rfl
  · exact next_steady h .refl

theorem execFrameReceived_steady {data : Byte} {parity stop : Bool}
    (h : execFrameReceived data parity stop s = .next t) : s.Steady t := by
  unfold execFrameReceived at h
  split at h <;> exact next_steady h (State.steady_of_eq rfl rfl rfl)

theorem offer_quiet_steady {u : State} (h : s.offer = .quiet u) : s.Steady u := by
  unfold State.offer at h
  split at h
  · exact nomatch h
  · split at h
    · exact nomatch h
    · cases h; exact State.steady_of_eq rfl rfl rfl
    · exact nomatch h

theorem execParserTake_steady (h : execParserTake s = .next t) : s.Steady t := by
  unfold execParserTake at h
  split at h
  · next quiet => exact next_steady h ((offer_quiet_steady quiet).trans State.runOut_steady)
  · exact next_steady h .refl

theorem execWaitSlotResume_steady (h : execWaitSlotResume s = .next t) : s.Steady t := by
  unfold execWaitSlotResume at h
  split at h
  · split at h
    · exact next_steady h ((State.onDesk_steady (Desk.resume_steady _ _)).trans State.runOut_steady)
    · exact next_steady h .refl
  · exact next_steady h .refl

theorem execLensCommitAfterWait_steady (h : execLensCommitAfterWait s = .next t) : s.Steady t := by
  unfold execLensCommitAfterWait at h
  split at h
  · next b _ =>
    split at h
    · exact next_steady h ((State.endLensWait_steady b).trans State.runOut_steady)
    · exact next_steady h .refl
  · exact next_steady h .refl

/-- What a switch does once its level stands in `u`: a block's reset state under RESET, otherwise a step of the photo
unit. -/
theorem State.switch_steady {u quiet : State} {busy : Bool} {f : Photo → Photo}
    (h : (if u.pins.resetLine then .next quiet else .next (u.onPhoto busy f) : StepResult) = .next t)
    (switched : s.Steady u) (reset : s.Steady quiet) (photo : (u.photo busy).Steady (f (u.photo busy))) :
    s.Steady t := by
  split at h
  · exact next_steady h reset
  · exact next_steady h (switched.trans (State.onPhoto_steady photo))

theorem execCassetteRemoved_steady {busy : Bool} (h : execCassetteRemoved s busy = .next t) : s.Steady t := by
  unfold execCassetteRemoved at h
  dsimp only at h
  split at h
  · exact State.switch_steady h (State.steady_of_eq rfl rfl rfl) (State.steady_of_eq rfl rfl rfl)
      (Photo.runFilm_steady _)
  · exact next_steady h .refl

theorem execCassetteInserted_steady {busy : Bool} (h : execCassetteInserted s busy = .next t) : s.Steady t := by
  unfold execCassetteInserted at h
  dsimp only at h
  split at h
  · exact next_steady h .refl
  · exact State.switch_steady h (State.steady_of_eq rfl rfl rfl) (State.steady_of_eq rfl rfl rfl)
      (Photo.runFilm_steady _)

theorem execCoverOpens_steady (h : execCoverOpens s = .next t) : s.Steady t := by
  unfold execCoverOpens at h
  dsimp only at h
  split at h
  · exact next_steady h .refl
  · exact State.switch_steady h (State.steady_of_eq rfl rfl rfl) (State.steady_of_eq rfl rfl rfl)
      Photo.coverOpens_steady

theorem execCoverCloses_steady {detent busy : Bool} (h : execCoverCloses detent s busy = .next t) : s.Steady t := by
  unfold execCoverCloses at h
  dsimp only at h
  split at h
  · exact State.switch_steady h (State.steady_of_eq rfl rfl rfl) (State.steady_of_eq rfl rfl rfl)
      (Photo.coverCloses_steady detent)
  · exact next_steady h .refl

theorem execSelectInactive_steady (h : execSelectInactive s = .next t) : s.Steady t := by
  unfold execSelectInactive at h
  dsimp only at h
  split at h
  · exact State.switch_steady h (State.steady_of_eq rfl rfl rfl) (State.steady_of_eq rfl rfl rfl)
      Photo.deselect_steady
  · exact next_steady h .refl

theorem execSelectActive_steady {busy : Bool} (h : execSelectActive busy s = .next t) : s.Steady t := by
  unfold execSelectActive at h
  dsimp only at h
  split at h
  · exact next_steady h .refl
  · exact State.switch_steady h (State.steady_of_eq rfl rfl rfl) (State.steady_of_eq rfl rfl rfl)
      Photo.reselect_steady

/-! ### Every command -/

theorem exec_steady {c : Instr} (h : exec c s = .next t) : s.Steady t := by
  cases c with
  | reset => exact execReset_steady h
  | resetEnd detent => exact execResetEnd_steady h
  | frameReceived data parity stop => exact execFrameReceived_steady h
  | parserTake => exact execParserTake_steady h
  | textCode c => exact deliver_steady h fun u => State.glyphItem_steady u _ _
  | damagedCode => exact deliver_steady h fun u => State.glyphItem_steady u _ _
  | interwordSpace => exact deliver_steady h fun u => State.spaceItem_steady u _
  | thinSpace => exact deliver_steady h fun u => State.spaceItem_steady u _
  | enSpace => exact deliver_steady h fun u => State.spaceItem_steady u _
  | emSpace => exact deliver_steady h fun u => State.spaceItem_steady u _
  | noBreakSpace => exact deliver_steady h fun u => State.spaceItem_steady u _
  | discretionaryHyphen => exact deliver_steady h fun u => State.onDesk_steady Desk.markDiscretionary_steady
  | noHyphenate => exact deliver_steady h fun u => State.steady_of_eq rfl rfl rfl
  | killLine => exact deliver_steady h fun u => State.onDesk_steady Desk.killLine_steady.1
  | endLine => exact deliver_steady h fun u => State.endItem_steady u _
  | endPara => exact deliver_steady h fun u => State.endItem_steady u _
  | font number => exact deliver_steady h fun u => (State.takeFont_steady _).noted _ _
  | size halfPoints => exact deliver_steady h fun u => (State.withParams_steady _).noted _ _
  | lead halfPoints => exact deliver_steady h fun u => (State.withParams_steady _).noted _ _
  | measure halfPoints => exact deliver_steady h fun u => State.takeMeasure_steady _ _
  | indent left right => exact deliver_steady h fun u => State.takeMeasure_steady _ _
  | quad mode lastLine => exact deliver_steady h fun u => (State.withParams_steady _).noted _ _
  | spaceband minimum normal maximum => exact deliver_steady h fun u => State.takeSpaceband_steady _ _ _ _
  | track units => exact deliver_steady h fun u => (State.withParams_steady _).noted _ _
  | letterspace steps => exact deliver_steady h fun u => (State.withParams_steady _).noted _ _
  | kerning switch => exact deliver_steady h fun u => State.withParams_steady _
  | manualKern units =>
    refine deliver_steady h fun u => State.Steady.noted ?_ _ _
    exact State.steady_of_eq rfl rfl rfl
  | hyphenation switch threshold => exact deliver_steady h fun u => (State.withParams_steady _).noted _ _
  | hyphenLimits left right ladder capitals =>
    exact deliver_steady h fun u => (State.withParams_steady _).noted _ _
  | advance halfPoints =>
    exact deliver_steady h fun u => (State.onDesk_steady (Desk.adjustFilm_steady _)).noted _ _
  | reverse halfPoints =>
    exact deliver_steady h fun u => (State.onDesk_steady (Desk.adjustFilm_steady _)).noted _ _
  | columnMark => exact deliver_steady h fun u => State.steady_of_eq rfl rfl rfl
  | cut => exact deliver_steady h fun u => State.endItem_steady u _
  | cassette points busy =>
    exact deliver_steady h fun u =>
      (State.postWhen_steady _ _).trans (State.withPhoto_steady (Photo.runFilm_steady _))
  | stopDisc => exact deliver_steady h fun u => State.endItem_steady u _
  | save mask => exact deliver_steady h fun u => State.takeSave_steady mask
  | restore mask => exact deliver_steady h fun u => State.takeRestore_steady mask
  | define number nestable => exact deliver_steady h fun u => State.takeDefine_steady _ _
  | endDefine => exact deliver_steady h fun u => State.takeEndDefine_steady
  | call number => exact deliver_steady h fun u => State.takeCall_steady _
  | load ident start count direction sum => exact deliver_steady h fun u => State.takeLoad_steady _
  | lock ident => exact deliver_steady h fun u => State.takeLock_steady ident
  | dictAdd codes => exact deliver_steady h fun u => State.takeDictAdd_steady codes
  | dictDelete codes => exact deliver_steady h fun u => State.takeDictDelete_steady codes
  | dictClear => exact deliver_steady h fun u => State.takeDictClear_steady
  | proof mode policy =>
    refine deliver_steady h fun u => State.Steady.noted ?_ _ _
    exact State.steady_of_eq rfl rfl rfl
  | lamp window most =>
    exact deliver_steady h fun u => (State.withPhoto_steady (Photo.takeLamp_steady _ _)).noted _ _
  | query => exact deliver_steady h fun u => State.replyItem_steady _
  | events => exact deliver_steady h fun u => State.replyItem_steady _
  | mask set => exact deliver_steady h fun u => State.steady_of_eq rfl rfl rfl
  | readLog count =>
    exact deliver_steady h fun u => (State.postWhen_steady _ _).trans (State.replyItem_steady _)
  | sync token => exact deliver_steady h fun u => State.replyItem_steady _
  | clear => exact deliver_steady h fun u => State.onDesk_steady Desk.clear_steady
  | waitSlotResume => exact execWaitSlotResume_steady h
  | lensCommitAfterWait => exact execLensCommitAfterWait_steady h
  | takeLine busy => exact next_steady h (State.onPhoto_steady Photo.takeLine_steady)
  | turretStepDone detent busy => exact next_steady h (State.onPhoto_steady (Photo.turretSteps_steady _))
  | turretStepTimeout busy => exact next_steady h (State.onPhoto_steady (Photo.expire_steady _ _))
  | carriageArrival busy => exact next_steady h (State.onPhoto_steady Photo.carriageArrives_steady)
  | carriageTimeout busy => exact next_steady h (State.onPhoto_steady (Photo.expire_steady _ _))
  | ringSettleExpiry => exact next_steady h (State.onPhoto_steady Photo.ringSettles_steady)
  | sectorEvent sector busy => exact next_steady h (State.onPhoto_steady (Photo.sectorEvent_steady _))
  | indexEvent identity busy => exact next_steady h (State.onPhoto_steady (Photo.indexEvent_steady _))
  | spinUpTimeout busy => exact next_steady h (State.onPhoto_steady (Photo.expire_steady _ _))
  | sectorGapTimeout busy => exact next_steady h (State.onPhoto_steady (Photo.expire_steady _ _))
  | recheckTimeout busy => exact next_steady h (State.onPhoto_steady (Photo.expire_steady _ _))
  | flashConfirm busy => exact next_steady h (State.onPhoto_steady Photo.confirm_steady)
  | coverOpens => exact execCoverOpens_steady h
  | coverCloses detent busy => exact execCoverCloses_steady h
  | filmArrival busy => exact next_steady h (State.filmEvent_steady _ _)
  | filmMoveTimeout busy => exact next_steady h (State.filmEvent_steady _ _)
  | cutterDone busy => exact next_steady h (State.filmEvent_steady _ _)
  | cutterTimeout busy => exact next_steady h (State.filmEvent_steady _ _)
  | cassetteRemoved busy => exact execCassetteRemoved_steady h
  | cassetteInserted busy => exact execCassetteInserted_steady h
  | selectInactive => exact execSelectInactive_steady h
  | selectActive busy => exact execSelectActive_steady h
  | busyInactive => exact next_steady h (State.onPhoto_steady Photo.notBusy_steady)
  | busyTimeout => exact next_steady h (State.onPhoto_steady Photo.busyExpires_steady)
  | ack busy => exact next_steady h (State.onPhoto_steady Photo.accept_steady)
  | ackTimeout => exact next_steady h (State.onPhoto_steady Photo.ackExpires_steady)
  | clearToSend asserted bytes => exact next_steady h (State.setClearToSend_steady _ _)
  | replyRecordSent heldFirst => exact next_steady h (State.recordSent_steady _)
  | syncAnswer => exact next_steady h State.answerWaiting_steady
  | serviceSwitchChange on => exact next_steady h (State.steady_of_eq rfl rfl rfl)

/-- Settles O56: the empty queue leaves the state as it is, and every command keeps the slots in step. -/
theorem everyStepKeepsTheSlotLaw : Obligations.EveryStepKeepsTheSlotLaw := by
  unfold Obligations.EveryStepKeepsTheSlotLaw
  intro s t law h
  rcases step_cases h with rfl | ⟨c, rest, -, run⟩
  · exact law
  · have queue : s.Steady (s.withQueue rest) := State.steady_of_eq rfl rfl rfl
    exact exec_steady run (queue law)

end Sys2Proof.Machine
end

section
/-! PROOFS. The reset state (`ResetMeetsEveryLaw`), the Proof Spooler's decision at an imaging end
(`ImagingEndDecidesTheProof`) and the printer's lines (`PrinterHandshake`). -/

namespace Sys2Proof.Machine

open Sys2Proof Sys2Proof.Safety

/-! ### The reset state (R123, R125, R150, R163) -/

theorem resetWith_filmLaw (pins : Pins) : FilmLaw (State.resetWith pins) := by
  refine ⟨Nat.le_refl 0, Nat.le_refl 0, Nat.le_refl 0, ?_⟩
  change match (Film.reset pins).transport with
    | .moving target _ => 0 ≤ target ∧ target ≤ 0
    | .cutAdvance target _ => 0 ≤ target ∧ target ≤ 0
    | _ => True
  rcases Film.reset_transport pins with out | missing
  · rw [out]; trivial
  · rw [missing]; trivial

theorem resetWith_imagerLaw (pins : Pins) : ImagerLaw (State.resetWith pins) :=
  ⟨fun _ => ⟨rfl, rfl⟩, nofun, nofun, nofun, nofun, nofun, fun _ => ⟨rfl, rfl⟩, fun h => absurd rfl h, nofun,
    fun h => absurd rfl h⟩

theorem resetWith_lampLaw (pins : Pins) : LampLaw (State.resetWith pins) :=
  ⟨show 4 ≤ 8 by decide, show 8 ≤ 32 by decide, show 1 ≤ 3 by decide, show 3 ≤ 8 by decide, nofun, nofun,
    show 0 < 64 by decide⟩

/-- Settles O59: law by law; the empty store, lists and queues make most of them hold of nothing. -/
theorem resetMeetsEveryLaw : Obligations.ResetMeetsEveryLaw := by
  unfold Obligations.ResetMeetsEveryLaw
  intro pins _ s
  have settings : ParameterLaw s := (parameterLaw_iff s).mpr (Composer.reset_inRange 0)
  exact ⟨resetWith_filmLaw pins, (capacityLaw_iff s).mpr (resetWith_bounded pins), settings,
    (dictionaryLaw_iff s).mpr .nil, resetWith_slotLaw pins, resetWith_imagerLaw pins, resetWith_lampLaw pins,
    fun waits => absurd rfl waits, heldSyncLaw_of_none rfl, fun _ => rfl, rfl, rfl⟩

/-! ### Proof records and the port, in the words of the statements (R166, R171, R174, R175) -/

theorem proofOf_eq (r : LineRecord) (gap : Nat) : proofOf r gap = r.proof gap := by
  unfold proofOf LineRecord.proof
  congr 1
  simp only [List.isEmpty_iff]
  refine if_congr Iff.rfl rfl (congrArg (List.take 160) (List.map_congr_left fun i _ => ?_))
  cases i with
  | space q => rfl
  | glyph g => cases role : g.role <;> cases code : g.code <;> simp [proofItem, role, code]

theorem portLooks_eq (x : Proof) (busy : Bool) : portLooks x busy = x.look busy := by
  unfold portLooks Proof.look Proof.strobe Proof.currentByte
  cases x.queue with
  | nil => simp
  | cons r rest => simp

/-! ### The decision at an imaging end (R120, R165, R167, R168) -/

/-- Releasing a slot that awaits no proof leaves the awaiting list as it is. -/
theorem release_of_not_awaiting {st : Store} {i : Nat} (other : i ∉ st.awaiting) :
    st.release i = st.putSlot i ⟨.free, .blank⟩ := by
  have same : st.awaiting.filter (· != i) = st.awaiting :=
    List.filter_eq_self.mpr fun j mem => bne_iff_ne.mpr (ne_of_mem_of_not_mem mem other)
  unfold Store.release
  rw [same]
  rfl

theorem LineFlags.selects_iff (f : LineFlags) :
    f.selects = true ↔ f.loose ∨ f.overset ∨ f.forced ∨ f.sizeSubstituted ∨ f.reject ∨ f.damaged ∨ f.dropped ∨
      f.coverOpened ∨ f.reverseClamped := by
  simp [LineFlags.selects, or_assoc]

/-- Which lines are selected for proof (R165). -/
theorem selected_iff (mode : ProofMode) (r : LineRecord) :
    selected mode r = true ↔ r.kind ≠ .stop ∧ r.outcome ≠ some .discarded ∧
      (mode = .all ∨ (mode = .flagged ∧ (r.outcome = some .fault ∨ r.flags.selects = true))) := by
  unfold selected
  split
  · next barred => exact iff_of_false nofun fun h => barred.elim h.1 h.2.1
  · next free =>
    obtain ⟨kind, outcome⟩ := not_or.mp free
    cases mode <;> simp [kind, outcome]

section Decision

variable {p : Photo} {i : Nat}

/-- A line skipped by the decision (R167, R168). -/
theorem Photo.skipLine_of_not_awaiting (other : i ∉ p.store.awaiting) (gap : p.proof.gap ≤ 65535) :
    p.skipLine i = { p with
      store := p.store.putSlot i ⟨.free, .blank⟩
      proof := { p.proof with gap := min 65535 (p.proof.gap + 1) }
      reply := { p.reply with pending := p.reply.pending ||| 0x100000 } } := by
  rw [← saturate_eq gap, ← release_of_not_awaiting other]
  rfl

/-- A line copied by the decision, its record begun in an idle port (R120, R166, R171). -/
theorem Photo.copyLine_of_not_awaiting (other : i ∉ p.store.awaiting) :
    (p.copyLine i).withProof ((p.copyLine i).proof.look p.busy) = { p with
      store := p.store.putSlot i ⟨.free, .blank⟩
      proof := portLooks
        { p.proof with queue := p.proof.queue ++ [proofOf (p.store.record i) p.proof.gap], gap := 0 } p.busy } := by
  rw [portLooks_eq, proofOf_eq, ← release_of_not_awaiting other]
  rfl

end Decision

/-- Settles O41: the line is selected or not, and a selected one is skipped, copied or kept by the printer, the room in
the queue and the policy. -/
theorem imagingEndDecidesTheProof : Obligations.ImagingEndDecidesTheProof := by
  unfold Obligations.ImagingEndDecidesTheProof
  intro p i _ other gap r flagged chosen freed
  have choice : selected p.proof.mode r = true ↔ chosen := by
    rw [selected_iff, LineFlags.selects_iff]
  have skips := Photo.skipLine_of_not_awaiting other gap
  unfold Photo.decideProof
  refine ⟨fun not => ?_, fun yes online room => ?_, fun yes online full hold => ?_, fun yes why => ?_⟩
  · rw [if_neg fun h => not (choice.mp h), release_of_not_awaiting other]
    rfl
  · have room : p.proof.queue.length < Config.proofQueue := room
    rw [if_pos (choice.mpr yes), if_neg (not_not_intro online), if_pos room]
    exact Photo.copyLine_of_not_awaiting other
  · have full : ¬p.proof.queue.length < Config.proofQueue := Nat.not_lt.mpr full
    rw [if_pos (choice.mpr yes), if_neg (not_not_intro online), if_neg full, hold]
    rfl
  · rw [if_pos (choice.mpr yes)]
    rcases why with offline | ⟨full, skip⟩
    · rw [if_pos offline]
      exact skips
    · have full : ¬p.proof.queue.length < Config.proofQueue := Nat.not_lt.mpr full
      by_cases offline : p.proof.printer ≠ .online
      · rw [if_pos offline]
        exact skips
      · rw [if_neg offline, if_neg full, skip]
        exact skips

end Sys2Proof.Machine
end

section
/-! PROOFS. The printer's lines (`PrinterHandshake`): what going OFFLINE, ACK and the two timers leave on the photo
unit's side, then the switch and the timers in the whole part. -/

namespace Sys2Proof.Machine

open Sys2Proof Sys2Proof.Safety

/-! ### Going OFFLINE (R170) -/

/-- What releasing some slots makes of the Line Store: they are FREE and await no proof, and nothing else changes. -/
structure Store.Released (a b : Store) (slots : List Nat) : Prop where
  slot : ∀ j, j < 8 → b.slot j = if j ∈ slots then ⟨.free, .blank⟩ else a.slot j
  awaiting : b.awaiting = a.awaiting.filter (· ∉ slots)
  ready : b.ready = a.ready
  lastClosed : b.lastClosed = a.lastClosed

theorem Store.Released.refl (st : Store) : st.Released st [] := ⟨fun j _ => by simp, by simp, rfl, rfl⟩

theorem Store.Released.cons {a b : Store} {i : Nat} {slots : List Nat} (h : (a.release i).Released b slots) :
    a.Released b (i :: slots) := by
  refine ⟨fun j small => ?_, ?_, h.ready, h.lastClosed⟩
  · have released : (a.release i).slot j = if i = j ∧ i < 8 then ⟨.free, .blank⟩ else a.slot j := slot_putSlot ..
    rw [h.slot j small, released]
    by_cases same : i = j
    · subst same
      simp [small]
    · simp [same, Ne.symm same]
  · rw [h.awaiting, release_awaiting, List.filter_filter]
    refine List.filter_congr fun j _ => ?_
    rw [Bool.eq_iff_iff]
    simp [and_comm]

/-- All but the slots and the awaiting list is left alone. -/
theorem Store.Released.frame {a b : Store} {slots : List Nat} (h : a.Released b slots) :
    { b with slots := a.slots, awaiting := a.awaiting } = a := by
  obtain ⟨-, -, ready, lastClosed⟩ := h
  rw [ready, lastClosed]

/-- Releasing every slot that awaits proof leaves none awaiting. -/
theorem Store.Released.none_awaiting {a b : Store} (h : a.Released b a.awaiting) : b.awaiting = [] := by
  rw [h.awaiting, List.filter_eq_nil_iff]
  exact fun i mem => by simpa using mem

/-- The bits PROOF SKIPPED posts for a list of slots skipped. -/
def skippedNote (slots : List Nat) : Word24 := if slots = [] then 0 else 0x100000

theorem Photo.skipAll_spec (slots : List Nat) (p : Photo) (gap : p.proof.gap ≤ 65535) :
    ∃ st, p.store.Released st slots ∧ slots.foldl Photo.skipLine p = { p with
      store := st
      proof := { p.proof with gap := min 65535 (p.proof.gap + slots.length) }
      reply := { p.reply with pending := p.reply.pending ||| skippedNote slots } } := by
  induction slots generalizing p with
  | nil =>
    refine ⟨p.store, .refl _, ?_⟩
    simp [skippedNote, Nat.min_eq_right gap]
  | cons i rest ih =>
    have risen : p.proof.skip.gap = min 65535 (p.proof.gap + 1) := saturate_eq gap
    obtain ⟨st, released, skipped⟩ := ih (p.skipLine i) (risen.trans_le (min_le_left _ _))
    refine ⟨st, released.cons, ?_⟩
    have count : min 65535 (p.proof.skip.gap + rest.length) = min 65535 (p.proof.gap + (rest.length + 1)) := by
      rw [risen]; omega
    have note : postTo p.reply.pending .proofSkipped ||| skippedNote rest =
        p.reply.pending ||| skippedNote (i :: rest) := by
      unfold skippedNote postTo
      rw [BitVec.or_assoc]
      split <;> rfl
    rw [List.foldl_cons, skipped]
    simp only [Photo.skipLine_pins, Photo.skipLine_busy, Photo.skipLine_imager, Photo.skipLine_film,
      Photo.skipLine_proof, Photo.skipLine_log, Photo.skipLine_reply, count, note]
    rfl

section Steps

variable {s : State}

/-- A step of the photo unit's side by what its operation comes to, the held item and the markers left alone. -/
theorem onPhoto_eq {busy : Bool} {f : Photo → Photo} {q : Photo} (law : HeldSyncLaw s) (h : f (s.photo busy) = q)
    (held : q.reply.held = s.reply.held) (markers : q.reply.markers = s.reply.markers) :
    s.onPhoto busy f = s.withPhoto q := by
  subst h
  exact onPhoto_of_law law held markers

/-- An entry to OFFLINE in the whole part. -/
theorem State.goOffline_spec (law : HeldSyncLaw s) (gap : s.proof.gap ≤ 65535) {f : Photo → Photo} {note : Bool}
    (goes : f (s.photo false) = (s.photo false).goOffline note) :
    ∃ st, s.store.Released st s.store.awaiting ∧ s.onPhoto false f = { s with
      store := st
      proof := { s.proof with
        printer := .offline note, port := .idle, printLine := 0, printByte := 0
        gap := min 65535 (s.proof.gap + s.store.awaiting.length) }
      reply := { s.reply with pending := s.reply.pending ||| 0x80000 ||| skippedNote s.store.awaiting } } := by
  obtain ⟨st, released, skipped⟩ := Photo.skipAll_spec s.store.awaiting
    (((s.photo false).withProof
      { s.proof.restart with printer := .offline note, port := .idle }).post .proofOffline) gap
  refine ⟨st, released, ?_⟩
  rw [onPhoto_eq law (goes.trans skipped) rfl rfl]
  rfl

/-! ### The handshake (R169, R171, R174, R175) -/

theorem Proof.nextPosition_of_cons {x : Proof} {r : ProofRecord} {rest : List ProofRecord}
    (queue : x.queue = r :: rest) :
    x.nextPosition =
      if x.printByte + 1 < ((r.printLines[x.printLine]?).getD []).length then some (x.printLine, x.printByte + 1)
      else if x.printLine + 1 < r.printLines.length then some (x.printLine + 1, 0)
      else none := by
  unfold Proof.nextPosition
  rw [queue]

/-- The Proof Spooler has a byte out, and waits for its ACK (R175). -/
def Proof.AwaitsAck (x : Proof) : Prop := x.printer = .online ∧ (x.port = .waitAck ∨ x.port = .waitAckRetry)

section Accept

variable {p : Photo}

/-- A byte accepted, with another to send: the print position moves on, and BUSY is looked at. -/
theorem Photo.accept_of_next (waits : p.proof.AwaitsAck) {line byte : Nat}
    (next : p.proof.nextPosition = some (line, byte)) :
    p.accept = p.withProof
      (portLooks { p.proof with port := .idle, printLine := line, printByte := byte } p.busy) := by
  have next : Proof.nextPosition { p.proof with port := .idle } = some (line, byte) := next
  unfold Photo.accept
  rw [if_pos (show _ ∧ _ from waits), portLooks_eq]
  simp only [Photo.withProof_proof, next]
  rfl

/-- The last byte of a record accepted, with no slot waiting. -/
theorem Photo.accept_of_last (waits : p.proof.AwaitsAck) (last : p.proof.nextPosition = none)
    (none : p.store.awaiting = []) :
    p.accept = p.withProof (portLooks
      { p.proof with queue := p.proof.queue.tail, printLine := 0, printByte := 0, port := .idle } p.busy) := by
  have last : Proof.nextPosition { p.proof with port := .idle } = Option.none := last
  unfold Photo.accept
  rw [if_pos (show _ ∧ _ from waits), portLooks_eq]
  simp only [Photo.withProof_proof, last, Photo.finishRecord, Photo.withProof_store, none]
  rfl

/-- The last byte of a record accepted: the slot that waits longest is copied into the place it leaves (R169). -/
theorem Photo.accept_of_waiting (waits : p.proof.AwaitsAck) (last : p.proof.nextPosition = none) {i : Nat}
    {waiting : List Nat} (some : p.store.awaiting = i :: waiting) :
    p.accept = (p.withStore (p.store.release i)).withProof (portLooks { p.proof with
      queue := p.proof.queue.tail ++ [proofOf (p.store.record i) p.proof.gap]
      gap := 0, printLine := 0, printByte := 0, port := .idle } p.busy) := by
  have last : Proof.nextPosition { p.proof with port := .idle } = none := last
  unfold Photo.accept
  rw [if_pos (show _ ∧ _ from waits), portLooks_eq, proofOf_eq]
  simp only [Photo.withProof_proof, last, Photo.finishRecord, Photo.withProof_store, some]
  rfl

end Accept

theorem release_eq (st : Store) (i : Nat) :
    st.release i =
      { st.putSlot i ⟨.free, .blank⟩ with awaiting := st.awaiting.filter fun j => decide (j ≠ i) } := by
  have same : st.awaiting.filter (· != i) = st.awaiting.filter fun j => decide (j ≠ i) :=
    List.filter_congr fun j _ => Bool.eq_iff_iff.mpr (by simp)
  unfold Store.release
  rw [same]

/-- With a byte held by BUSY and no record none is sent; with a record it is the byte at the print position. -/
theorem Proof.currentByte_eq (x : Proof) :
    x.currentByte =
      (((x.queue.head?.map fun r => (r.printLines[x.printLine]?).getD []).getD []).getD x.printByte 0) := by
  unfold Proof.currentByte
  cases x.queue with
  | nil => rfl
  | cons r rest => simp [List.getD_eq_getElem?_getD]

/-! ### SELECT (R170) -/

theorem execSelectInactive_of_select (select : s.pins.select = true) (up : s.pins.resetLine = false) :
    exec .selectInactive s =
      .next ((s.withPins { s.pins with select := false }).onPhoto false Photo.deselect) := by
  change execSelectInactive s = _
  simp [execSelectInactive, select, up]

theorem execSelectActive_of_not_select {busy : Bool} (select : s.pins.select = false)
    (up : s.pins.resetLine = false) :
    exec (.selectActive busy) s =
      .next ((s.withPins { s.pins with select := true }).onPhoto busy Photo.reselect) := by
  change execSelectActive busy s = _
  simp [execSelectActive, select, up]

/-! ### The printer's steps in the whole part -/

/-- An operation that leaves the photo unit's side alone leaves the whole part alone. -/
theorem onPhoto_idle {busy : Bool} {f : Photo → Photo} (law : HeldSyncLaw s)
    (h : f (s.photo busy) = s.photo busy) : s.onPhoto busy f = s :=
  onPhoto_eq law h rfl rfl

theorem Photo.deselect_of_online {p : Photo} (online : p.proof.printer = .online) :
    p.deselect = p.goOffline true := by
  simp [Photo.deselect, online]

theorem Photo.deselect_of_offline {p : Photo} {note : Bool} (offline : p.proof.printer = .offline note) :
    p.deselect = p.withProof { p.proof with printer := .offline true } := by
  simp [Photo.deselect, offline]

theorem Photo.reselect_of_seen {p : Photo} (offline : p.proof.printer = .offline true) :
    p.reselect = p.withProof (portLooks { p.proof with printer := .online } p.busy) := by
  simp [Photo.reselect, offline, portLooks_eq]

theorem Photo.reselect_of_not_seen {p : Photo} (other : p.proof.printer ≠ .offline true) : p.reselect = p := by
  unfold Photo.reselect
  split
  · next seen => exact absurd seen other
  · rfl

theorem Photo.busyExpires_of_waits {p : Photo} (port : p.proof.port = .waitBusy) :
    p.busyExpires = p.goOffline false :=
  if_pos port

/-- The ACK timer expires once: the byte is tried again. -/
theorem Photo.ackExpires_of_waits {p : Photo} (port : p.proof.port = .waitAck) :
    p.ackExpires = p.withProof { p.proof with port := .waitAckRetry } := by
  simp [Photo.ackExpires, port]

/-- The ACK timer expires for the second time. -/
theorem Photo.ackExpires_of_retries {p : Photo} (port : p.proof.port = .waitAckRetry) :
    p.ackExpires = p.goOffline false := by
  simp [Photo.ackExpires, port]

theorem Photo.notBusy_of_waits {p : Photo} (online : p.proof.printer = .online) (port : p.proof.port = .waitBusy) :
    p.notBusy = p.withProof { p.proof with port := .waitAck, data := p.proof.currentByte } :=
  if_pos ⟨online, port⟩

theorem Photo.ackExpires_of_idle {p : Photo} (port : p.proof.port = .idle ∨ p.proof.port = .waitBusy) :
    p.ackExpires = p := by
  rcases port with h | h <;> simp [Photo.ackExpires, h]

theorem Photo.accept_of_idle {p : Photo} (port : p.proof.port = .idle ∨ p.proof.port = .waitBusy) :
    p.accept = p := by
  unfold Photo.accept
  rw [if_neg]
  rintro ⟨-, wait | retry⟩
  · simp [wait] at port
  · simp [retry] at port

end Steps

/-- Settles O42: SELECT by the printer's state, BUSY and the two timers by the port's phase, ACK by what is left of the
record. -/
theorem printerHandshake : Obligations.PrinterHandshake := by
  unfold Obligations.PrinterHandshake
  intro s law up gap x line goesOffline
  have lawful (pins : Pins) : HeldSyncLaw (s.withPins pins) := law
  have offline (pins : Pins) {f : Photo → Photo} {note : Bool}
      (goes : f ((s.withPins pins).photo false) = ((s.withPins pins).photo false).goOffline note) :
      goesOffline note pins (.next ((s.withPins pins).onPhoto false f)) := by
    obtain ⟨st, released, gone⟩ := State.goOffline_spec (s := s.withPins pins) law gap goes
    rw [gone]
    exact ⟨_, rfl, rfl, rfl, released.none_awaiting, released.slot, released.frame, rfl, rfl⟩
  refine ⟨fun select online => ?_, fun note select off => ?_, fun select => ?_, fun busy select => ?_,
    fun busy select => ⟨fun seen => ?_, fun other => ?_⟩, fun online waits => ?_, fun idle => ?_, fun waits => ?_,
    fun idle => ?_, fun waits => ?_, fun retries => ?_, fun idle => ?_, fun busy idle => ?_,
    fun busy r rest online waits queue => ⟨fun more => ?_, fun ended more => ?_, fun ended last => ⟨fun none => ?_,
      fun i waiting some => ?_⟩⟩⟩
  · rw [execSelectInactive_of_select select up]
    exact offline _ (Photo.deselect_of_online online)
  · rw [execSelectInactive_of_select select up]
    have unselected := lawful { s.pins with select := false }
    exact congrArg Host.Outcome.next (onPhoto_eq unselected (Photo.deselect_of_offline off) rfl rfl)
  · exact if_neg (by simp [select])
  · exact if_pos select
  · rw [execSelectActive_of_not_select select up]
    have selected := lawful { s.pins with select := true }
    exact congrArg Host.Outcome.next (onPhoto_eq selected (Photo.reselect_of_seen seen) rfl rfl)
  · rw [execSelectActive_of_not_select select up]
    exact congrArg Host.Outcome.next (onPhoto_idle (lawful _) (Photo.reselect_of_not_seen other))
  · have strobes := Photo.notBusy_of_waits (p := s.photo false) online waits
    rw [Proof.currentByte_eq] at strobes
    exact congrArg Host.Outcome.next (onPhoto_eq law strobes rfl rfl)
  · exact congrArg Host.Outcome.next (onPhoto_idle law (if_neg fun h => idle h.2))
  · exact offline s.pins (Photo.busyExpires_of_waits waits)
  · exact congrArg Host.Outcome.next (onPhoto_idle law (if_neg idle))
  · exact congrArg Host.Outcome.next (onPhoto_eq law (Photo.ackExpires_of_waits waits) rfl rfl)
  · exact offline s.pins (Photo.ackExpires_of_retries retries)
  · exact congrArg Host.Outcome.next (onPhoto_idle law (Photo.ackExpires_of_idle idle))
  · exact congrArg Host.Outcome.next (onPhoto_idle law (Photo.accept_of_idle idle))
  all_goals
    have text : line = (r.printLines[x.printLine]?).getD [] := by simp only [line, queue]; rfl
    have next := Proof.nextPosition_of_cons queue
    rw [← text] at next
  · rw [if_pos more] at next
    exact congrArg Host.Outcome.next (onPhoto_eq law (Photo.accept_of_next ⟨online, waits⟩ next) rfl rfl)
  · rw [if_neg (Nat.not_lt.mpr ended), if_pos more] at next
    exact congrArg Host.Outcome.next (onPhoto_eq law (Photo.accept_of_next ⟨online, waits⟩ next) rfl rfl)
  · rw [if_neg (Nat.not_lt.mpr ended), if_neg (Nat.not_lt.mpr last)] at next
    have accepts := Photo.accept_of_last (p := s.photo busy) ⟨online, waits⟩ next none
    rw [show (s.photo busy).proof.queue = r :: rest from queue] at accepts
    exact congrArg Host.Outcome.next (onPhoto_eq law accepts rfl rfl)
  · rw [if_neg (Nat.not_lt.mpr ended), if_neg (Nat.not_lt.mpr last)] at next
    have accepts := Photo.accept_of_waiting (p := s.photo busy) ⟨online, waits⟩ next some
    rw [show (s.photo busy).proof.queue = r :: rest from queue, release_eq] at accepts
    exact congrArg Host.Outcome.next (onPhoto_eq law accepts rfl rfl)

end Sys2Proof.Machine
end

section
/-! PROOFS. The head of the ready list taken (`ImagerTakesTheHeadOfTheReadyList`): what Film Transport answers a net
move, the photo unit's side with a line in hand and its film move asked for (`Photo.takes`), and how the line goes on
from there. -/

namespace Sys2Proof.Machine

open Sys2Proof Sys2Proof.Safety

/-! ### A net move asked of Film Transport (R151 to R154, R160) -/

/-- The column floor once a net move is served (R152). -/
def Film.markedFloor (y : Film) (mark : Bool) : Nat := if mark then y.f else y.floor

/-- The lowest permitted position of a net move (R152). -/
def Film.low (y : Film) (mark : Bool) : Nat := max (y.markedFloor mark) (y.h - 14400)

/-- Whether a net move is clamped at its lowest permitted position (R152). -/
def Film.reverses (y : Film) (v : Int) (mark : Bool) : Bool := decide ((y.f : Int) + v < y.low mark)

/-- The target of a net move (R152). -/
def Film.target (y : Film) (v : Int) (mark : Bool) : Nat :=
  if y.reverses v mark then y.low mark else ((y.f : Int) + v).toNat

/-- The events of a clamp (R152). -/
def clampPosts (clamped : Bool) : List Event := if clamped then [.reverseClamped] else []

section Film

variable {y : Film} {v : Int} {mark : Bool}

theorem Film.holdOut_eq (y : Film) (q : Request) (clamped : Bool) :
    y.holdOut q clamped =
      ⟨{ y with transport := .filmOut, held := some q }, clampPosts clamped ++ [.filmOut], clamped, none⟩ := by
  cases clamped <;> rfl

/-- A net move on film of known length, by its target (R152 to R154). -/
theorem Film.serveMove_of_known (known : 0 < y.l) :
    y.serveMove v mark =
      let x : Film := { y with floor := y.markedFloor mark, held := none }
      if y.l < y.target v mark then x.holdOut (.move v mark) (y.reverses v mark)
      else if y.target v mark = y.f then
        ⟨{ x with transport := .ready, h := max y.h (y.target v mark) }, clampPosts (y.reverses v mark),
          y.reverses v mark, some (.moveDone (y.target v mark))⟩
      else
        ⟨x.withTransport (.moving (y.target v mark) true), clampPosts (y.reverses v mark), y.reverses v mark, none⟩ :=
  if_neg known.ne'

theorem Film.ask_of_ready (ready : y.transport = .ready) (q : Request) : y.ask q = y.serve q := by
  simp [Film.ask, ready]

theorem Film.ask_of_moves (ready : y.transport = .ready) (known : 0 < y.l) (reached : y.target v mark ≤ y.l)
    (other : y.target v mark ≠ y.f) :
    y.ask (.move v mark) =
      ⟨{ y with floor := y.markedFloor mark, held := none, transport := .moving (y.target v mark) true },
        clampPosts (y.reverses v mark), y.reverses v mark, none⟩ := by
  rw [Film.ask_of_ready ready, Film.serve, Film.serveMove_of_known known]
  exact (if_neg (Nat.not_lt.mpr reached)).trans (if_neg other)

theorem Film.ask_of_short (ready : y.transport = .ready) (known : 0 < y.l) (short : y.l < y.target v mark) :
    y.ask (.move v mark) =
      ⟨{ y with floor := y.markedFloor mark, held := some (.move v mark), transport := .filmOut },
        clampPosts (y.reverses v mark) ++ [.filmOut], y.reverses v mark, none⟩ := by
  rw [Film.ask_of_ready ready, Film.serve, Film.serveMove_of_known known]
  exact (if_pos short).trans (Film.holdOut_eq _ _ _)

theorem Film.ask_of_there (ready : y.transport = .ready) (known : 0 < y.l) (there : y.target v mark = y.f)
    (behind : y.f ≤ y.h) (within : y.h ≤ y.l) :
    y.ask (.move v mark) =
      ⟨{ y with floor := y.markedFloor mark, held := none }, clampPosts (y.reverses v mark), y.reverses v mark,
        some (.moveDone y.f)⟩ := by
  rw [Film.ask_of_ready ready, Film.serve, Film.serveMove_of_known known, there, max_eq_left behind, ← ready]
  exact (if_neg (Nat.not_lt.mpr (behind.trans within))).trans (if_pos rfl)

/-- A request without film to move or without a cassette is held (R153). -/
theorem Film.ask_of_out (out : y.transport = .filmOut ∨ y.transport = .noCassette) (q : Request) :
    y.ask q = ⟨{ y with held := some q }, [.filmOut], false, none⟩ := by
  rcases out with h | h <;> simp [Film.ask, h]

/-- A request behind another motion is held (R160). -/
theorem Film.ask_of_motion
    (motion : (∃ target w, y.transport = .moving target w ∨ y.transport = .cutAdvance target w) ∨
      ∃ w, y.transport = .cutStroke w) (q : Request) : y.ask q = ⟨{ y with held := some q }, [], false, none⟩ := by
  rcases motion with ⟨target, w, h | h⟩ | ⟨w, h⟩ <;> simp [Film.ask, h, Film.quietly]

theorem Film.ask_of_fault (fault : y.transport = .fault) (q : Request) :
    y.ask q = ⟨y, [.filmFault], false, some .filmFault⟩ := by
  simp [Film.ask, fault]

end Film

end Sys2Proof.Machine
end

section
/-! PROOFS. The line taken, and what becomes of it at once. -/

namespace Sys2Proof.Machine

open Sys2Proof Sys2Proof.Safety

/-! ### A line in hand -/

/-- Slot `i` IMAGING with a record, and the rest of the ready list. -/
def Store.takes (st : Store) (i : Nat) (rest : List Nat) (r : LineRecord) : Store :=
  { st.putSlot i ⟨.imaging, r⟩ with ready := rest }

theorem Store.takes_record (st : Store) {i : Nat} (small : i < 8) (rest : List Nat) (r : LineRecord) :
    (st.takes i rest r).record i = r :=
  congrArg LineSlot.record (slot_putSlot_same st _ small)

theorem Store.takes_putRecord (st : Store) {i : Nat} (small : i < 8) (rest : List Nat) (r q : LineRecord) :
    (st.takes i rest r).putRecord i q = st.takes i rest q := by
  have slot : (st.takes i rest r).slot i = ⟨.imaging, r⟩ := slot_putSlot_same st _ small
  have twice := putSlot_putSlot st i ⟨.imaging, r⟩ ⟨.imaging, q⟩
  unfold Store.putRecord
  rw [slot]
  exact congrArg (fun u : Store => { u with ready := rest }) twice

/-- The photo unit's side with the line of slot `i` in hand: its record, Film Transport, the events posted since the
line was taken, and the Imager. -/
def Photo.takes (p : Photo) (i : Nat) (rest : List Nat) (r : LineRecord) (y : Film) (set : Word24) (x : Imager) :
    Photo :=
  { p with
    store := p.store.takes i rest r, film := y, imager := x
    reply := { p.reply with pending := p.reply.pending ||| set } }

/-- A record flagged by a clamp of its film move (R152). -/
def LineRecord.clampFlagged (r : LineRecord) (clamped : Bool) : LineRecord :=
  if clamped then { r with flags := { r.flags with reverseClamped := true } } else r

theorem LineRecord.clampFlagged_items (r : LineRecord) (clamped : Bool) : (r.clampFlagged clamped).items = r.items := by
  cases clamped <;> rfl

theorem LineRecord.clampFlagged_kind (r : LineRecord) (clamped : Bool) : (r.clampFlagged clamped).kind = r.kind := by
  cases clamped <;> rfl

theorem LineRecord.clampFlagged_number (r : LineRecord) (clamped : Bool) :
    (r.clampFlagged clamped).number = r.number := by
  cases clamped <;> rfl

/-! ### Film Transport's answer applied -/

theorem foldl_post (events : List Event) (p : Photo) :
    events.foldl Photo.post p =
      { p with reply := { p.reply with pending := events.foldl postTo p.reply.pending } } := by
  induction events generalizing p with
  | nil => rfl
  | cons e rest ih => rw [List.foldl_cons, ih]; rfl

theorem foldl_postTo_or (events : List Event) (a b : Word24) :
    events.foldl postTo (a ||| b) = a ||| events.foldl postTo b := by
  induction events generalizing b with
  | nil => rfl
  | cons e rest ih =>
    rw [List.foldl_cons, List.foldl_cons, ← ih]
    unfold postTo
    rw [BitVec.or_assoc]

section Takes

variable {p : Photo} {i : Nat} {rest : List Nat} {r : LineRecord} {y z : Film} {set : Word24} {x : Imager}
  {pr : Progress}

theorem Photo.applyFilm_takes (small : i < 8) (line : x.line = some pr) (slot : pr.slot = i) (events : List Event)
    (clamped : Bool) (report : Option Report) :
    (p.takes i rest r y set x).applyFilm ⟨z, events, clamped, report⟩ =
      p.takes i rest (r.clampFlagged clamped) z (events.foldl postTo set) x := by
  have posted : events.foldl Photo.post { p.takes i rest r y set x with film := z } =
      p.takes i rest r z (events.foldl postTo set) x := by
    rw [foldl_post]
    simp only [Photo.takes, foldl_postTo_or]
  unfold Photo.applyFilm
  simp only [posted]
  cases clamped with
  | false => rfl
  | true =>
    subst slot
    unfold Photo.flagLine
    simp only [if_true, Photo.takes, line, Photo.withStore, Store.takes_record _ small,
      Store.takes_putRecord _ small]
    rfl

/-! ### The head of the ready list (R116, R130) -/

/-- The line is in hand, with nothing else begun. -/
def Photo.inHand (p : Photo) (i : Nat) (rest : List Nat) : Photo :=
  p.takes i rest (p.store.record i) p.film 0 { p.imager with line := some (.fresh i) }

theorem Photo.inHand_eq (ready : p.store.ready = i :: rest) :
    (p.withStore { p.store.mark i .imaging with ready := p.store.ready.tail }).withLine (.fresh i) =
      p.inHand i rest := by
  unfold Photo.inHand Photo.takes
  rw [show p.reply.pending ||| 0 = p.reply.pending from BitVec.or_zero, ready]
  rfl

theorem Photo.takeLine_of_can (ready : p.store.ready = i :: rest) (can : p.canTakeLine = true) :
    p.takeLine = p.takeSlot i := by
  simp [Photo.takeLine, ready, can]

theorem Photo.takeLine_discards (ready : p.store.ready = i :: rest) (can : p.canTakeLine = true)
    (discard : (p.store.record i).discard = true) : p.takeLine = (p.inHand i rest).endAtOnce .discarded := by
  rw [Photo.takeLine_of_can ready can, Photo.takeSlot]
  dsimp only
  rw [Photo.inHand_eq ready, if_pos discard]

theorem Photo.takeLine_stops (ready : p.store.ready = i :: rest) (can : p.canTakeLine = true)
    (kept : (p.store.record i).discard = false) (kind : (p.store.record i).kind = .stop) :
    p.takeLine = (p.inHand i rest).takeStop := by
  rw [Photo.takeLine_of_can ready can, Photo.takeSlot]
  dsimp only
  rw [Photo.inHand_eq ready, kept, kind]
  rfl

/-- A record that needs no disc (R130, R132). -/
theorem Photo.takeLine_bare (ready : p.store.ready = i :: rest) (can : p.canTakeLine = true)
    (kept : (p.store.record i).discard = false)
    (bare : (p.store.record i).kind = .cut ∨ ((p.store.record i).kind = .text ∧ (p.store.record i).glyphs = [])) :
    p.takeLine = (p.inHand i rest).takeBare (p.store.record i) := by
  rw [Photo.takeLine_of_can ready can, Photo.takeSlot]
  dsimp only
  rw [Photo.inHand_eq ready, kept]
  rcases bare with kind | ⟨kind, empty⟩
  · rw [kind]; rfl
  · rw [kind, empty]; rfl

/-- A TEXT line with glyph entries (R130, R132). -/
theorem Photo.takeLine_text (ready : p.store.ready = i :: rest) (can : p.canTakeLine = true)
    (kept : (p.store.record i).discard = false) (kind : (p.store.record i).kind = .text)
    (glyphs : (p.store.record i).glyphs ≠ []) : p.takeLine = (p.inHand i rest).takeText (p.store.record i) := by
  rw [Photo.takeLine_of_can ready can, Photo.takeSlot]
  dsimp only
  rw [Photo.inHand_eq ready, kept, kind]
  exact if_neg (show ¬(p.store.record i).glyphs.isEmpty = true by simpa using glyphs)

/-- Whether a record needs a disc: a TEXT line with glyph entries (R130). -/
def LineRecord.NeedsDisc (r : LineRecord) : Prop := r.kind = .text ∧ r.glyphs ≠ []

theorem Photo.takeLine_begins (ready : p.store.ready = i :: rest) (can : p.canTakeLine = true)
    (kept : (p.store.record i).discard = false) (kind : (p.store.record i).kind ≠ .stop) {begun : Imager}
    (starts : (p.store.record i).NeedsDisc → p.imager.disc = .stopped ∧ begun = { p.imager with
      line := some (.fresh i), state := .spinUp, disc := .starting, sectors := none })
    (sets : ¬(p.store.record i).NeedsDisc → begun = { p.imager with line := some (.fresh i), state := .setting }) :
    p.takeLine = (p.takes i rest (p.store.record i) p.film 0 begun).runFilm
      (p.film.ask (.move (p.store.record i).filmMove (p.store.record i).columnMark)) := by
  by_cases needs : (p.store.record i).NeedsDisc
  · obtain ⟨stopped, rfl⟩ := starts needs
    rw [Photo.takeLine_text ready can kept needs.1 needs.2]
    exact if_pos stopped
  · rw [sets needs]
    refine Photo.takeLine_bare ready can kept ?_
    cases which : (p.store.record i).kind with
    | stop => exact absurd which kind
    | cut => exact .inl rfl
    | text => exact .inr ⟨rfl, by_contra fun glyphs => needs ⟨which, glyphs⟩⟩

/-- With the disc turning the first glyph is begun after the film move is asked for (R130). -/
theorem Photo.takeLine_turning (ready : p.store.ready = i :: rest) (can : p.canTakeLine = true)
    (kept : (p.store.record i).discard = false) (needs : (p.store.record i).NeedsDisc)
    (turning : p.imager.disc ≠ .stopped) :
    p.takeLine = Photo.pursueSetting ((p.takes i rest (p.store.record i) p.film 0
      { p.imager with line := some (.fresh i), state := .setting }).runFilm
        (p.film.ask (.move (p.store.record i).filmMove (p.store.record i).columnMark))) := by
  rw [Photo.takeLine_text ready can kept needs.1 needs.2]
  exact if_neg turning

/-! ### The film move done at once (R132, R154) -/

theorem Photo.filmDone_takes (small : i < 8) (line : x.line = some pr) (slot : pr.slot = i) (tag : Nat) :
    (p.takes i rest r y set x).filmDone tag =
      let q := p.takes i rest r y set { x with filmTag := tag, line := some { pr with phase := r.phaseAfterFilm } }
      if r.phaseAfterFilm = .glyph then q else q.pursueSetting := by
  subst slot
  unfold Photo.filmDone
  simp only [Photo.takes, Photo.withImager, Photo.withLine, line, Store.takes_record _ small]

theorem LineRecord.phaseAfterFilm_of_needsDisc (needs : r.NeedsDisc) : r.phaseAfterFilm = .glyph := by
  obtain ⟨kind, glyphs⟩ := needs
  simp [LineRecord.phaseAfterFilm, kind, glyphs]

theorem LineRecord.phaseAfterFilm_of_cut (kind : r.kind = .cut) : r.phaseAfterFilm = .cut := by
  simp [LineRecord.phaseAfterFilm, kind]

theorem LineRecord.phaseAfterFilm_of_empty (kind : r.kind = .text) (empty : r.glyphs = []) :
    r.phaseAfterFilm = .back := by
  simp [LineRecord.phaseAfterFilm, kind, empty]

/-! ### The end of a line (R117, R143) -/

/-- A line completed leaves Film Transport alone, and its record joins the log. -/
theorem Photo.completeLine_frame (line : p.imager.line = some pr) :
    ∃ st x reply, p.completeLine = { p with
      store := st
      imager := { p.imager with line := none, state := if p.imager.disc = .stopped then .standby else .idle }
      proof := x
      log := (p.log.append (logRecord
        { p.store.record pr.slot with outcome := some .set, tag := p.imager.filmTag } .set p.imager.filmTag pr)).1
      reply := reply } := by
  obtain ⟨st, x, reply, ended⟩ := Photo.imagingEnd_frame p .set p.imager.filmTag pr line
  refine ⟨st, x, reply, ?_⟩
  unfold Photo.completeLine
  rw [ended]
  rfl

/-- A line in its return phase without a glyph is completed at once (R143). -/
theorem Photo.pursueSetting_takes_empty (small : i < 8) (state : x.state = .setting) (line : x.line = some pr)
    (slot : pr.slot = i) (phase : pr.phase = .back) (empty : r.glyphs = []) :
    (p.takes i rest r y set x).pursueSetting = (p.takes i rest r y set x).completeLine := by
  subst slot
  have none : ((p.takes pr.slot rest r y set x).store.record pr.slot).glyphs = [] := by
    rw [show (p.takes pr.slot rest r y set x).store = p.store.takes pr.slot rest r from rfl,
      Store.takes_record _ small, empty]
  have here : (p.takes pr.slot rest r y set x).imager = x := rfl
  simp only [Photo.pursueSetting, Photo.pursue, Photo.goHome, here, state, line, phase, none, List.isEmpty_nil,
    Bool.true_or, if_true]

/-- A record that no proof is made of is resolved at its imaging end (R119, R145, R165). -/
theorem Photo.imagingEnd_unselected (line : p.imager.line = some pr) (small : pr.slot < 8) {o : LineOutcome}
    (unselected : (p.store.record pr.slot).kind = .stop ∨ o = .discarded) (tag : Nat) :
    ∃ st reply, st.slot pr.slot = ⟨.free, .blank⟩ ∧ st.ready = p.store.ready ∧ p.imagingEnd o tag = { p with
      store := st
      imager := { p.imager with line := none }
      log := (p.log.append (logRecord { p.store.record pr.slot with outcome := some o, tag := tag } o tag pr)).1
      reply := reply } := by
  let r : LineRecord := { p.store.record pr.slot with outcome := some o, tag := tag }
  let q := (p.withStore (p.store.putSlot pr.slot ⟨.setUndecided, r⟩)).withImager { p.imager with line := none }
  have ends : p.imagingEnd o tag = (q.writeLog (logRecord r o tag pr)).decideProof pr.slot := by
    simp only [Photo.imagingEnd, line]
    rfl
  obtain ⟨reply, written⟩ := Photo.writeLog_frame q (logRecord r o tag pr)
  have record : q.store.record pr.slot = r := congrArg LineSlot.record (slot_putSlot_same p.store _ small)
  have barred (mode : ProofMode) : ¬selected mode r = true := by
    rw [selected_iff]
    rintro ⟨kind, outcome, -⟩
    rcases unselected with stop | rfl
    · exact kind stop
    · exact outcome rfl
  refine ⟨q.store.release pr.slot, reply, slot_putSlot_same _ _ small, rfl, ?_⟩
  rw [ends, written]
  unfold Photo.decideProof
  dsimp only
  rw [record, if_neg (barred _)]
  rfl

end Takes

end Sys2Proof.Machine
end

section
/-! PROOFS. A line that goes on at once: a fault of Film Transport, a cut, and a first glyph begun beside the film
move. Then the step in the whole part, which a held SYNC may follow, and the statement. -/

namespace Sys2Proof.Machine

open Sys2Proof Sys2Proof.Safety

/-! ### What an imaging end and a halt leave of the pending events (R148) -/

section Halt

variable {p : Photo}

/-- A log write posts LOG OVERRUN at most. -/
theorem Photo.writeLog_pending (x : LogRecord) :
    ∃ set, (p.writeLog x).reply.pending = p.reply.pending ||| set := by
  unfold Photo.writeLog
  dsimp only [Photo.withReply, ReplyUnit.answerAll]
  rw [(ReplyUnit.answer_frame _ _ _).1]
  split
  · exact ⟨_, rfl⟩
  · exact ⟨0, (BitVec.or_zero).symm⟩

/-- The decision on a line posts PROOF SKIPPED at most. -/
theorem Photo.decideProof_pending (i : Nat) :
    ∃ set, (p.decideProof i).reply.pending = p.reply.pending ||| set := by
  have unchanged : ∃ set, p.reply.pending = p.reply.pending ||| set := ⟨0, BitVec.or_zero.symm⟩
  unfold Photo.decideProof
  split
  · split
    · exact ⟨_, rfl⟩
    · split
      · exact unchanged
      · split
        · exact ⟨_, rfl⟩
        · exact unchanged
  · exact unchanged

/-- An imaging end takes no pending event away. -/
theorem Photo.imagingEnd_pending (o : LineOutcome) (tag : Nat) :
    ∃ set, (p.imagingEnd o tag).reply.pending = p.reply.pending ||| set := by
  unfold Photo.imagingEnd
  split
  · exact ⟨0, BitVec.or_zero.symm⟩
  · next pr _ =>
    dsimp only
    obtain ⟨decided, first⟩ := Photo.decideProof_pending pr.slot
    obtain ⟨written, second⟩ := Photo.writeLog_pending _
    exact ⟨written ||| decided, first.trans ((congrArg (· ||| decided) second).trans (BitVec.or_assoc ..))⟩

/-- A fault with a line in hand: the Imager is HALTED without a line, which ends with the outcome FAULT, and no pending
event is taken away (R148). -/
theorem Photo.haltNow_of_line {pr : Progress} (line : p.imager.line = some pr) (going : p.imager.state ≠ .halted) :
    p.haltNow.imager.state = .halted ∧ p.haltNow.imager.line = none ∧
      p.haltNow.log = (p.log.append (logRecord { p.store.record pr.slot with
        outcome := some .fault, tag := p.imager.filmTag } .fault p.imager.filmTag pr)).1 ∧
      ∃ set, p.haltNow.reply.pending = p.reply.pending ||| set := by
  let q : Photo := { p with film := p.film.abandon }
  obtain ⟨st, x, reply, ended⟩ := Photo.imagingEnd_frame q .fault p.imager.filmTag pr line
  have kept := Photo.imagingEnd_pending (p := q) .fault p.imager.filmTag
  have halts : p.haltNow = (q.imagingEnd .fault p.imager.filmTag).withImager
      ((q.imagingEnd .fault p.imager.filmTag).imager.halted (q.imagingEnd .fault p.imager.filmTag).pins.coverOpen) := by
    simp only [Photo.haltNow, if_neg going, Photo.abandonLine, line, Option.isSome_some, if_true, q]
  rw [halts]
  exact ⟨rfl, by rw [ended]; rfl, by rw [ended]; rfl, kept⟩

end Halt

section Takes

variable {p : Photo} {i : Nat} {rest : List Nat} {r : LineRecord} {y z : Film} {set : Word24} {x : Imager}
  {pr : Progress}

/-- FILM FAULT answered to the film move of the line taken: whatever the record needs, the Imager halts with the line in
hand (R160). -/
theorem Photo.takeLine_faults (small : i < 8) (ready : p.store.ready = i :: rest) (can : p.canTakeLine = true)
    (kept : (p.store.record i).discard = false) (kind : (p.store.record i).kind ≠ .stop)
    (fault : p.film.transport = .fault) :
    ∃ begun : Imager, begun.line = some (.fresh i) ∧ begun.state ≠ .halted ∧ begun.filmTag = p.imager.filmTag ∧
      p.takeLine = (p.takes i rest (p.store.record i) p.film 0x10000 begun).haltNow := by
  have halts (begun : Imager) (line : begun.line = some (.fresh i)) :
      (p.takes i rest (p.store.record i) p.film 0 begun).runFilm
        (p.film.ask (.move (p.store.record i).filmMove (p.store.record i).columnMark)) =
      (p.takes i rest (p.store.record i) p.film 0x10000 begun).haltNow := by
    rw [Film.ask_of_fault fault]
    exact congrArg Photo.haltNow (Photo.applyFilm_takes small line rfl [.filmFault] false (some .filmFault))
  let spinning : Imager :=
    { p.imager with line := some (.fresh i), state := .spinUp, disc := .starting, sectors := none }
  let setting : Imager := { p.imager with line := some (.fresh i), state := .setting }
  by_cases needs : (p.store.record i).NeedsDisc
  · by_cases stopped : p.imager.disc = .stopped
    · refine ⟨spinning, rfl, nofun, rfl, ?_⟩
      rw [Photo.takeLine_begins ready can kept kind (fun _ => ⟨stopped, rfl⟩) (absurd needs), halts spinning rfl]
    · refine ⟨setting, rfl, nofun, rfl, ?_⟩
      rw [Photo.takeLine_turning ready can kept needs stopped, halts setting rfl, Photo.pursueSetting, if_neg]
      rw [Photo.haltNow_state]
      nofun
  · refine ⟨setting, rfl, nofun, rfl, ?_⟩
    rw [Photo.takeLine_begins ready can kept kind (fun h => absurd h needs) (fun _ => rfl), halts setting rfl]

/-! ### The cut (R144, R156) -/

theorem Imager.carriageAt_iff (x : Imager) (target : Nat) :
    x.carriageAt target = true ↔ x.carriageMove = none ∧ x.carriage = some target := by
  simp [Imager.carriageAt]

/-- A carriage away from its target is under way to it, or to where it was sent before (R137). -/
theorem Imager.driveCarriage_of_away {target : Nat} (away : x.carriageAt target = false) :
    x.driveCarriage target = { x with carriageMove := some (x.carriageMove.getD target) } := by
  unfold Imager.driveCarriage
  cases move : x.carriageMove with
  | none =>
    have there : ¬x.carriage = some target := fun at' =>
      absurd ((x.carriageAt_iff target).mpr ⟨move, at'⟩) (by simp [away])
    simp [there]
  | some m =>
    rw [if_pos (.inl rfl)]
    exact congrArg (fun c => { x with carriageMove := c }) move

theorem Photo.pursueSetting_takes_cut (state : x.state = .setting) (line : x.line = some pr)
    (phase : pr.phase = .cut) :
    (p.takes i rest r y set x).pursueSetting = (p.takes i rest r y set x).pursueCut pr := by
  simp only [Photo.pursueSetting, Photo.pursue, Photo.takes, state, line, phase, if_true]

/-- A cut waits for the carriage to stand at 0. -/
theorem Photo.pursueCut_takes_away (done : pr.cutDone = false) (asked : pr.cutAsked = false)
    (away : x.carriageAt 0 = false) :
    (p.takes i rest r y set x).pursueCut pr =
      p.takes i rest r y set { x with carriageMove := some (x.carriageMove.getD 0) } := by
  unfold Photo.pursueCut
  simp only [Photo.takes, done, asked, away, Bool.false_eq_true, if_false, Photo.withImager,
    Imager.driveCarriage_of_away away]

/-- With the carriage at 0 the cut is asked for. -/
theorem Photo.pursueCut_takes_home (small : i < 8) (slot : pr.slot = i) (done : pr.cutDone = false)
    (asked : pr.cutAsked = false) (home : x.carriageAt 0 = true) {events : List Event}
    (answer : y.ask .cut = ⟨z, events, false, none⟩) :
    (p.takes i rest r y set x).pursueCut pr =
      p.takes i rest r z (events.foldl postTo set) { x with line := some { pr with cutAsked := true } } := by
  have applied := Photo.applyFilm_takes (p := p) (rest := rest) (r := r) (y := y) (z := z) (set := set)
    (x := { x with line := some { pr with cutAsked := true } }) (pr := { pr with cutAsked := true })
    small rfl slot events false none
  rw [← answer] at applied
  have reported : ¬(y.ask .cut).report = some .filmFault := by simp [answer]
  exact (if_neg (by simp [done])).trans ((if_neg (by simp [asked])).trans
    ((if_pos home).trans ((if_neg reported).trans applied)))

/-- A cut with film enough for its allowance begins to move (R156). -/
theorem Film.ask_cut_of_enough (ready : y.transport = .ready) (enough : y.f + 480 ≤ y.l) :
    y.ask .cut = ⟨{ y with held := none, transport := .cutAdvance (y.f + 480) true }, [], false, none⟩ := by
  rw [Film.ask_of_ready ready]
  exact if_neg (Nat.not_lt.mpr enough)

/-- A cut without is held in FILM OUT (R156). -/
theorem Film.ask_cut_of_short (ready : y.transport = .ready) (short : y.l < y.f + 480) :
    y.ask .cut = ⟨{ y with held := some .cut, transport := .filmOut }, [.filmOut], false, none⟩ := by
  rw [Film.ask_of_ready ready]
  exact (if_pos short).trans (Film.holdOut_eq _ _ _)

/-! ### The first glyph begun beside the film move (R132, R133) -/

theorem Imager.driveCarriage_frame (x : Imager) (target : Nat) :
    ∃ move, x.driveCarriage target = { x with carriageMove := move } := by
  unfold Imager.driveCarriage
  split
  · exact ⟨x.carriageMove, rfl⟩
  · exact ⟨_, rfl⟩

theorem Imager.driveTurret_frame (x : Imager) (lens : Nat) :
    ∃ step, x.driveTurret lens = { x with turretStep := step } := by
  unfold Imager.driveTurret
  split
  · exact ⟨_, rfl⟩
  · exact ⟨x.turretStep, rfl⟩

theorem Imager.selectRing_frame (x : Imager) (ring : Nat) :
    ∃ settling, x.selectRing ring = { x with ring := ring, ringSettling := settling } := by
  unfold Imager.selectRing
  split
  · next same => exact ⟨x.ringSettling, congrArg (fun n => { x with ring := n }) same⟩
  · exact ⟨_, rfl⟩

/-- A glyph's positioning selects its ring and drives the turret and the carriage (R135 to R137). -/
theorem Imager.position_frame (x : Imager) (g : Glyph) :
    ∃ settling step move, x.position g =
        { x with ring := g.ring, ringSettling := settling, turretStep := step, carriageMove := move } ∧
      (x.carriageMove = none → x.carriage ≠ some g.x → move = some g.x) := by
  obtain ⟨settling, selected⟩ := x.selectRing_frame g.ring
  obtain ⟨step, driven⟩ := (x.selectRing g.ring).driveTurret_frame g.lens
  obtain ⟨move, sent⟩ := ((x.selectRing g.ring).driveTurret g.lens).driveCarriage_frame g.x
  refine ⟨settling, step, move, ?_, fun still away => ?_⟩
  · rw [Imager.position, sent, driven, selected]
  · rw [driven, selected, Imager.driveCarriage, if_neg (by simp [still, away])] at sent
    exact (congrArg Imager.carriageMove sent).symm

theorem ReplyUnit.mount_pending (u : ReplyUnit) (cts : Bool) (disc line : Nat) :
    (u.mount cts disc line).pending = u.pending := by
  unfold ReplyUnit.mount
  split
  · obtain ⟨n, appended⟩ := u.append_frame cts (.mount disc line)
    rw [appended]
  · rfl

theorem Photo.pursueSetting_takes_film (small : i < 8) (state : x.state = .setting) (line : x.line = some pr)
    (slot : pr.slot = i) (phase : pr.phase = .film) {g : Glyph} (first : r.glyphs[pr.glyph]? = some g) :
    (p.takes i rest r y set x).pursueSetting =
      if g.disc = x.mounted then
        p.takes i rest r y set { x.position g with line := some { pr with positioning := true } }
      else (p.takes i rest r y set x).waitMount pr g.disc := by
  subst slot
  have current : (p.takes pr.slot rest r y set x).currentGlyph pr = some g := by
    unfold Photo.currentGlyph
    rw [show (p.takes pr.slot rest r y set x).store = p.store.takes pr.slot rest r from rfl,
      Store.takes_record _ small, first]
  have here : (p.takes pr.slot rest r y set x).imager = x := rfl
  simp only [Photo.pursueSetting, Photo.pursue, Photo.startGlyph, here, state, line, phase, current, if_true]
  rfl

end Takes

/-! ### The step in the whole part -/

/-- A state that holds a photo unit's side, the markers and the replies apart: a held SYNC may be taken after the
step. -/
structure State.Shows (t : State) (q : Photo) : Prop where
  store : t.store = q.store
  imager : t.imager = q.imager
  film : t.film = q.film
  proof : t.proof = q.proof
  log : t.log = q.log
  pending : t.reply.pending = q.reply.pending

theorem State.retrySync_frame (s : State) :
    ∃ intake reply, s.retrySync = { s with intake := intake, reply := reply } ∧ reply.pending = s.reply.pending := by
  unfold State.retrySync
  split
  · next token held =>
    unfold State.retryHeld
    rw [held]
    dsimp only
    split
    · let u := (s.withReply { s.reply with held := none }).takeSync token
      obtain ⟨mode, sources, ended⟩ := runOut_frame u
      exact ⟨_, u.reply, ended, (ReplyUnit.answer_frame ..).1⟩
    · exact ⟨s.intake, s.reply, rfl, rfl⟩
  · exact ⟨s.intake, s.reply, rfl, rfl⟩

section Step

variable {s : State} {busy : Bool}

theorem State.onPhoto_shows (f : Photo → Photo) : (s.onPhoto busy f).Shows (f (s.photo busy)) := by
  obtain ⟨intake, reply, looked, pending⟩ := (s.withPhoto (f (s.photo busy))).retrySync_frame
  unfold State.onPhoto
  rw [looked]
  exact ⟨rfl, rfl, rfl, rfl, rfl, pending⟩

theorem execTakeLine_shows {q : Photo} (takes : (s.photo busy).takeLine = q) {cond : State → Prop}
    (holds : ∀ t : State, t.Shows q → cond t) : AnswersWith (exec (.takeLine busy) s) cond :=
  ⟨s.onPhoto busy Photo.takeLine, rfl, holds _ (takes ▸ s.onPhoto_shows Photo.takeLine)⟩

/-- The step with a line in hand and nothing resolved. -/
theorem execTakeLine_takes (law : HeldSyncLaw s) {i : Nat} {rest : List Nat} {r : LineRecord} {y : Film}
    {set : Word24} {x : Imager} (takes : (s.photo busy).takeLine = (s.photo busy).takes i rest r y set x) :
    exec (.takeLine busy) s = .next { s with
      store := { s.store.putSlot i ⟨.imaging, r⟩ with ready := rest }
      film := y, imager := x
      reply := { s.reply with pending := s.reply.pending ||| set } } :=
  congrArg Host.Outcome.next (onPhoto_eq law takes rfl rfl)

end Step

end Sys2Proof.Machine
end

section
/-! PROOFS. The head of the ready list taken in the whole part (`ImagerTakesTheHeadOfTheReadyList`): what each kind of
record comes to, then the statement. -/

namespace Sys2Proof.Machine

open Sys2Proof Sys2Proof.Safety

section Take

variable {p : Photo} {i : Nat} {rest : List Nat}

/-- No line is taken off an empty ready list, nor in another state (R116). -/
theorem Photo.takeLine_of_not_due
    (not : p.store.ready = [] ∨ (p.imager.state ≠ .standby ∧ p.imager.state ≠ .idle)) : p.takeLine = p := by
  unfold Photo.takeLine
  rcases not with empty | ⟨standby, idle⟩
  · rw [empty]
  · have cannot : p.canTakeLine = false := by simp [Photo.canTakeLine, standby, idle]
    rw [cannot]
    split <;> rfl

/-- A record resolved or completed at once, without a proof (R119, R145). -/
theorem Photo.endAtOnce_inHand (small : i < 8) {x : Imager} (line : x.line = some (.fresh i)) {o : LineOutcome}
    (unselected : (p.store.record i).kind = .stop ∨ o = .discarded) :
    ∃ st reply, st.slot i = ⟨.free, .blank⟩ ∧ st.ready = rest ∧
      ((p.inHand i rest).withImager x).endAtOnce o = { p with
        store := st
        imager := { x with line := none, filmTag := p.film.f }
        log := (p.log.append ⟨(p.store.record i).number, (p.store.record i).kind, o, (p.store.record i).flags,
          p.film.f, 0, 0, 0, 0⟩).1
        reply := reply } := by
  let q : Photo := (p.inHand i rest).withImager { x with filmTag := p.film.f }
  have record : q.store.record i = p.store.record i := Store.takes_record p.store small rest _
  obtain ⟨st, reply, free, ready, ended⟩ := Photo.imagingEnd_unselected (p := q) line small (o := o)
    (by rwa [← record] at unselected) p.film.f
  refine ⟨st, reply, free, ready, ended.trans ?_⟩
  rw [show q.store.record (Progress.fresh i).slot = p.store.record i from record]
  rfl

/-- A record marked for discard is resolved (R119). -/
theorem Photo.takeLine_discarded (small : i < 8) (ready : p.store.ready = i :: rest) (can : p.canTakeLine = true)
    (discard : (p.store.record i).discard = true) :
    ∃ st reply, st.slot i = ⟨.free, .blank⟩ ∧ st.ready = rest ∧ p.takeLine = { p with
      store := st
      imager := { p.imager with line := none, filmTag := p.film.f }
      log := (p.log.append ⟨(p.store.record i).number, (p.store.record i).kind, .discarded,
        (p.store.record i).flags, p.film.f, 0, 0, 0, 0⟩).1
      reply := reply } := by
  obtain ⟨st, reply, free, left, ended⟩ := Photo.endAtOnce_inHand (p := p) (rest := rest) small
    (x := { p.imager with line := some (.fresh i) }) rfl (o := .discarded) (.inr rfl)
  exact ⟨st, reply, free, left, (Photo.takeLine_discards ready can discard).trans ended⟩

/-- A STOP record stops the disc and is completed (R145). -/
theorem Photo.takeLine_stopped (small : i < 8) (ready : p.store.ready = i :: rest) (can : p.canTakeLine = true)
    (kept : (p.store.record i).discard = false) (stop : (p.store.record i).kind = .stop) :
    ∃ st reply, st.slot i = ⟨.free, .blank⟩ ∧ st.ready = rest ∧ p.takeLine = { p with
      store := st
      imager := { p.imager.stopDisc with line := none, filmTag := p.film.f, state := .standby }
      log := (p.log.append ⟨(p.store.record i).number, (p.store.record i).kind, .set,
        (p.store.record i).flags, p.film.f, 0, 0, 0, 0⟩).1
      reply := reply } := by
  obtain ⟨st, reply, free, left, ended⟩ := Photo.endAtOnce_inHand (p := p) (rest := rest) small
    (x := { p.imager.stopDisc with line := some (.fresh i) }) rfl (o := .set) (.inl stop)
  exact ⟨st, reply, free, left,
    (Photo.takeLine_stops ready can kept stop).trans (congrArg (Photo.enter · .standby) ended)⟩

/-- FILM FAULT answered to the film move: the line ends with the outcome FAULT, and the Imager is HALTED (R148,
R160). -/
theorem Photo.takeLine_halts (small : i < 8) (ready : p.store.ready = i :: rest) (can : p.canTakeLine = true)
    (kept : (p.store.record i).discard = false) (kind : (p.store.record i).kind ≠ .stop)
    (fault : p.film.transport = .fault) :
    p.takeLine.imager.state = .halted ∧ p.takeLine.imager.line = none ∧
      p.takeLine.reply.pending.getLsbD 16 = true ∧
      p.takeLine.log = (p.log.append ⟨(p.store.record i).number, (p.store.record i).kind, .fault,
        (p.store.record i).flags, p.imager.filmTag, 0, 0, 0, 0⟩).1 := by
  obtain ⟨begun, line, going, tag, faults⟩ := Photo.takeLine_faults small ready can kept kind fault
  let q : Photo := p.takes i rest (p.store.record i) p.film 0x10000 begun
  obtain ⟨halted, gone, log, set, pending⟩ := Photo.haltNow_of_line (p := q) line going
  have record : q.store.record i = p.store.record i := Store.takes_record p.store small rest _
  rw [faults]
  refine ⟨halted, gone, ?_, ?_⟩
  · have posted : q.reply.pending.getLsbD 16 = true := by simp [q, Photo.takes]
    rw [pending, BitVec.getLsbD_or, posted, Bool.true_or]
  · rw [log, show q.store.record (Progress.fresh i).slot = p.store.record i from record,
      show q.imager.filmTag = p.imager.filmTag from tag]
    rfl

/-! ### The film move asked for -/

section Asked

variable {z : Film} {events : List Event} {clamped : Bool}

/-- The line in hand, its film move answered without a report. -/
theorem Photo.runFilm_takes (small : i < 8) {x : Imager} (line : x.line = some (.fresh i)) {r : LineRecord} {y : Film}
    {q : Request} (answer : y.ask q = ⟨z, events, clamped, none⟩) :
    (p.takes i rest r y 0 x).runFilm (y.ask q) =
      p.takes i rest (r.clampFlagged clamped) z (events.foldl postTo 0) x := by
  rw [answer]
  exact Photo.applyFilm_takes small line rfl events clamped none

/-- The line in hand, its film move done at once (R154): the tag is kept, and the film phase ends. -/
theorem Photo.runFilm_takes_done (small : i < 8) {x : Imager} (line : x.line = some (.fresh i)) {r : LineRecord}
    {y : Film} {q : Request} {tag : Nat} (answer : y.ask q = ⟨z, events, clamped, some (.moveDone tag)⟩) :
    (p.takes i rest r y 0 x).runFilm (y.ask q) =
      let t := p.takes i rest (r.clampFlagged clamped) z (events.foldl postTo 0)
        { x with filmTag := tag, line := some { Progress.fresh i with phase := r.phaseAfterFilm } }
      if r.phaseAfterFilm = .glyph then t else t.pursueSetting := by
  have same : (r.clampFlagged clamped).phaseAfterFilm = r.phaseAfterFilm := by cases clamped <;> rfl
  rw [answer]
  change ((p.takes i rest r y 0 x).applyFilm ⟨z, events, clamped, some (.moveDone tag)⟩).filmDone tag = _
  rw [Photo.applyFilm_takes small line rfl, Photo.filmDone_takes small line rfl, same]

end Asked

/-- The progress of a line taken whose film move is done at once. -/
def Imager.entersPhase (x : Imager) (i tag : Nat) (phase : LinePhase) : Imager :=
  { x with state := .setting, filmTag := tag, line := some { Progress.fresh i with phase := phase } }

/-- A record that needs no disc, its film move done at once (R154): its next phase is gone on with. -/
theorem Photo.takeLine_bare_there (small : i < 8) (ready : p.store.ready = i :: rest) (can : p.canTakeLine = true)
    (kept : (p.store.record i).discard = false)
    (bare : (p.store.record i).kind = .cut ∨ ((p.store.record i).kind = .text ∧ (p.store.record i).glyphs = []))
    {phase : LinePhase} (next : (p.store.record i).phaseAfterFilm = phase) (later : phase ≠ .glyph)
    {z : Film} {events : List Event} {clamped : Bool} {tag : Nat}
    (answer : p.film.ask (.move (p.store.record i).filmMove (p.store.record i).columnMark) =
      ⟨z, events, clamped, some (.moveDone tag)⟩) :
    p.takeLine = (p.takes i rest ((p.store.record i).clampFlagged clamped) z (events.foldl postTo 0)
      (p.imager.entersPhase i tag phase)).pursueSetting := by
  subst next
  rw [Photo.takeLine_bare ready can kept bare]
  exact (Photo.runFilm_takes_done (p := p) (x := { p.imager with line := some (.fresh i), state := .setting })
    small rfl answer).trans (if_neg later)

/-- A TEXT line without a glyph, its film move done at once, is completed at once (R143, R154). -/
theorem Photo.takeLine_empty_there (small : i < 8) (ready : p.store.ready = i :: rest) (can : p.canTakeLine = true)
    (kept : (p.store.record i).discard = false) (text : (p.store.record i).kind = .text)
    (empty : (p.store.record i).glyphs = []) {z : Film} {events : List Event} {clamped : Bool} {tag : Nat}
    (answer : p.film.ask (.move (p.store.record i).filmMove (p.store.record i).columnMark) =
      ⟨z, events, clamped, some (.moveDone tag)⟩) :
    p.takeLine.imager = { p.imager with
        line := none, filmTag := tag, state := if p.imager.disc = .stopped then .standby else .idle } ∧
      p.takeLine.film = z ∧
      p.takeLine.log = (p.log.append ⟨(p.store.record i).number, .text, .set,
        ((p.store.record i).clampFlagged clamped).flags, tag, 0, 0, 0, 0⟩).1 := by
  let flagged := (p.store.record i).clampFlagged clamped
  let x : Imager := p.imager.entersPhase i tag .back
  let q : Photo := p.takes i rest flagged z (events.foldl postTo 0) x
  have noGlyph : flagged.glyphs = [] := (congrArg glyphsOf (LineRecord.clampFlagged_items _ _)).trans empty
  have record : q.store.record i = flagged := Store.takes_record p.store small rest _
  have goesOn : p.takeLine = q.pursueSetting := Photo.takeLine_bare_there small ready can kept
    (.inr ⟨text, empty⟩) (LineRecord.phaseAfterFilm_of_empty text empty) nofun answer
  obtain ⟨st, proof, reply, completed⟩ :=
    Photo.completeLine_frame (p := q) (pr := { Progress.fresh i with phase := .back }) rfl
  rw [goesOn, Photo.pursueSetting_takes_empty (x := x) small rfl rfl rfl rfl noGlyph, completed]
  refine ⟨rfl, rfl, ?_⟩
  have kind : flagged.kind = .text := (LineRecord.clampFlagged_kind _ _).trans text
  have number : flagged.number = (p.store.record i).number := LineRecord.clampFlagged_number _ _
  dsimp only [Progress.fresh, logRecord]
  rw [record, kind, number]
  rfl

/-- A TEXT line whose first glyph is begun beside its film move, the disc turning (R132, R133). -/
theorem Photo.takeLine_positions (small : i < 8) (ready : p.store.ready = i :: rest) (can : p.canTakeLine = true)
    (kept : (p.store.record i).discard = false) (text : (p.store.record i).kind = .text) {g : Glyph}
    (first : (p.store.record i).glyphs[0]? = some g) (turning : p.imager.disc ≠ .stopped)
    {z : Film} {events : List Event} {clamped : Bool}
    (answer : p.film.ask (.move (p.store.record i).filmMove (p.store.record i).columnMark) =
      ⟨z, events, clamped, none⟩) :
    p.takeLine.film = z ∧ p.takeLine.store = p.store.takes i rest ((p.store.record i).clampFlagged clamped) ∧
      p.takeLine.log = p.log ∧
      (g.disc = p.imager.mounted → p.takeLine.imager.state = .setting ∧
        p.takeLine.imager.line = some { Progress.fresh i with positioning := true } ∧
        p.takeLine.imager.ring = g.ring ∧
        (p.imager.carriageMove = none → p.imager.carriage ≠ some g.x →
          p.takeLine.imager.carriageMove = some g.x)) ∧
      (g.disc ≠ p.imager.mounted → p.takeLine.imager.state = .mountWait ∧
        p.takeLine.imager.line = some (.fresh i) ∧ p.takeLine.reply.pending.getLsbD 10 = true) := by
  let flagged := (p.store.record i).clampFlagged clamped
  let x : Imager := { p.imager with line := some (.fresh i), state := .setting }
  have glyphs : (p.store.record i).glyphs ≠ [] := by
    rintro empty
    simp [empty] at first
  have same : flagged.glyphs[0]? = some g :=
    (congrArg (fun items => (glyphsOf items)[0]?) (LineRecord.clampFlagged_items _ _)).trans first
  rw [Photo.takeLine_turning ready can kept ⟨text, glyphs⟩ turning, Photo.runFilm_takes (x := x) small rfl answer,
    Photo.pursueSetting_takes_film (x := x) small rfl rfl rfl rfl same]
  by_cases mounted : g.disc = p.imager.mounted
  · obtain ⟨settling, step, move, positioned, sent⟩ := x.position_frame g
    rw [if_pos (show g.disc = x.mounted from mounted), positioned]
    exact ⟨rfl, rfl, rfl, fun _ => ⟨rfl, rfl, rfl, sent⟩, fun other => absurd mounted other⟩
  · rw [if_neg (show ¬g.disc = x.mounted from mounted)]
    refine ⟨rfl, rfl, rfl, fun there => absurd there mounted, fun _ => ⟨rfl, rfl, ?_⟩⟩
    refine (congrArg (BitVec.getLsbD · 10) (ReplyUnit.mount_pending ..)).trans ?_
    refine (BitVec.getLsbD_or ..).trans ?_
    exact (congrArg (Bool.or _) (show Event.mountRequest.bit.getLsbD 10 = true from rfl)).trans (Bool.or_true _)

end Take

/-- The events of a clamp, as bits (R152). -/
theorem clampPosts_note (clamped : Bool) :
    (clampPosts clamped).foldl postTo 0 = if clamped then (0x20000 : Word24) else 0 := by
  cases clamped <;> rfl

theorem clampPosts_filmOut (clamped : Bool) :
    (clampPosts clamped ++ [Event.filmOut]).foldl postTo 0 =
      (if clamped then (0x20000 : Word24) else 0) ||| 0x8000 := by
  cases clamped <;> rfl

/-- A CUT record in hand, with film in READY, drives the carriage to 0 and then asks for its cut (R144, R156). -/
theorem cutGoesOn_of_shows {s t : State} {busy : Bool} {i : Nat} (small : i < 8) {rest : List Nat} {r : LineRecord}
    {z : Film} {note : Word24} {x : Imager} {pr : Progress} (state : x.state = .setting) (slot : pr.slot = i)
    (done : pr.cutDone = false) (asked : pr.cutAsked = false) (at' : z.transport = .ready)
    (shows : t.Shows ((s.photo busy).takes i rest r z note
      { x with line := some { pr with phase := .cut } }).pursueSetting) :
    t.store = s.store.takes i rest r ∧ CutGoesOn s x pr z note t := by
  let cutting : Progress := { pr with phase := .cut }
  let w : Imager := { x with line := some cutting }
  rw [Photo.pursueSetting_takes_cut (x := w) (pr := cutting) state rfl rfl] at shows
  by_cases home : x.carriageAt 0 = true
  · have there : x.carriageMove = none ∧ x.carriage = some 0 := (x.carriageAt_iff 0).mp home
    by_cases enough : z.f + 480 ≤ z.l
    · rw [Photo.pursueCut_takes_home (x := w) (pr := cutting) small slot done asked home
        (Film.ask_cut_of_enough at' enough)] at shows
      obtain ⟨store, imager, film, -, -, pending⟩ := shows
      refine ⟨store, fun away => absurd there away, fun _ _ _ => ⟨imager, pending, film⟩,
        fun _ _ short => absurd short (by omega), ?_, ?_, ?_⟩ <;> simp [at']
    · have short : z.l < z.f + 480 := Nat.lt_of_not_le enough
      rw [Photo.pursueCut_takes_home (x := w) (pr := cutting) small slot done asked home
        (Film.ask_cut_of_short at' short)] at shows
      obtain ⟨store, imager, film, -, -, pending⟩ := shows
      have posted : t.reply.pending = s.reply.pending ||| note ||| 0x8000 :=
        pending.trans (BitVec.or_assoc ..).symm
      refine ⟨store, fun away => absurd there away, fun _ _ e => absurd e enough,
        fun _ _ _ => ⟨imager, posted, film⟩, ?_, ?_, ?_⟩ <;> simp [at']
  · have away : x.carriageAt 0 = false := Bool.eq_false_of_not_eq_true home
    have notHome : ¬(x.carriageMove = none ∧ x.carriage = some 0) := fun there =>
      home ((x.carriageAt_iff 0).mpr there)
    rw [Photo.pursueCut_takes_away (x := w) (pr := cutting) done asked away] at shows
    obtain ⟨store, imager, film, -, -, pending⟩ := shows
    exact ⟨store, fun _ => ⟨film, pending, imager⟩, fun there => absurd there notHome,
      fun there => absurd there notHome, fun there => absurd there notHome, fun there => absurd there notHome,
      fun there => absurd there notHome⟩

/-- Settles O43: the head record is marked for discard, a STOP record, or one whose film move is asked for; Film
Transport's answer decides how the line goes on. -/
theorem imagerTakesTheHeadOfTheReadyList : Obligations.ImagerTakesTheHeadOfTheReadyList := by
  unfold Obligations.ImagerTakesTheHeadOfTheReadyList
  refine ⟨fun busy s law not => ?_, fun busy s i rest law filmLaw ready small state none _ => ?_⟩
  · exact congrArg Host.Outcome.next (onPhoto_idle law (Photo.takeLine_of_not_due not))
  intro r x y logged fresh imaging floor low clamped target flagged note request needsDisc waits
  have can : (s.photo busy).canTakeLine = true := Photo.canTakeLine_of state none
  obtain ⟨-, behind, within, -⟩ := filmLaw
  have noted : (clampPosts clamped).foldl postTo 0 = note := clampPosts_note clamped
  refine ⟨fun discard => ?_, fun kept stop => ?_, fun kept kind fault => ?_, fun kept kind begun starts sets => ?_,
    fun kept text empty at' known there => ?_, fun kept cut at' known there => ?_,
    fun g kept text first turning at' known reached other => ?_⟩
  · obtain ⟨st, reply, free, left, resolved⟩ := Photo.takeLine_discarded small ready can discard
    refine execTakeLine_shows resolved fun t shows => ?_
    exact ⟨shows.store ▸ free, shows.store ▸ left, shows.log, shows.film, shows.imager, shows.proof⟩
  · obtain ⟨st, reply, free, left, resolved⟩ := Photo.takeLine_stopped small ready can kept stop
    refine execTakeLine_shows resolved fun t shows => ?_
    exact ⟨shows.store ▸ free, shows.store ▸ left, shows.log, shows.film, shows.proof, shows.imager⟩
  · obtain ⟨halted, gone, posted, log⟩ := Photo.takeLine_halts small ready can kept kind fault
    exact execTakeLine_shows rfl fun t shows =>
      ⟨shows.imager ▸ halted, shows.imager ▸ gone, shows.pending ▸ posted, shows.log.trans log⟩
  · have line : begun.line = some (.fresh i) := by
      by_cases needs : needsDisc
      · rw [(starts needs).2]; rfl
      · rw [sets needs]; rfl
    have begins := Photo.takeLine_begins ready can kept kind starts sets
    have takes {z : Film} {events : List Event} {c : Bool} (answer : y.ask request = ⟨z, events, c, Option.none⟩) :=
      execTakeLine_takes law (begins.trans (Photo.runFilm_takes small line answer))
    refine ⟨fun at' known reached other => ?_, fun at' known short => ?_, fun at' known there needs => ?_,
      fun out => takes (Film.ask_of_out out request), fun motion => takes (Film.ask_of_motion motion request)⟩
    · rw [← noted]
      exact takes (Film.ask_of_moves at' known reached other)
    · exact (takes (Film.ask_of_short at' known short)).trans
        (congrArg (fun set => Host.Outcome.next (waits flagged _ set begun)) (clampPosts_filmOut clamped))
    · have answer := Film.ask_of_there at' known there behind within
      have done := Photo.runFilm_takes_done (p := s.photo busy) (rest := rest) (r := r) small line answer
      rw [LineRecord.phaseAfterFilm_of_needsDisc needs] at done
      rw [← noted]
      exact execTakeLine_takes law (begins.trans done)
  · have answer := Film.ask_of_there (v := r.filmMove) (mark := r.columnMark) at' known there behind within
    obtain ⟨imager, film, log⟩ := Photo.takeLine_empty_there small ready can kept text empty answer
    exact execTakeLine_shows rfl fun t shows => ⟨shows.imager.trans imager, shows.film.trans film, shows.log.trans log⟩
  · have answer := Film.ask_of_there (v := r.filmMove) (mark := r.columnMark) at' known there behind within
    have goesOn := Photo.takeLine_bare_there small ready can kept (.inl cut)
      (LineRecord.phaseAfterFilm_of_cut cut) nofun answer
    rw [← noted]
    exact execTakeLine_shows goesOn fun t shows =>
      cutGoesOn_of_shows (x := { x with state := .setting, line := some fresh, filmTag := y.f }) (pr := fresh) small
        rfl rfl rfl rfl at' shows
  · have answer := Film.ask_of_moves (v := r.filmMove) (mark := r.columnMark) at' known reached other
    obtain ⟨film, store, log, mounted, waiting⟩ :=
      Photo.takeLine_positions small ready can kept text first turning answer
    refine execTakeLine_shows rfl fun t shows =>
      ⟨shows.film.trans film, shows.store.trans store, shows.log.trans log, ?_, ?_⟩
    · rw [shows.imager]; exact mounted
    · rw [shows.imager, shows.pending]; exact waiting

end Sys2Proof.Machine
end

section
/-! PROOFS. The Imager over every operation of the photo unit's side (`ImagerLaw`, `LampLaw`, and the confirm window):
what a line's operations leave of the lamp's side of the Imager, and which states an operation can leave it in. -/

namespace Sys2Proof.Machine

open Sys2Proof Sys2Proof.Safety

/-! ### The laws on the Imager alone -/

/-- `ImagerLaw` on the Imager and the level of the cover switch. -/
structure Imager.Lawful (x : Imager) (cover : Bool) : Prop where
  resting : x.state = .homing ∨ x.state = .standby ∨ x.state = .halted → x.disc = .stopped ∧ x.line = none
  idle : x.state = .idle → x.disc ≠ .stopped ∧ x.line = none
  lined : x.state = .spinUp ∨ x.state = .setting ∨ x.state = .mountWait → x.line.isSome = true
  awayResting : x.state = .suspended → x.returnState = some .homing ∨ x.returnState = some .standby →
    x.disc = .stopped ∧ x.line = none
  awayIdle : x.state = .suspended → x.returnState = some .idle → x.disc ≠ .stopped ∧ x.line = none
  awayLined : x.state = .suspended →
    x.returnState = some .spinUp ∨ x.returnState = some .setting ∨ x.returnState = some .mountWait →
    x.line.isSome = true
  still : x.disc = .stopped → x.history = [] ∧ x.stamp = 0
  returns : x.returnState ≠ none → x.state = .suspended
  rechecks : x.recheck = true → x.state = .suspended ∧ cover = false
  cancels : x.cancelled ≠ [] → x.state = .halted

theorem imagerLaw_iff (s : State) : ImagerLaw s ↔ s.imager.Lawful s.pins.coverOpen := by
  constructor
  · rintro ⟨resting, idle, lined, awayResting, awayIdle, awayLined, still, returns, rechecks, cancels⟩
    exact ⟨resting, idle, lined, awayResting, awayIdle, awayLined, still, returns, rechecks, cancels⟩
  · rintro ⟨resting, idle, lined, awayResting, awayIdle, awayLined, still, returns, rechecks, cancels⟩
    exact ⟨resting, idle, lined, awayResting, awayIdle, awayLined, still, returns, rechecks, cancels⟩

/-- Neither SUSPENDED nor HALTED: no return state, no recheck, no cancelled timer. -/
structure Imager.Plain (x : Imager) : Prop where
  still : x.disc = .stopped → x.history = [] ∧ x.stamp = 0
  returns : x.returnState = none
  rechecks : x.recheck = false
  cancels : x.cancelled = []

section Imager

variable {x y : Imager} {cover : Bool}

theorem Imager.Lawful.plain (h : x.Lawful cover) (going : x.state ≠ .suspended) (whole : x.state ≠ .halted) :
    x.Plain :=
  ⟨h.still, by_contra fun away => going (h.returns away),
    Bool.eq_false_iff.mpr fun checks => going (h.rechecks checks).1, by_contra fun lost => whole (h.cancels lost)⟩

/-- Outside SUSPENDED and HALTED the law asks for the disc and the line alone. -/
theorem Imager.Plain.lawful (h : x.Plain)
    (resting : x.state = .homing ∨ x.state = .standby ∨ x.state = .halted → x.disc = .stopped ∧ x.line = none)
    (idle : x.state = .idle → x.disc ≠ .stopped ∧ x.line = none)
    (lined : x.state = .spinUp ∨ x.state = .setting ∨ x.state = .mountWait → x.line.isSome = true) :
    x.Lawful cover := by
  obtain ⟨still, returns, rechecks, cancels⟩ := h
  refine ⟨resting, idle, lined, ?_, ?_, ?_, still, fun away => absurd returns away, ?_, fun lost => absurd cancels lost⟩
  all_goals simp [returns, rechecks]

/-- A line in hand, in one of the states that have one. -/
theorem Imager.Plain.lawful_lined (h : x.Plain) (state : x.state = .spinUp ∨ x.state = .setting ∨ x.state = .mountWait)
    (line : x.line.isSome = true) : x.Lawful cover :=
  h.lawful (fun resting => by rcases state with e | e | e <;> simp [e] at resting)
    (fun idle => by rcases state with e | e | e <;> simp [e] at idle) fun _ => line

/-- The part of the Imager that the law speaks of. -/
def Imager.lawSide (x : Imager) :
    ImagerState × Option ImagerState × DiscState × Bool × List Nat × Nat × Bool × List ImagerTimer :=
  (x.state, x.returnState, x.disc, x.line.isSome, x.history, x.stamp, x.recheck, x.cancelled)

theorem Imager.Lawful.congr (h : x.Lawful cover) (same : y.lawSide = x.lawSide) : y.Lawful cover := by
  simp only [Imager.lawSide, Prod.mk.injEq] at same
  obtain ⟨state, returnState, disc, line, history, stamp, recheck, cancelled⟩ := same
  have none (e : x.line = none) : y.line = none := by simpa [e] using line
  obtain ⟨resting, idle, lined, awayResting, awayIdle, awayLined, still, returns, rechecks, cancels⟩ := h
  constructor <;> simp only [state, returnState, disc, line, history, stamp, recheck, cancelled]
  · exact fun e => (resting e).imp_right none
  · exact fun e => (idle e).imp_right none
  · exact lined
  · exact fun e r => (awayResting e r).imp_right none
  · exact fun e r => (awayIdle e r).imp_right none
  · exact awayLined
  · exact still
  · exact returns
  · exact rechecks
  · exact cancels

theorem Imager.Plain.congr (h : x.Plain) (same : y.lawSide = x.lawSide) : y.Plain := by
  simp only [Imager.lawSide, Prod.mk.injEq] at same
  obtain ⟨-, returnState, disc, -, history, stamp, recheck, cancelled⟩ := same
  obtain ⟨still, returns, rechecks, cancels⟩ := h
  constructor <;> simp only [returnState, disc, history, stamp, recheck, cancelled]
  · exact still
  · exact returns
  · exact rechecks
  · exact cancels

theorem Imager.driveCarriage_lawSide (x : Imager) (target : Nat) : (x.driveCarriage target).lawSide = x.lawSide := by
  obtain ⟨move, driven⟩ := x.driveCarriage_frame target
  rw [driven]; rfl

theorem Imager.position_lawSide (x : Imager) (g : Glyph) : (x.position g).lawSide = x.lawSide := by
  obtain ⟨settling, step, move, positioned, -⟩ := x.position_frame g
  rw [positioned]; rfl

/-- HOMING that has ended is STANDBY, with the disc STOPPED as it was. -/
theorem Imager.Lawful.homed (h : x.Lawful cover) : x.homed.Lawful cover := by
  unfold Imager.homed
  split
  · next home =>
    have rests := h.resting (.inl home.1)
    have plain : x.Plain := h.plain (by simp [home.1]) (by simp [home.1])
    exact Imager.Plain.lawful ⟨plain.still, plain.returns, plain.rechecks, plain.cancels⟩ (fun _ => rests) nofun nofun
  · exact h

/-- `LampLaw` on the Imager. -/
structure Imager.LampFit (x : Imager) : Prop where
  windowLow : 4 ≤ x.window
  windowHigh : x.window ≤ 32
  mostLow : 1 ≤ x.most
  mostHigh : x.most ≤ 8
  pending : ∀ w m, x.pendingLamp = some (w, m) → 4 ≤ w ∧ w ≤ 32 ∧ 1 ≤ m ∧ m ≤ 8
  turret : ∀ k, x.turret = some k → k < 12
  mounted : x.mounted < 64

theorem lampLaw_iff (s : State) : LampLaw s ↔ s.imager.LampFit :=
  ⟨fun ⟨a, b, c, d, e, f, g⟩ => ⟨a, b, c, d, e, f, g⟩, fun ⟨a, b, c, d, e, f, g⟩ => ⟨a, b, c, d, e, f, g⟩⟩

/-- The lamp values, those pending, and the mounted disc. -/
def Imager.lampValues (x : Imager) : Nat × Nat × Option (Nat × Nat) × Nat :=
  (x.window, x.most, x.pendingLamp, x.mounted)

theorem Imager.LampFit.congr (h : x.LampFit) (values : y.lampValues = x.lampValues)
    (turret : ∀ k, y.turret = some k → k < 12) : y.LampFit := by
  simp only [Imager.lampValues, Prod.mk.injEq] at values
  obtain ⟨window, most, pending, mounted⟩ := values
  exact ⟨window ▸ h.windowLow, window ▸ h.windowHigh, most ▸ h.mostLow, most ▸ h.mostHigh, pending ▸ h.pending, turret,
    mounted ▸ h.mounted⟩

/-- A turret step ends at one of the twelve positions. -/
theorem turretNext_lt (position : Nat) (way : Direction) : turretNext position way < 12 := by
  cases way <;> exact Nat.mod_lt _ (by decide)

end Imager

/-! ### What an operation leaves of the lamp's side -/

/-- `q` comes of `p` by operations that leave the switches as they are, the lamp values and the turret in their ranges,
and that open no confirm window. -/
structure Photo.Lights (p q : Photo) : Prop where
  pins : q.pins = p.pins
  lamp : p.imager.LampFit → q.imager.LampFit
  window : q.imager.confirmWindow = true → p.imager.confirmWindow = true

theorem Photo.Lights.refl {p : Photo} : p.Lights p := ⟨rfl, id, id⟩

theorem Photo.Lights.trans {p q r : Photo} (hpq : p.Lights q) (hqr : q.Lights r) : p.Lights r :=
  ⟨hqr.pins.trans hpq.pins, hqr.lamp ∘ hpq.lamp, hpq.window ∘ hqr.window⟩

theorem Photo.Lights.after {p q r : Photo} (hqr : q.Lights r) (hpq : p.Lights q) : p.Lights r := hpq.trans hqr

/-- The Imager's lamp side: the values, the firings, the window and the turret (R138 to R140). -/
def Imager.lampSide (x : Imager) : (Nat × Nat × Option (Nat × Nat) × Nat) × List Nat × Nat × Bool × Option Nat :=
  (x.lampValues, x.history, x.stamp, x.confirmWindow, x.turret)

/-- `q` comes of `p` by operations that leave the switches and the lamp's side alone. -/
structure Photo.Calm (p q : Photo) : Prop where
  pins : q.pins = p.pins
  lampSide : q.imager.lampSide = p.imager.lampSide

theorem Photo.Calm.refl {p : Photo} : p.Calm p := ⟨rfl, rfl⟩

theorem Photo.Calm.trans {p q r : Photo} (hpq : p.Calm q) (hqr : q.Calm r) : p.Calm r :=
  ⟨hqr.pins.trans hpq.pins, hqr.lampSide.trans hpq.lampSide⟩

/-- `q` comes of `p` by operations that leave the lamp's side alone, or halt the Imager. -/
inductive Photo.GoesOn (p q : Photo) : Prop where
  | calm (same : p.Calm q)
  | halts (pins : q.pins = p.pins) (values : q.imager.lampValues = p.imager.lampValues)
    (turret : q.imager.turret = none) (window : q.imager.confirmWindow = false) (state : q.imager.state = .halted)

theorem Photo.GoesOn.refl {p : Photo} : p.GoesOn p := .calm .refl

/-- A calm operation, then one that may halt. -/
theorem Photo.Calm.goesOn {p q r : Photo} (hpq : p.Calm q) (hqr : q.GoesOn r) : p.GoesOn r := by
  have values : q.imager.lampValues = p.imager.lampValues := congrArg Prod.fst hpq.lampSide
  cases hqr with
  | calm same => exact .calm (hpq.trans same)
  | halts pins others turret window state =>
    exact .halts (pins.trans hpq.pins) (others.trans values) turret window state

theorem Photo.GoesOn.lights {p q : Photo} (h : p.GoesOn q) : p.Lights q := by
  cases h with
  | calm same =>
    obtain ⟨pins, side⟩ := same
    simp only [Imager.lampSide, Prod.mk.injEq] at side
    obtain ⟨values, -, -, window, turret⟩ := side
    exact ⟨pins, fun h => h.congr values (turret ▸ h.turret), window ▸ id⟩
  | halts pins values turret window state =>
    refine ⟨pins, fun h => h.congr values fun k at' => ?_, fun opened => ?_⟩
    · rw [turret] at at'; cases at'
    · rw [window] at opened; cases opened

theorem Photo.Calm.lights {p q : Photo} (h : p.Calm q) : p.Lights q := (Photo.GoesOn.calm h).lights

/-- An Imager that a fault has halted (R148, R149). -/
theorem Imager.halted_lawful {x : Imager} (line : x.line = none) (level : Bool) {cover : Bool} :
    (x.halted level).Lawful cover := by
  constructor <;> simp [Imager.halted, Imager.stopDisc, line]

section Photo

variable {p : Photo} {pr : Progress}

/-! ### Small writers -/

/-- A change of the Imager away from the lamp. -/
theorem Photo.withImager_calm {x : Imager} (side : x.lampSide = p.imager.lampSide) : p.Calm (p.withImager x) :=
  ⟨rfl, side⟩

theorem Photo.flagLine_calm (f : LineFlags → LineFlags) : p.Calm (p.flagLine f) := by
  obtain ⟨st, flagged⟩ := p.flagLine_frame f
  rw [flagged]; exact ⟨rfl, rfl⟩

theorem Photo.applyFilm_calm (y : FilmResult) : p.Calm (p.applyFilm y) := by
  obtain ⟨st, r, applied⟩ := p.applyFilm_frame y
  rw [applied]; exact ⟨rfl, rfl⟩

/-- An imaging end takes the line, and nothing else of the Imager. -/
theorem Photo.imagingEnd_calm (o : LineOutcome) (tag : Nat) : p.Calm (p.imagingEnd o tag) := by
  cases line : p.imager.line with
  | none => rw [Photo.imagingEnd_none p o tag line]; exact .refl
  | some pr =>
    obtain ⟨st, x, r, ended⟩ := p.imagingEnd_frame o tag pr line
    rw [ended]; exact ⟨rfl, rfl⟩

theorem Imager.driveCarriage_lampSide (x : Imager) (target : Nat) :
    (x.driveCarriage target).lampSide = x.lampSide := by
  obtain ⟨move, driven⟩ := x.driveCarriage_frame target
  rw [driven]; rfl

theorem Imager.position_lampSide (x : Imager) (g : Glyph) : (x.position g).lampSide = x.lampSide := by
  obtain ⟨settling, step, move, positioned, -⟩ := x.position_frame g
  rw [positioned]; rfl

theorem Imager.homed_lampSide (x : Imager) : x.homed.lampSide = x.lampSide := by
  unfold Imager.homed
  split <;> rfl

/-! ### Stopping (R129, R148) -/

theorem Photo.abandonLine_calm : p.Calm p.abandonLine := by
  unfold Photo.abandonLine
  split
  · exact Photo.Calm.trans (q := { p with film := p.film.abandon }) ⟨rfl, rfl⟩ (Photo.imagingEnd_calm _ _)
  · exact .refl

theorem Photo.abandonLine_line : p.abandonLine.imager.line = none := by
  unfold Photo.abandonLine
  split
  · simp
  · next none => simpa using none

theorem Photo.haltNow_goesOn : p.GoesOn p.haltNow := by
  unfold Photo.haltNow
  split
  · exact .refl
  · have abandoned := p.abandonLine_calm
    exact .halts abandoned.pins (congrArg Prod.fst abandoned.lampSide) rfl rfl rfl

theorem Photo.halt_goesOn (e : Event) : p.GoesOn (p.halt e) :=
  Photo.Calm.goesOn (p := p) (q := p.post e) ⟨rfl, rfl⟩ Photo.haltNow_goesOn

/-- A halted Imager has no line, no return state and no recheck; one that is halted already stays as it is. -/
theorem Photo.haltNow_lawful
    (already : p.imager.state = .halted → p.imager.Lawful p.pins.coverOpen) :
    p.haltNow.imager.Lawful p.pins.coverOpen := by
  unfold Photo.haltNow
  split
  · next halted => exact already halted
  · exact Imager.halted_lawful p.abandonLine_line _

/-! ### Motions and homing (R126, R135 to R137, R149) -/

/-- HOMING begun with no line in hand. -/
theorem Photo.beginHoming_lawful (detent : Bool) (line : p.imager.line = none) :
    (p.beginHoming detent).imager.Lawful p.pins.coverOpen := by
  unfold Photo.beginHoming
  extract_lets _ still driven placed
  have drives : driven.lawSide = still.lawSide := Imager.driveCarriage_lawSide still 0
  have places : placed.lawSide = driven.lawSide := by
    unfold placed
    split
    · rfl
    · split <;> rfl
  have rests : still.Plain := ⟨fun _ => ⟨rfl, rfl⟩, rfl, rfl, rfl⟩
  have begun : still.Lawful p.pins.coverOpen := rests.lawful (fun _ => ⟨rfl, line⟩) nofun fun lined =>
    by rcases lined with e | e | e <;> exact nomatch e
  exact (begun.congr (places.trans drives)).homed

theorem Photo.beginHoming_lights (detent : Bool) : p.Lights (p.beginHoming detent) := by
  unfold Photo.beginHoming
  extract_lets _ still driven placed
  have drives : driven.lampSide = still.lampSide := Imager.driveCarriage_lampSide still 0
  have values : placed.lampValues = p.imager.lampValues ∧ placed.confirmWindow = p.imager.confirmWindow := by
    simp only [Imager.lampSide, Prod.mk.injEq] at drives
    obtain ⟨values, -, -, window, -⟩ := drives
    unfold placed
    split
    · exact ⟨values, window⟩
    · split <;> exact ⟨values, window⟩
  have turret : ∀ k, placed.turret = some k → k < 12 := by
    unfold placed
    split
    · nofun
    · split
      · rintro k ⟨⟩; decide
      · nofun
  have homed := placed.homed_lampSide
  simp only [Imager.lampSide, Prod.mk.injEq] at homed
  obtain ⟨same, -, -, window, stands⟩ := homed
  refine ⟨rfl, fun h => h.congr (same.trans values.1) (stands ▸ turret), fun opened => ?_⟩
  exact values.2 ▸ window ▸ opened

/-! ### A line in hand (R131 to R144) -/

/-- In SETTING the Imager has a line in hand, and is neither SUSPENDED nor HALTED. -/
theorem Imager.Lawful.setting {x : Imager} {cover : Bool} (h : x.Lawful cover) (state : x.state = .setting) :
    x.Plain ∧ x.line.isSome = true :=
  ⟨h.plain (by simp [state]) (by simp [state]), h.lined (.inr (.inl state))⟩

theorem Photo.completeLine_calm : p.Calm p.completeLine :=
  (Photo.imagingEnd_calm _ _).trans ⟨rfl, rfl⟩

/-- A line completed leaves IDLE, or STANDBY with the disc STOPPED. -/
theorem Photo.completeLine_lawful (h : p.imager.Plain) : p.completeLine.imager.Lawful p.pins.coverOpen := by
  obtain ⟨still, returns, rechecks, cancels⟩ := h
  have ended : p.completeLine.imager =
      { p.imager with line := none, state := if p.imager.disc = .stopped then .standby else .idle } := by
    simp [Photo.completeLine]
  rw [ended]
  by_cases stopped : p.imager.disc = .stopped
  · rw [if_pos stopped]
    exact Imager.Plain.lawful ⟨still, returns, rechecks, cancels⟩ (fun _ => ⟨stopped, rfl⟩) nofun nofun
  · rw [if_neg stopped]
    exact Imager.Plain.lawful ⟨still, returns, rechecks, cancels⟩ nofun (fun _ => ⟨stopped, rfl⟩) nofun

theorem Photo.goHome_calm (pr : Progress) : p.Calm (p.goHome pr) := by
  unfold Photo.goHome
  split
  · exact Photo.completeLine_calm
  · exact Photo.withImager_calm (Imager.driveCarriage_lampSide _ 0)

theorem Photo.goHome_lawful (h : p.imager.Lawful p.pins.coverOpen) (state : p.imager.state = .setting)
    (pr : Progress) : (p.goHome pr).imager.Lawful p.pins.coverOpen := by
  unfold Photo.goHome
  split
  · exact Photo.completeLine_lawful (h.setting state).1
  · exact h.congr (Imager.driveCarriage_lawSide _ 0)

theorem Photo.pursueCut_goesOn (pr : Progress) : p.GoesOn (p.pursueCut pr) := by
  unfold Photo.pursueCut
  split
  · exact .calm Photo.completeLine_calm
  · split
    · exact .refl
    · split
      · extract_lets y q
        have asked : p.Calm q := Photo.Calm.trans (q := p.withLine { pr with cutAsked := true }) ⟨rfl, rfl⟩
          (Photo.applyFilm_calm y)
        split
        · exact asked.goesOn Photo.haltNow_goesOn
        · exact .calm asked
      · exact .calm (Photo.withImager_calm (Imager.driveCarriage_lampSide _ 0))

theorem Photo.pursueCut_lawful (h : p.imager.Lawful p.pins.coverOpen) (state : p.imager.state = .setting)
    (line : p.imager.line = some pr) : (p.pursueCut pr).imager.Lawful p.pins.coverOpen := by
  unfold Photo.pursueCut
  split
  · exact Photo.completeLine_lawful (h.setting state).1
  · split
    · exact h
    · split
      · extract_lets y q
        have asked : p.Calm q := Photo.Calm.trans (q := p.withLine { pr with cutAsked := true }) ⟨rfl, rfl⟩
          (Photo.applyFilm_calm y)
        have lawful : q.imager.Lawful q.pins.coverOpen := by
          rw [asked.pins]
          exact h.congr (by simp [q, Imager.lawSide, line])
        split
        · rw [← asked.pins]; exact Photo.haltNow_lawful fun _ => lawful
        · rw [← asked.pins]; exact lawful
      · exact h.congr (Imager.driveCarriage_lawSide _ 0)

theorem Photo.startGlyph_calm (pr : Progress) : p.Calm (p.startGlyph pr) := by
  unfold Photo.startGlyph
  split
  · exact .refl
  · next g _ =>
    split
    · refine ⟨rfl, Eq.trans ?_ (Imager.position_lampSide p.imager g)⟩
      rfl
    · exact ⟨rfl, rfl⟩

theorem Photo.startGlyph_lawful (h : p.imager.Lawful p.pins.coverOpen) (state : p.imager.state = .setting)
    (line : p.imager.line = some pr) : (p.startGlyph pr).imager.Lawful p.pins.coverOpen := by
  obtain ⟨⟨still, returns, rechecks, cancels⟩, -⟩ := h.setting state
  unfold Photo.startGlyph
  split
  · exact h
  · next g _ =>
    split
    · have positioned := h.congr (Imager.position_lawSide p.imager g)
      exact positioned.congr (by simp [Imager.lawSide, line])
    · exact Imager.Plain.lawful_lined ⟨still, returns, rechecks, cancels⟩ (.inr (.inr rfl)) rfl

theorem Photo.pursue_goesOn : p.GoesOn p.pursue := by
  unfold Photo.pursue
  split
  · exact .refl
  · next pr _ =>
    split
    · exact .calm (Photo.startGlyph_calm pr)
    · exact .calm (Photo.startGlyph_calm pr)
    · exact .calm (Photo.goHome_calm pr)
    · exact Photo.pursueCut_goesOn pr

theorem Photo.pursue_lawful (h : p.imager.Lawful p.pins.coverOpen) (state : p.imager.state = .setting) :
    p.pursue.imager.Lawful p.pins.coverOpen := by
  unfold Photo.pursue
  split
  · exact h
  · next pr line =>
    split
    · exact Photo.startGlyph_lawful h state line
    · exact Photo.startGlyph_lawful h state line
    · exact Photo.goHome_lawful h state pr
    · exact Photo.pursueCut_lawful h state line

theorem Photo.pursueSetting_goesOn : p.GoesOn p.pursueSetting := by
  unfold Photo.pursueSetting
  split
  · exact Photo.pursue_goesOn
  · exact .refl

theorem Photo.pursueSetting_lawful (h : p.imager.Lawful p.pins.coverOpen) :
    p.pursueSetting.imager.Lawful p.pins.coverOpen := by
  unfold Photo.pursueSetting
  split
  · next state => exact Photo.pursue_lawful h state
  · exact h

theorem Photo.nextGlyph_goesOn (pr : Progress) : p.GoesOn (p.nextGlyph pr) := by
  unfold Photo.nextGlyph
  extract_lets next after
  exact Photo.Calm.goesOn (p := p) (q := p.withLine after) ⟨rfl, rfl⟩ Photo.pursueSetting_goesOn

/-- The progress of a line in hand written again. -/
theorem Imager.Lawful.withLine {x : Imager} {cover : Bool} (h : x.Lawful cover) (line : x.line.isSome = true)
    (pr : Progress) : Imager.Lawful { x with line := some pr } cover :=
  h.congr (by simp [Imager.lawSide, line])

theorem Photo.nextGlyph_lawful (h : p.imager.Lawful p.pins.coverOpen) (line : p.imager.line.isSome = true)
    (pr : Progress) : (p.nextGlyph pr).imager.Lawful p.pins.coverOpen := by
  unfold Photo.nextGlyph
  exact Photo.pursueSetting_lawful (h.withLine line _)

/-! ### Reports of Film Transport (R132, R144, R148) -/

theorem Photo.filmDone_goesOn (tag : Nat) : p.GoesOn (p.filmDone tag) := by
  unfold Photo.filmDone
  extract_lets _ q
  have tagged : p.Calm q := ⟨rfl, rfl⟩
  split
  · exact .calm tagged
  · next pr _ =>
    extract_lets phase r
    have lined : p.Calm r := tagged.trans ⟨rfl, rfl⟩
    split
    · exact .calm lined
    · exact lined.goesOn Photo.pursueSetting_goesOn

theorem Photo.filmDone_lawful (h : p.imager.Lawful p.pins.coverOpen) (tag : Nat) :
    (p.filmDone tag).imager.Lawful p.pins.coverOpen := by
  unfold Photo.filmDone
  extract_lets _ q
  have tagged : q.imager.Lawful p.pins.coverOpen := h.congr rfl
  split
  · exact tagged
  · next pr line =>
    extract_lets phase r
    have lined : r.imager.Lawful p.pins.coverOpen := tagged.withLine (by simp [line]) _
    split
    · exact lined
    · exact Photo.pursueSetting_lawful (p := r) lined

theorem Photo.cutEnds_goesOn : p.GoesOn p.cutEnds := by
  unfold Photo.cutEnds
  split
  · exact .refl
  · next pr _ =>
    exact Photo.Calm.goesOn (p := p) (q := p.withLine { pr with cutDone := true }) ⟨rfl, rfl⟩
      Photo.pursueSetting_goesOn

theorem Photo.cutEnds_lawful (h : p.imager.Lawful p.pins.coverOpen) : p.cutEnds.imager.Lawful p.pins.coverOpen := by
  unfold Photo.cutEnds
  split
  · exact h
  · next pr line =>
    exact Photo.pursueSetting_lawful (p := p.withLine { pr with cutDone := true }) (h.withLine (by simp [line]) _)

theorem Photo.takeReport_goesOn (r : Report) : p.GoesOn (p.takeReport r) := by
  cases r with
  | moveDone tag => exact Photo.filmDone_goesOn tag
  | cutDone => exact Photo.cutEnds_goesOn
  | filmFault => exact Photo.haltNow_goesOn

theorem Photo.takeReport_lawful (h : p.imager.Lawful p.pins.coverOpen) (r : Report) :
    (p.takeReport r).imager.Lawful p.pins.coverOpen := by
  cases r with
  | moveDone tag => exact Photo.filmDone_lawful h tag
  | cutDone => exact Photo.cutEnds_lawful h
  | filmFault => exact Photo.haltNow_lawful fun _ => h

theorem Photo.runFilm_goesOn (y : FilmResult) : p.GoesOn (p.runFilm y) := by
  unfold Photo.runFilm
  split
  · exact .calm (Photo.applyFilm_calm y)
  · exact (Photo.applyFilm_calm y).goesOn (Photo.takeReport_goesOn _)

theorem Photo.runFilm_lawful (h : p.imager.Lawful p.pins.coverOpen) (y : FilmResult) :
    (p.runFilm y).imager.Lawful p.pins.coverOpen := by
  have applied := p.applyFilm_calm y
  have lawful : (p.applyFilm y).imager.Lawful (p.applyFilm y).pins.coverOpen := by
    rw [applied.pins, Photo.applyFilm_imager]; exact h
  unfold Photo.runFilm
  split
  · rw [← applied.pins]; exact lawful
  · rw [← applied.pins]; exact Photo.takeReport_lawful lawful _

/-! ### Taking a line (R130) -/

theorem Photo.endAtOnce_calm (o : LineOutcome) : p.Calm (p.endAtOnce o) :=
  Photo.Calm.trans (q := p.withImager { p.imager with filmTag := p.film.f }) ⟨rfl, rfl⟩ (Photo.imagingEnd_calm _ _)

theorem Photo.endAtOnce_imager (p : Photo) (o : LineOutcome) :
    (p.endAtOnce o).imager = { p.imager with filmTag := p.film.f, line := none } := by
  simp [Photo.endAtOnce]

theorem Photo.takeText_lights (r : LineRecord) : p.Lights (p.takeText r) := by
  unfold Photo.takeText
  dsimp only
  split
  · exact (Photo.runFilm_goesOn _).lights.after
      (Photo.Calm.lights (q := p.withImager { p.imager.startDisc with state := .spinUp }) ⟨rfl, rfl⟩)
  · exact Photo.pursueSetting_goesOn.lights.after
      (Photo.Calm.goesOn (p := p) (q := p.enter .setting) ⟨rfl, rfl⟩ (Photo.runFilm_goesOn _)).lights

theorem Photo.takeText_lawful (h : p.imager.Plain) (line : p.imager.line.isSome = true) (r : LineRecord) :
    (p.takeText r).imager.Lawful p.pins.coverOpen := by
  obtain ⟨still, returns, rechecks, cancels⟩ := h
  unfold Photo.takeText
  extract_lets ask
  split
  · refine Photo.runFilm_lawful (p := p.withImager { p.imager.startDisc with state := .spinUp }) ?_ ask
    exact Imager.Plain.lawful_lined ⟨nofun, returns, rechecks, cancels⟩ (.inl rfl) line
  · have set : (p.enter .setting).imager.Lawful p.pins.coverOpen :=
      Imager.Plain.lawful_lined ⟨still, returns, rechecks, cancels⟩ (.inr (.inl rfl)) line
    have asked := Photo.runFilm_lawful (p := p.enter .setting) set ask
    have pins : ((p.enter .setting).runFilm ask).pins = p.pins := (Photo.runFilm_goesOn ask).lights.pins
    rw [← pins]
    exact Photo.pursueSetting_lawful (by rw [pins]; exact asked)

theorem Photo.takeBare_lights (r : LineRecord) : p.Lights (p.takeBare r) :=
  (Photo.Calm.goesOn (p := p) (q := p.enter .setting) ⟨rfl, rfl⟩ (Photo.runFilm_goesOn _)).lights

theorem Photo.takeBare_lawful (h : p.imager.Plain) (line : p.imager.line.isSome = true) (r : LineRecord) :
    (p.takeBare r).imager.Lawful p.pins.coverOpen := by
  obtain ⟨still, returns, rechecks, cancels⟩ := h
  exact Photo.runFilm_lawful (p := p.enter .setting)
    (Imager.Plain.lawful_lined ⟨still, returns, rechecks, cancels⟩ (.inr (.inl rfl)) line) _

theorem Photo.takeStop_lights : p.Lights p.takeStop := by
  have stopped : p.Lights (p.withImager p.imager.stopDisc) := ⟨rfl, fun h => h.congr rfl h.turret, id⟩
  have ended : (p.withImager p.imager.stopDisc).Calm p.takeStop :=
    (Photo.endAtOnce_calm .set).trans ⟨rfl, rfl⟩
  exact stopped.trans ended.lights

theorem Photo.takeStop_lawful (h : p.imager.Plain) : p.takeStop.imager.Lawful p.pins.coverOpen := by
  have ended : p.takeStop.imager =
      { p.imager.stopDisc with filmTag := p.film.f, line := none, state := .standby } := by
    simp [Photo.takeStop, Photo.endAtOnce_imager]
  rw [ended]
  exact Imager.Plain.lawful ⟨fun _ => ⟨rfl, rfl⟩, h.returns, rfl, h.cancels⟩ (fun _ => ⟨rfl, rfl⟩) nofun nofun

theorem Photo.takeSlot_lights (i : Nat) : p.Lights (p.takeSlot i) := by
  unfold Photo.takeSlot
  extract_lets r _ q u
  have taken : p.Lights u := Photo.Calm.lights ⟨rfl, rfl⟩
  refine taken.trans ?_
  split
  · exact (Photo.endAtOnce_calm .discarded).lights
  · split
    · exact Photo.takeStop_lights
    · exact Photo.takeBare_lights _
    · split
      · exact Photo.takeBare_lights _
      · exact Photo.takeText_lights _

theorem Photo.takeSlot_lawful (h : p.imager.Lawful p.pins.coverOpen)
    (state : p.imager.state = .standby ∨ p.imager.state = .idle) (i : Nat) :
    (p.takeSlot i).imager.Lawful p.pins.coverOpen := by
  have plain : p.imager.Plain := by
    rcases state with e | e <;> exact h.plain (by simp [e]) (by simp [e])
  have none : p.imager.line = none := by
    rcases state with e | e
    · exact (h.resting (.inr (.inl e))).2
    · exact (h.idle e).2
  unfold Photo.takeSlot
  extract_lets r _ q u
  have begun : u.imager.Plain := ⟨plain.still, plain.returns, plain.rechecks, plain.cancels⟩
  split
  · rw [Photo.endAtOnce_imager]
    exact h.congr (by simp [u, q, Imager.lawSide, none])
  · split
    · exact Photo.takeStop_lawful begun
    · exact Photo.takeBare_lawful begun rfl _
    · split
      · exact Photo.takeBare_lawful begun rfl _
      · exact Photo.takeText_lawful begun rfl _

theorem Photo.takeLine_lights : p.Lights p.takeLine := by
  unfold Photo.takeLine
  split
  · exact .refl
  · split
    · exact Photo.takeSlot_lights _
    · exact .refl

theorem Photo.takeLine_lawful (h : p.imager.Lawful p.pins.coverOpen) :
    p.takeLine.imager.Lawful p.pins.coverOpen := by
  unfold Photo.takeLine
  split
  · exact h
  · split
    · next can =>
      simp only [Photo.canTakeLine, Bool.and_eq_true, Bool.or_eq_true, beq_iff_eq] at can
      exact Photo.takeSlot_lawful h can.1 _
    · exact h

end Photo

end Sys2Proof.Machine
end

section
/-! PROOFS. The Imager over its events: what each leaves of the laws of the Imager and the lamp, and that a firing keeps
within the budget. -/

namespace Sys2Proof.Machine

open Sys2Proof Sys2Proof.Safety

section Photo

variable {p : Photo} {pr : Progress}

/-! ### Timers (R148) -/

theorem Imager.Lawful.cancelled_of_whole {x : Imager} {cover : Bool} (h : x.Lawful cover)
    (whole : x.state ≠ .halted) : x.cancelled = [] :=
  by_contra fun lost => whole (h.cancels lost)

theorem Photo.halt_lawful (h : p.imager.Lawful p.pins.coverOpen) (e : Event) :
    (p.halt e).imager.Lawful p.pins.coverOpen :=
  Photo.haltNow_lawful (p := p.post e) fun _ => h

/-- A cancelled timer spent: those that are left are kept in HALTED alone. -/
theorem Photo.spend_lawful {cover : Bool} (h : p.imager.Lawful cover) (timer : ImagerTimer) :
    (p.spend timer).imager.Lawful cover :=
  ⟨h.resting, h.idle, h.lined, h.awayResting, h.awayIdle, h.awayLined, h.still, h.returns, h.rechecks, fun left =>
    h.cancels fun none => left (by simp [Photo.spend, none])⟩

theorem Photo.spend_calm (timer : ImagerTimer) : p.Calm (p.spend timer) := ⟨rfl, rfl⟩

theorem Photo.expire_lights (timer : ImagerTimer) (e : Event) : p.Lights (p.expire timer e) := by
  have posted : p.Calm (p.post e) := ⟨rfl, rfl⟩
  rcases Photo.expire_cases p timer e with ⟨-, runs⟩ | ⟨-, -, -, spent⟩ | ⟨-, -, idle⟩
  · rw [runs]; exact (Photo.halt_goesOn e).lights.trans (Photo.spend_calm timer).lights
  · rw [spent]; exact (posted.trans (Photo.spend_calm timer)).lights
  · rw [idle]; exact .refl

theorem Photo.expire_lawful (h : p.imager.Lawful p.pins.coverOpen) (timer : ImagerTimer) (e : Event) :
    (p.expire timer e).imager.Lawful p.pins.coverOpen := by
  rcases Photo.expire_cases p timer e with ⟨-, runs⟩ | ⟨-, -, -, spent⟩ | ⟨-, -, idle⟩
  · rw [runs]; exact Photo.spend_lawful (Photo.halt_lawful h e) timer
  · rw [spent]; exact Photo.spend_lawful (p := p.post e) h timer
  · rw [idle]; exact h

/-! ### Completed motions (R126, R136, R137) -/

theorem Photo.carriageArrives_lights : p.Lights p.carriageArrives := by
  unfold Photo.carriageArrives
  split
  · exact .refl
  · extract_lets _ q
    have stands : p.Calm q := ⟨rfl, rfl⟩
    split
    · exact (stands.trans (Photo.withImager_calm (Imager.homed_lampSide _))).lights
    · split
      · exact stands.lights
      · split
        · exact (stands.goesOn Photo.pursue_goesOn).lights
        · exact stands.lights

theorem Photo.carriageArrives_lawful (h : p.imager.Lawful p.pins.coverOpen) :
    p.carriageArrives.imager.Lawful p.pins.coverOpen := by
  unfold Photo.carriageArrives
  split
  · exact h
  · extract_lets _ q
    have stands : q.imager.Lawful q.pins.coverOpen := h.congr rfl
    split
    · exact stands.homed
    · split
      · exact stands
      · split
        · next due => exact Photo.pursue_lawful stands due.1
        · exact stands

theorem Photo.homingStep_lights (detent : Bool) : p.Lights (p.homingStep detent) := by
  unfold Photo.homingStep
  extract_lets _ x
  have stepped : p.Calm (p.withImager x) := ⟨rfl, rfl⟩
  split
  · have side := Imager.homed_lampSide { x with turret := some 0 }
    simp only [Imager.lampSide, Prod.mk.injEq] at side
    obtain ⟨values, -, -, window, turret⟩ := side
    refine ⟨rfl, fun h => h.congr values ?_, fun opened => ?_⟩
    · intro k at'
      rw [show (p.withImager (Imager.homed { x with turret := some 0 })).imager.turret = some 0 from turret] at at'
      cases at'; decide
    · rw [show (p.withImager (Imager.homed { x with turret := some 0 })).imager.confirmWindow =
        p.imager.confirmWindow from window] at opened
      exact opened
  · split
    · exact (stepped.goesOn (Photo.halt_goesOn _)).lights
    · split
      · exact Photo.Calm.lights ⟨rfl, rfl⟩
      · exact stepped.lights

theorem Photo.homingStep_lawful (h : p.imager.Lawful p.pins.coverOpen) (detent : Bool) :
    (p.homingStep detent).imager.Lawful p.pins.coverOpen := by
  unfold Photo.homingStep
  extract_lets _ x
  have stepped : x.Lawful p.pins.coverOpen := h.congr rfl
  split
  · exact Imager.Lawful.homed (stepped.congr rfl)
  · split
    · exact Photo.halt_lawful (p := p.withImager x) stepped _
    · split
      · exact stepped.congr rfl
      · exact stepped

theorem Photo.glyphStep_lights (position : Nat) (way : Direction) (detent : Bool) :
    p.Lights (p.glyphStep position way detent) := by
  unfold Photo.glyphStep
  extract_lets next _ q
  have stepped : p.Lights q := by
    refine ⟨rfl, fun h => h.congr rfl fun k at' => ?_, id⟩
    obtain rfl : next = k := Option.some.inj at'
    exact turretNext_lt position way
  split
  · exact stepped.trans (Photo.halt_goesOn _).lights
  · split
    · exact stepped
    · split
      · exact stepped.trans Photo.pursue_goesOn.lights
      · exact stepped

theorem Photo.glyphStep_lawful (h : p.imager.Lawful p.pins.coverOpen) (position : Nat) (way : Direction)
    (detent : Bool) : (p.glyphStep position way detent).imager.Lawful p.pins.coverOpen := by
  unfold Photo.glyphStep
  extract_lets next _ q
  have stepped : q.imager.Lawful q.pins.coverOpen := h.congr rfl
  split
  · exact Photo.halt_lawful stepped _
  · split
    · exact stepped
    · split
      · next due => exact Photo.pursue_lawful stepped due.1
      · exact stepped

theorem Photo.turretSteps_lights (detent : Bool) : p.Lights (p.turretSteps detent) := by
  unfold Photo.turretSteps
  split
  · exact .refl
  · split
    · exact Photo.homingStep_lights detent
    · split
      · exact Photo.glyphStep_lights _ _ detent
      · exact Photo.Calm.lights ⟨rfl, rfl⟩

theorem Photo.turretSteps_lawful (h : p.imager.Lawful p.pins.coverOpen) (detent : Bool) :
    (p.turretSteps detent).imager.Lawful p.pins.coverOpen := by
  unfold Photo.turretSteps
  split
  · exact h
  · split
    · exact Photo.homingStep_lawful h detent
    · split
      · exact Photo.glyphStep_lawful h _ _ detent
      · exact h.congr rfl

/-! ### Sector events (R127, R128, R138 to R142) -/

theorem Photo.dropGlyph_goesOn (pr : Progress) : p.GoesOn (p.dropGlyph pr) := by
  unfold Photo.dropGlyph
  extract_lets pr' q
  have lined : p.Calm ((p.post .glyphDropped).withLine pr') := ⟨rfl, rfl⟩
  have counted : p.Calm q := lined.trans (Photo.flagLine_calm _)
  split
  · exact counted.goesOn (Photo.halt_goesOn _)
  · exact counted.goesOn (Photo.nextGlyph_goesOn _)

theorem Photo.dropGlyph_lawful (h : p.imager.Lawful p.pins.coverOpen) (line : p.imager.line.isSome = true)
    (pr : Progress) : (p.dropGlyph pr).imager.Lawful p.pins.coverOpen := by
  unfold Photo.dropGlyph
  extract_lets pr' q
  have pins : q.pins = p.pins := (Photo.flagLine_calm _).pins
  have imager : q.imager = { p.imager with line := some pr' } := by simp [q]
  have counted : q.imager.Lawful q.pins.coverOpen := by
    rw [pins, imager]; exact h.withLine line pr'
  split
  · rw [← pins]; exact Photo.halt_lawful counted _
  · rw [← pins]; exact Photo.nextGlyph_lawful counted (by simp [imager]) _

/-- The Imager with its confirm window closed. -/
def Photo.shut (p : Photo) : Photo := p.withImager { p.imager with confirmWindow := false }

/-- With no window open there is none to close. -/
theorem Photo.shut_of_closed (closed : p.imager.confirmWindow = false) : p.shut = p := by
  unfold Photo.shut
  rw [← closed]
  rfl

theorem Photo.shut_lights : p.Lights p.shut := ⟨rfl, fun h => h.congr rfl h.turret, nofun⟩

/-- Once the window is closed the line goes on, or the Imager halts. -/
theorem Photo.closeWindow_goesOn : p.shut.GoesOn p.closeWindow := by
  unfold Photo.closeWindow
  split
  · extract_lets _ q
    have shut : p.shut = q := rfl
    rw [shut]
    split
    · exact .refl
    · split
      · exact .calm ⟨rfl, rfl⟩
      · exact Photo.dropGlyph_goesOn _
  · next closed => rw [Photo.shut_of_closed (by simpa using closed)]; exact .refl

theorem Photo.closeWindow_lawful (h : p.imager.Lawful p.pins.coverOpen) :
    p.closeWindow.imager.Lawful p.pins.coverOpen := by
  unfold Photo.closeWindow
  split
  · extract_lets _ q
    have shut : q.imager.Lawful q.pins.coverOpen := h.congr rfl
    split
    · exact shut
    · next pr line =>
      have lined : q.imager.line.isSome = true := by simp [line]
      split
      · exact shut.withLine lined _
      · exact Photo.dropGlyph_lawful shut lined pr
  · exact h

/-- At a sector event the current glyph, in SETTING alone, fires or is deferred, or nothing is due. -/
theorem Photo.flashIfDue_cases (p : Photo) (n : Nat) :
    p.flashIfDue n = p ∨
      ∃ pr, p.imager.line = some pr ∧ p.imager.state = .setting ∧ p.imager.disc = .running ∧
        p.flashIfDue n = p.flash pr := by
  unfold Photo.flashIfDue
  split
  · exact .inl rfl
  · next pr line =>
    split
    · exact .inl rfl
    · split
      · next due =>
        simp only [Photo.glyphDue, Bool.and_eq_true, beq_iff_eq] at due
        obtain ⟨⟨⟨⟨⟨state, running⟩, -⟩, -⟩, -⟩, -⟩ := due
        exact .inr ⟨pr, line, state, running, rfl⟩
      · exact .inl rfl

theorem Photo.flash_lampFit (h : p.imager.LampFit) (pr : Progress) : (p.flash pr).imager.LampFit := by
  unfold Photo.flash
  split
  · exact h.congr rfl h.turret
  · exact h.congr rfl h.turret

theorem Photo.flash_pins (p : Photo) (pr : Progress) : (p.flash pr).pins = p.pins := by
  unfold Photo.flash
  split <;> rfl

/-- A firing goes into the history of a disc that turns. -/
theorem Photo.flash_lawful (h : p.imager.Lawful p.pins.coverOpen) (line : p.imager.line.isSome = true)
    (turning : p.imager.disc ≠ .stopped) (pr : Progress) : (p.flash pr).imager.Lawful p.pins.coverOpen := by
  unfold Photo.flash
  split
  · have fired : Imager.Lawful { p.imager with
        history := joinHistory p.imager.history p.imager.stamp, confirmWindow := true } p.pins.coverOpen :=
      ⟨h.resting, h.idle, h.lined, h.awayResting, h.awayIdle, h.awayLined, fun stopped => absurd stopped turning,
        h.returns, h.rechecks, h.cancels⟩
    exact fired.withLine line _
  · exact h.withLine line _

/-- The stamp, the history and the lamp values move with a disc that turns. -/
theorem Imager.Lawful.sector {x : Imager} {cover : Bool} (h : x.Lawful cover) (turning : x.disc ≠ .stopped) :
    x.sector.Lawful cover :=
  ⟨h.resting, h.idle, h.lined, h.awayResting, h.awayIdle, h.awayLined, fun stopped => absurd stopped turning,
    h.returns, h.rechecks, h.cancels⟩

/-- Pending lamp values are in their ranges as they come into force (R139). -/
theorem Imager.LampFit.sector {x : Imager} (h : x.LampFit) : x.sector.LampFit := by
  unfold Imager.sector
  cases lamp : x.pendingLamp with
  | none => exact ⟨h.windowLow, h.windowHigh, h.mostLow, h.mostHigh, nofun, h.turret, h.mounted⟩
  | some values =>
    obtain ⟨windowLow, windowHigh, mostLow, mostHigh⟩ := h.pending values.1 values.2 lamp
    exact ⟨windowLow, windowHigh, mostLow, mostHigh, nofun, h.turret, h.mounted⟩

/-- The step from the sector event's stamp to the window's end. -/
theorem Photo.sectorEvent_of_turning (turning : p.imager.disc ≠ .stopped) (n : Nat) :
    p.sectorEvent n = ((p.withImager p.imager.sector).closeWindow).flashIfDue n :=
  if_neg turning

theorem Photo.sectorEvent_of_stopped (stopped : p.imager.disc = .stopped) (n : Nat) : p.sectorEvent n = p :=
  if_pos stopped

theorem Photo.closeWindow_lights : p.Lights p.closeWindow :=
  Photo.shut_lights.trans Photo.closeWindow_goesOn.lights

theorem Photo.sectorEvent_lampFit (h : p.imager.LampFit) (n : Nat) : (p.sectorEvent n).imager.LampFit := by
  by_cases stopped : p.imager.disc = .stopped
  · rw [Photo.sectorEvent_of_stopped stopped]; exact h
  · rw [Photo.sectorEvent_of_turning stopped]
    have closed := Photo.closeWindow_lights.lamp (p := p.withImager p.imager.sector) h.sector
    rcases Photo.flashIfDue_cases (p.withImager p.imager.sector).closeWindow n with same | ⟨pr, -, -, -, fires⟩
    · rw [same]; exact closed
    · rw [fires]; exact Photo.flash_lampFit closed pr

theorem Photo.sectorEvent_lawful (h : p.imager.Lawful p.pins.coverOpen) (n : Nat) :
    (p.sectorEvent n).imager.Lawful p.pins.coverOpen := by
  by_cases stopped : p.imager.disc = .stopped
  · rw [Photo.sectorEvent_of_stopped stopped]; exact h
  · rw [Photo.sectorEvent_of_turning stopped]
    let q := (p.withImager p.imager.sector).closeWindow
    have pins : q.pins = p.pins := Photo.closeWindow_lights.pins
    have closed : q.imager.Lawful q.pins.coverOpen := by
      rw [pins]
      exact Photo.closeWindow_lawful (p := p.withImager p.imager.sector) (h.sector stopped)
    rcases Photo.flashIfDue_cases q n with same | ⟨pr, line, state, running, fires⟩
    · rw [same, ← pins]; exact closed
    · rw [fires, ← pins]
      exact Photo.flash_lawful closed (by simp [line]) (by simp [running]) pr

/-- A firing leaves fewer than the maximum in force within the window in force before it, and joins the history (R138):
what a window opened at a sector event says of the Imager before it and after. -/
def WithinBudget (x y : Imager) : Prop :=
  (x.history.countP fun s => decide (stampGap y.stamp s < y.window)) < y.most ∧ y.stamp ∈ y.history

/-- The history drops no firing that the budget counts. -/
theorem Imager.sector_recent {x : Imager} (h : x.sector.window ≤ 32) :
    x.sector.recent = x.history.countP fun s => decide (stampGap x.sector.stamp s < x.sector.window) := by
  change (x.history.filter fun s => decide (stampGap x.sector.stamp s < 32)).countP _ = _
  rw [List.countP_filter]
  refine List.countP_congr fun s _ => ?_
  simp only [Bool.and_eq_true, decide_eq_true_eq]
  exact ⟨fun ⟨young, _⟩ => young, fun young => ⟨young, young.trans_le h⟩⟩

/-- A window that is open after a sector event of a disc that turns has been opened by it, within the budget. -/
theorem Photo.sectorEvent_budget (h : p.imager.LampFit) (turning : p.imager.disc ≠ .stopped) (n : Nat)
    (opened : (p.sectorEvent n).imager.confirmWindow = true) : WithinBudget p.imager (p.sectorEvent n).imager := by
  rw [Photo.sectorEvent_of_turning turning] at opened ⊢
  let q := p.withImager p.imager.sector
  have goes : q.shut.GoesOn q.closeWindow := Photo.closeWindow_goesOn
  have closed : q.closeWindow.imager.confirmWindow = false :=
    Bool.eq_false_iff.mpr fun still => nomatch goes.lights.window still
  rcases Photo.flashIfDue_cases q.closeWindow n with same | ⟨pr, -, state, -, fires⟩
  · rw [same, closed] at opened
    cases opened
  · cases goes with
    | halts pins values turret window halted => rw [halted] at state; cases state
    | calm same =>
      have side := same.lampSide
      simp only [Imager.lampSide, Imager.lampValues, Prod.mk.injEq] at side
      obtain ⟨⟨window, most, -, -⟩, history, stamp, -, -⟩ := side
      have recent : q.closeWindow.imager.recent = p.imager.sector.recent := by
        unfold Imager.recent
        rw [history, stamp, window]
        rfl
      rw [fires] at opened ⊢
      unfold Photo.flash at opened ⊢
      split at opened
      · next room =>
        rw [if_pos room]
        rw [recent, Imager.sector_recent h.sector.windowHigh] at room
        refine ⟨?_, ?_⟩
        · change (p.imager.history.countP fun s =>
            decide (stampGap q.closeWindow.imager.stamp s < q.closeWindow.imager.window)) < q.closeWindow.imager.most
          rw [stamp, window, most]
          rw [most] at room
          exact room
        · exact List.mem_append_right _ (List.mem_singleton_self _)
      · have still : q.closeWindow.imager.confirmWindow = true := opened
        rw [closed] at still
        cases still

/-! ### Index events (R127, R128, R134, R147) -/

/-- A line resumed, from a state that leaves no return state, no recheck and no cancelled timer behind. -/
theorem Photo.resumeLine_lawful (still : p.imager.disc = .stopped → p.imager.history = [] ∧ p.imager.stamp = 0)
    (recheck : p.imager.recheck = false) (cancelled : p.imager.cancelled = []) (line : p.imager.line.isSome = true) :
    p.resumeLine.imager.Lawful p.pins.coverOpen :=
  Photo.pursue_lawful (p := p.withImager { p.imager with state := .setting, returnState := none })
    (Imager.Plain.lawful_lined ⟨still, rfl, recheck, cancelled⟩ (.inr (.inl rfl)) line) rfl

theorem Photo.resumeLine_goesOn : p.GoesOn p.resumeLine :=
  Photo.Calm.goesOn (p := p) (q := p.withImager { p.imager with state := .setting, returnState := none }) ⟨rfl, rfl⟩
    Photo.pursue_goesOn

theorem Photo.spunUp_lights {identity : Nat} (small : identity < 64) : p.Lights (p.spunUp identity) := by
  unfold Photo.spunUp
  split
  · exact Photo.Calm.lights ⟨rfl, rfl⟩
  · extract_lets _ q
    have running : p.Lights q :=
      ⟨rfl, fun h => ⟨h.windowLow, h.windowHigh, h.mostLow, h.mostHigh, h.pending, h.turret, small⟩, id⟩
    split
    · exact running.trans Photo.resumeLine_goesOn.lights
    · exact running

/-- The spin-up of a disc that turns: the state and the line are those of SPIN-UP, or of SUSPENDED. -/
theorem Photo.spunUp_lawful (h : p.imager.Lawful p.pins.coverOpen) (starting : p.imager.disc = .starting)
    (identity : Nat) : (p.spunUp identity).imager.Lawful p.pins.coverOpen := by
  have turning : p.imager.disc ≠ .stopped := by simp [starting]
  have running {x : Imager} (disc : x.disc ≠ .stopped)
      (same : { x with disc := p.imager.disc, history := p.imager.history, stamp := p.imager.stamp }.lawSide =
        p.imager.lawSide) : x.Lawful p.pins.coverOpen := by
    have old := h.congr same
    exact ⟨fun e => absurd (old.resting e).1 turning, fun e => ⟨disc, (old.idle e).2⟩, old.lined,
      fun e r => absurd (old.awayResting e r).1 turning, fun e r => ⟨disc, (old.awayIdle e r).2⟩, old.awayLined,
      fun stopped => absurd stopped disc, old.returns, old.rechecks, old.cancels⟩
  unfold Photo.spunUp
  split
  · exact running nofun rfl
  · extract_lets _ q
    have spun : q.imager.Lawful p.pins.coverOpen := running nofun rfl
    split
    · next state =>
      have plain := spun.plain (by simp [state]) (by simp [state])
      exact Photo.resumeLine_lawful (p := q) plain.still plain.rechecks plain.cancels (spun.lined (.inl state))
    · exact spun

theorem Photo.rechecked_lights {identity : Nat} (small : identity < 64) : p.Lights (p.rechecked identity) := by
  unfold Photo.rechecked
  extract_lets _ q _
  have running : p.Lights q :=
    ⟨rfl, fun h => ⟨h.windowLow, h.windowHigh, h.mostLow, h.mostHigh, h.pending, h.turret, small⟩, id⟩
  refine running.trans ?_
  split
  · exact Photo.Calm.lights ⟨rfl, rfl⟩
  · exact Photo.resumeLine_goesOn.lights
  · exact Photo.resumeLine_goesOn.lights
  · exact Photo.resumeLine_goesOn.lights
  · exact .refl

theorem Photo.rechecked_lawful (h : p.imager.Lawful p.pins.coverOpen) (checks : p.imager.recheck = true)
    (turning : p.imager.disc ≠ .stopped) (identity : Nat) :
    (p.rechecked identity).imager.Lawful p.pins.coverOpen := by
  obtain ⟨away, -⟩ := h.rechecks checks
  have cancelled : p.imager.cancelled = [] := h.cancelled_of_whole (by simp [away])
  unfold Photo.rechecked
  extract_lets _ q _
  have state : q.imager.state = .suspended := away
  have resumes (lined : q.imager.returnState = some .spinUp ∨ q.imager.returnState = some .setting ∨
      q.imager.returnState = some .mountWait) : q.resumeLine.imager.Lawful p.pins.coverOpen :=
    Photo.resumeLine_lawful (p := q) nofun rfl cancelled (h.awayLined away lined)
  split
  · next back =>
    exact Imager.Plain.lawful ⟨nofun, rfl, rfl, cancelled⟩ nofun (fun _ => ⟨nofun, (h.awayIdle away back).2⟩) nofun
  · next back => exact resumes (.inl back)
  · next back => exact resumes (.inr (.inl back))
  · next back => exact resumes (.inr (.inr back))
  · exact ⟨fun e => by simp [state] at e, fun e => by simp [state] at e, fun e => by simp [state] at e,
      fun _ r => absurd (h.awayResting away r).1 turning, fun _ r => ⟨nofun, (h.awayIdle away r).2⟩, h.awayLined,
      nofun, fun _ => away, nofun, h.cancels⟩

theorem Photo.indexEvent_lights {identity : Nat} (small : identity < 64) : p.Lights (p.indexEvent identity) := by
  have counted : p.Calm (p.withImager p.imager.recount) := ⟨rfl, rfl⟩
  unfold Photo.indexEvent
  split
  · exact .refl
  · split
    · exact Photo.spunUp_lights small
    · exact counted.lights
  · split
    · extract_lets q
      split
      · have mounts : q.Lights (q.withImager { q.imager with mounted := identity }) :=
          ⟨rfl, fun h => ⟨h.windowLow, h.windowHigh, h.mostLow, h.mostHigh, h.pending, h.turret, small⟩, id⟩
        exact (counted.lights.trans mounts).trans Photo.resumeLine_goesOn.lights
      · exact counted.lights
    · exact (Photo.halt_goesOn _).lights
  · split
    · exact Photo.rechecked_lights small
    · exact counted.lights

theorem Photo.indexEvent_lawful (h : p.imager.Lawful p.pins.coverOpen) (identity : Nat) :
    (p.indexEvent identity).imager.Lawful p.pins.coverOpen := by
  have counted : p.imager.recount.Lawful p.pins.coverOpen := h.congr rfl
  unfold Photo.indexEvent
  split
  · exact h
  · next starting =>
    split
    · exact Photo.spunUp_lawful h starting identity
    · exact counted
  · split
    · extract_lets q
      split
      · next due =>
        obtain ⟨waits, -⟩ := due
        have plain := counted.plain (by simp [show p.imager.recount.state = .mountWait from waits])
          (by simp [show p.imager.recount.state = .mountWait from waits])
        exact Photo.resumeLine_lawful (p := q.withImager { q.imager with mounted := identity }) plain.still
          plain.rechecks plain.cancels (h.lined (.inr (.inr waits)))
      · exact counted
    · exact Photo.halt_lawful h _
  · next unconfirmed =>
    split
    · next checks => exact Photo.rechecked_lawful h checks (by simp [unconfirmed]) identity
    · exact counted

/-! ### The flash confirm, the cover and LAMP (R139, R140, R146, R147, R149) -/

theorem Photo.confirm_lights : p.Lights p.confirm := by
  unfold Photo.confirm
  split
  · extract_lets _ q
    have shut : p.Lights q := Photo.shut_lights
    split
    · exact shut
    · exact shut.trans (Photo.nextGlyph_goesOn _).lights
  · exact .refl

theorem Photo.confirm_lawful (h : p.imager.Lawful p.pins.coverOpen) :
    p.confirm.imager.Lawful p.pins.coverOpen := by
  unfold Photo.confirm
  split
  · extract_lets _ q
    have shut : q.imager.Lawful q.pins.coverOpen := h.congr rfl
    split
    · exact shut
    · next pr line => exact Photo.nextGlyph_lawful shut (by simp [line]) _
  · exact h

theorem Photo.suspend_calm : p.Calm p.suspend := by
  unfold Photo.suspend
  extract_lets _ q
  have away : p.Calm (q.post .coverOpen) := ⟨rfl, rfl⟩
  exact away.trans (Photo.flagLine_calm _)

theorem Photo.suspend_imager (p : Photo) : p.suspend.imager = { p.imager with
    state := .suspended
    returnState := some p.imager.state
    disc := if p.imager.disc = .running then .unconfirmed else p.imager.disc } := by
  simp [Photo.suspend]

/-- SUSPENDED keeps what the state left behind has: its disc and its line. -/
theorem Photo.suspend_lawful {cover : Bool} (h : p.imager.Lawful cover) (going : p.imager.state ≠ .suspended)
    (whole : p.imager.state ≠ .halted) (level : Bool) : p.suspend.imager.Lawful level := by
  obtain ⟨still, returns, rechecks, cancels⟩ := h.plain going whole
  have turns : (if p.imager.disc = .running then DiscState.unconfirmed else p.imager.disc) = .stopped ↔
      p.imager.disc = .stopped := by
    split
    · next running => simp [running]
    · exact Iff.rfl
  rw [p.suspend_imager]
  refine ⟨fun e => by simp at e, nofun, fun e => by simp at e, fun _ r => ?_, fun _ r => ?_, fun _ r => ?_,
    fun stopped => still (turns.mp stopped), fun _ => rfl, fun checks => ?_, fun lost => absurd cancels lost⟩
  · simp only [Option.some.injEq] at r
    obtain ⟨stopped, line⟩ := h.resting (r.imp_right .inl)
    exact ⟨turns.mpr stopped, line⟩
  · obtain ⟨turning, line⟩ := h.idle (Option.some.inj r)
    exact ⟨fun stopped => turning (turns.mp stopped), line⟩
  · simp only [Option.some.injEq] at r
    exact h.lined r
  · have checks : p.imager.recheck = true := checks
    rw [rechecks] at checks
    cases checks

theorem Photo.coverOpens_lights : p.Lights p.coverOpens := by
  unfold Photo.coverOpens
  split
  · exact Photo.Calm.lights ⟨rfl, rfl⟩
  · exact Photo.Calm.lights ⟨rfl, rfl⟩
  · exact Photo.suspend_calm.lights

/-- An opening, the switch having shown the cover closed: it ends a recheck (log entry 9). -/
theorem Photo.coverOpens_lawful {cover : Bool} (h : p.imager.Lawful cover) (level : Bool) :
    p.coverOpens.imager.Lawful level := by
  unfold Photo.coverOpens
  split
  · next halted =>
    have unchecked (checks : p.imager.recheck = true) : False := by simpa [halted] using (h.rechecks checks).1
    exact ⟨h.resting, h.idle, h.lined, h.awayResting, h.awayIdle, h.awayLined, h.still, h.returns,
      fun checks => (unchecked checks).elim, h.cancels⟩
  · exact ⟨h.resting, h.idle, h.lined, h.awayResting, h.awayIdle, h.awayLined, h.still, h.returns, nofun, h.cancels⟩
  · next whole going => exact Photo.suspend_lawful h going whole level

theorem Photo.resume_lights (detent : Bool) : p.Lights (p.resume detent) := by
  have quiet {x : Imager} (side : x.lampSide = p.imager.lampSide) : p.Lights (p.withImager x) :=
    (Photo.withImager_calm side).lights
  unfold Photo.resume
  split
  · exact Photo.beginHoming_lights detent
  · exact quiet rfl
  · split
    · exact quiet rfl
    · exact quiet rfl
  · exact quiet rfl
  · split
    · exact quiet rfl
    · exact Photo.resumeLine_goesOn.lights
  · split
    · exact quiet rfl
    · exact Photo.resumeLine_goesOn.lights
  · exact .refl

theorem Photo.coverCloses_lights (detent : Bool) : p.Lights (p.coverCloses detent) := by
  unfold Photo.coverCloses
  split
  · exact Photo.resume_lights detent
  · split
    · exact Photo.beginHoming_lights detent
    · exact .refl
  · exact .refl

/-- A closing, the switch having shown the cover open: no recheck was running. -/
theorem Photo.coverCloses_lawful (h : p.imager.Lawful true) (closed : p.pins.coverOpen = false) (detent : Bool) :
    (p.coverCloses detent).imager.Lawful p.pins.coverOpen := by
  have unchecked : p.imager.recheck = false := Bool.eq_false_iff.mpr fun checks => nomatch (h.rechecks checks).2
  have same : p.imager.Lawful p.pins.coverOpen :=
    ⟨h.resting, h.idle, h.lined, h.awayResting, h.awayIdle, h.awayLined, h.still, h.returns,
      fun checks => absurd checks (by simp [unchecked]), h.cancels⟩
  unfold Photo.coverCloses
  split
  · next away =>
    have cancelled : p.imager.cancelled = [] := h.cancelled_of_whole (by simp [away])
    have checks : p.startRecheck.imager.Lawful p.pins.coverOpen :=
      ⟨h.resting, h.idle, h.lined, h.awayResting, h.awayIdle, h.awayLined, h.still, h.returns,
        fun _ => ⟨away, closed⟩, h.cancels⟩
    have resumes (lined : p.imager.returnState = some .spinUp ∨ p.imager.returnState = some .setting ∨
        p.imager.returnState = some .mountWait) : p.resumeLine.imager.Lawful p.pins.coverOpen :=
      Photo.resumeLine_lawful h.still unchecked cancelled (h.awayLined away lined)
    unfold Photo.resume
    split
    · next back => exact Photo.beginHoming_lawful detent (h.awayResting away (.inl back)).2
    · next back =>
      exact Imager.Plain.lawful ⟨h.still, rfl, unchecked, cancelled⟩ (fun _ => h.awayResting away (.inr back)) nofun
        nofun
    · next back =>
      split
      · exact checks
      · exact Imager.Plain.lawful_lined ⟨h.still, rfl, unchecked, cancelled⟩ (.inl rfl)
          (h.awayLined away (.inl back))
    · exact checks
    · next back =>
      split
      · exact checks
      · exact resumes (.inr (.inl back))
    · next back =>
      split
      · exact checks
      · exact resumes (.inr (.inr back))
    · exact same
  · next halted =>
    split
    · exact Photo.beginHoming_lawful detent (h.resting (.inr (.inr halted))).2
    · exact same
  · exact same

/-- The Imager as RESET ends, from its reset state (R125). -/
theorem Photo.start_lawful (reset : p.imager = .reset) (detent : Bool) :
    (p.start detent).imager.Lawful p.pins.coverOpen := by
  unfold Photo.start
  split
  · have away : (Photo.post (p.withImager { p.imager with state := .suspended, returnState := some .homing })
        .coverOpen).imager = { Imager.reset with state := .suspended, returnState := some .homing } := by
      rw [← reset]; rfl
    rw [away]
    exact ⟨fun e => by simp at e, nofun, fun e => by simp at e, fun _ _ => ⟨rfl, rfl⟩, nofun,
      fun _ r => by simp at r, fun _ => ⟨rfl, rfl⟩, fun _ => rfl, nofun, fun lost => absurd rfl lost⟩
  · exact Photo.beginHoming_lawful detent (by rw [reset]; rfl)

theorem Photo.start_lights (detent : Bool) : p.Lights (p.start detent) := by
  unfold Photo.start
  split
  · exact Photo.Calm.lights ⟨rfl, rfl⟩
  · exact Photo.beginHoming_lights detent

end Photo

end Sys2Proof.Machine
end

section
/-! PROOFS. The whole part over a step: every command keeps the laws of the Imager and the lamp
(`EveryStepKeepsTheImagerLaws`), and opens a confirm window within the budget alone (`FiringsKeepTheBudget`). -/

namespace Sys2Proof.Machine

open Sys2Proof Sys2Proof.Safety

/-- `t` comes of `s` by a step that leaves the Imager and the cover alone. -/
structure State.Apart (s t : State) : Prop where
  imager : t.imager = s.imager
  cover : t.pins.coverOpen = s.pins.coverOpen

/-- `t` comes of `s` by a step that keeps the laws of the Imager and the lamp and opens no confirm window. -/
structure State.Lights (s t : State) : Prop where
  law : ImagerLaw s → ImagerLaw t
  lamp : LampLaw s → LampLaw t
  window : t.imager.confirmWindow = true → s.imager.confirmWindow = true

/-- `t` comes of `s` by a step that keeps the laws; a window it opens is within the budget (R138). -/
structure State.Drives (s t : State) : Prop where
  law : ResetLaw s → ImagerLaw s → ImagerLaw t
  lamp : LampLaw s → LampLaw t
  window : LampLaw s → t.imager.confirmWindow = true →
    s.imager.confirmWindow = true ∨ WithinBudget s.imager t.imager

section Whole

variable {s t : State}

theorem State.Apart.refl : s.Apart s := ⟨rfl, rfl⟩

theorem State.Apart.trans {u : State} (hst : s.Apart t) (htu : t.Apart u) : s.Apart u :=
  ⟨htu.imager.trans hst.imager, htu.cover.trans hst.cover⟩

theorem State.Apart.lights (h : s.Apart t) : s.Lights t := by
  obtain ⟨imager, cover⟩ := h
  refine ⟨fun law => ?_, fun lamp => ?_, fun opened => imager ▸ opened⟩
  · rw [imagerLaw_iff] at law ⊢
    rw [imager, cover]
    exact law
  · rw [lampLaw_iff] at lamp ⊢
    rw [imager]
    exact lamp

theorem State.Lights.trans {u : State} (hst : s.Lights t) (htu : t.Lights u) : s.Lights u :=
  ⟨htu.law ∘ hst.law, htu.lamp ∘ hst.lamp, hst.window ∘ htu.window⟩

theorem State.Lights.drives (h : s.Lights t) : s.Drives t :=
  ⟨fun _ => h.law, h.lamp, fun _ opened => .inl (h.window opened)⟩

theorem State.Apart.drives (h : s.Apart t) : s.Drives t := h.lights.drives

/-- An operation of the photo unit's side. -/
theorem State.withPhoto_lights {busy : Bool} {p : Photo} (lights : (s.photo busy).Lights p)
    (lawful : s.imager.Lawful s.pins.coverOpen → p.imager.Lawful s.pins.coverOpen) : s.Lights (s.withPhoto p) := by
  refine ⟨fun law => ?_, fun lamp => ?_, lights.window⟩
  · rw [imagerLaw_iff] at law ⊢
    exact lawful law
  · rw [lampLaw_iff] at lamp ⊢
    exact lights.lamp lamp

theorem State.onPhoto_apart (busy : Bool) (f : Photo → Photo) :
    (s.withPhoto (f (s.photo busy))).Apart (s.onPhoto busy f) :=
  ⟨(s.onPhoto_shows f).imager, by rw [State.onPhoto_pins]; rfl⟩

theorem State.onPhoto_lights {busy : Bool} {f : Photo → Photo} (lights : (s.photo busy).Lights (f (s.photo busy)))
    (lawful : s.imager.Lawful s.pins.coverOpen → (f (s.photo busy)).imager.Lawful s.pins.coverOpen) :
    s.Lights (s.onPhoto busy f) :=
  (State.withPhoto_lights lights lawful).trans (State.onPhoto_apart busy f).lights

theorem State.filmEvent_lights (busy : Bool) (f : Film → FilmResult) : s.Lights (s.filmEvent busy f) :=
  State.onPhoto_lights (Photo.runFilm_goesOn _).lights fun law => Photo.runFilm_lawful (p := s.photo busy) law _

/-- `q` comes of `p` by operations that leave the Imager and the switches alone. -/
structure Photo.Apart (p q : Photo) : Prop where
  imager : q.imager = p.imager
  pins : q.pins = p.pins

theorem State.onPhoto_lights_of_apart {busy : Bool} {f : Photo → Photo}
    (apart : (s.photo busy).Apart (f (s.photo busy))) : s.Lights (s.onPhoto busy f) := by
  obtain ⟨imager, pins⟩ := apart
  exact State.onPhoto_lights ⟨pins, imager ▸ id, imager ▸ id⟩ fun law => imager ▸ law

/-! ### The printer (chapter 9) -/

section Printer

variable {p : Photo}

theorem Photo.skipAll_apart (slots : List Nat) (p : Photo) : p.Apart (slots.foldl Photo.skipLine p) := by
  induction slots generalizing p with
  | nil => exact ⟨rfl, rfl⟩
  | cons i rest ih =>
    obtain ⟨imager, pins⟩ := ih (p.skipLine i)
    exact ⟨imager, pins⟩

theorem Photo.goOffline_apart (note : Bool) : p.Apart (p.goOffline note) := by
  unfold Photo.goOffline
  extract_lets x q
  obtain ⟨imager, pins⟩ := Photo.skipAll_apart q.store.awaiting q
  exact ⟨imager, pins⟩

theorem Photo.deselect_apart : p.Apart p.deselect := by
  unfold Photo.deselect
  split
  · exact Photo.goOffline_apart true
  · exact ⟨rfl, rfl⟩

theorem Photo.reselect_apart : p.Apart p.reselect := by
  unfold Photo.reselect
  split <;> exact ⟨rfl, rfl⟩

theorem Photo.notBusy_apart : p.Apart p.notBusy := by
  unfold Photo.notBusy
  split <;> exact ⟨rfl, rfl⟩

theorem Photo.busyExpires_apart : p.Apart p.busyExpires := by
  unfold Photo.busyExpires
  split
  · exact Photo.goOffline_apart false
  · exact ⟨rfl, rfl⟩

theorem Photo.ackExpires_apart : p.Apart p.ackExpires := by
  unfold Photo.ackExpires
  split
  · exact ⟨rfl, rfl⟩
  · exact Photo.goOffline_apart false
  · exact ⟨rfl, rfl⟩

theorem Photo.finishRecord_apart : p.Apart p.finishRecord := by
  unfold Photo.finishRecord
  dsimp only
  split <;> exact ⟨rfl, rfl⟩

theorem Photo.accept_apart : p.Apart p.accept := by
  unfold Photo.accept
  split
  · extract_lets _ q _ r
    have moved : q.Apart r := by
      unfold r
      split
      · exact ⟨rfl, rfl⟩
      · exact Photo.finishRecord_apart
    exact ⟨moved.imager, moved.pins⟩
  · exact ⟨rfl, rfl⟩

end Printer

/-! ### The owners that leave the Imager alone -/

theorem State.postWhen_apart (c : Bool) (e : Event) : s.Apart (s.postWhen c e) := by
  cases c <;> exact ⟨rfl, rfl⟩

/-- An owner's step, then the note of a clamp. -/
theorem State.Apart.noted (h : s.Apart t) (c : Bool) (e : Event) : s.Apart (t.postWhen c e) :=
  h.trans (State.postWhen_apart c e)

theorem State.runOut_apart : s.Apart s.runOut := by
  obtain ⟨mode, sources, frame⟩ := runOut_frame s
  rw [frame]; exact ⟨rfl, rfl⟩

theorem State.takeFont_apart (f : Nat) : s.Apart (s.takeFont f) := by
  unfold State.takeFont
  split <;> exact ⟨rfl, rfl⟩

theorem State.takeSave_apart (mask : Byte) : s.Apart (s.takeSave mask) := by
  unfold State.takeSave
  split <;> exact ⟨rfl, rfl⟩

theorem State.takeRestore_apart (mask : Byte) : s.Apart (s.takeRestore mask) := by
  unfold State.takeRestore
  split
  · exact ⟨rfl, rfl⟩
  · refine State.Apart.noted ?_ _ _
    exact ⟨rfl, rfl⟩

theorem State.takeDefine_apart (n : Nat) (nestable : Bool) : s.Apart (s.takeDefine n nestable) := by
  unfold State.takeDefine
  split <;> exact ⟨rfl, rfl⟩

theorem State.takeEndDefine_apart : s.Apart s.takeEndDefine := by
  unfold State.takeEndDefine
  split
  · exact ⟨rfl, rfl⟩
  · exact ⟨rfl, rfl⟩
  · dsimp only
    split <;> exact ⟨rfl, rfl⟩

theorem State.takeCall_apart (n : Nat) : s.Apart (s.takeCall n) := by
  unfold State.takeCall
  split <;> exact ⟨rfl, rfl⟩

theorem State.commitLoad_apart (tab : Table) (b : LoadBlock) : s.Apart (s.commitLoad tab b) := by
  refine State.Apart.noted ?_ _ _
  exact ⟨rfl, rfl⟩

theorem State.takeLensLoad_apart (b : LoadBlock) : s.Apart (s.takeLensLoad b) := by
  unfold State.takeLensLoad
  split
  · exact ⟨rfl, rfl⟩
  · split
    · exact ⟨rfl, rfl⟩
    · exact State.commitLoad_apart _ b

theorem State.takeLoad_apart (b : LoadBlock) : s.Apart (s.takeLoad b) := by
  refine (State.postWhen_apart b.directionOut .parameterClamped).trans ?_
  unfold State.takeLoad
  dsimp only
  split
  · exact ⟨rfl, rfl⟩
  · split
    · exact State.takeLensLoad_apart b
    · exact State.commitLoad_apart _ b
    · exact .refl

theorem State.endLensWait_apart (b : LoadBlock) : s.Apart (s.endLensWait b) := by
  have ended : s.Apart (s.withTables { s.tables with waiting := none }) := ⟨rfl, rfl⟩
  refine ended.trans ?_
  unfold State.endLensWait
  dsimp only
  split
  · exact State.commitLoad_apart _ b
  · exact ⟨rfl, rfl⟩

theorem State.takeLock_apart (ident : Byte) : s.Apart (s.takeLock ident) := by
  unfold State.takeLock
  split <;> exact ⟨rfl, rfl⟩

theorem State.takeDictAdd_apart (codes : List Byte) : s.Apart (s.takeDictAdd codes) := by
  unfold State.takeDictAdd
  split
  · exact ⟨rfl, rfl⟩
  · split
    · exact ⟨rfl, rfl⟩
    · dsimp only
      split <;> exact ⟨rfl, rfl⟩

theorem State.takeDictDelete_apart (codes : List Byte) : s.Apart (s.takeDictDelete codes) := by
  unfold State.takeDictDelete
  split
  · exact ⟨rfl, rfl⟩
  · dsimp only
    split <;> exact ⟨rfl, rfl⟩

theorem State.takeDictClear_apart : s.Apart s.takeDictClear := by
  unfold State.takeDictClear
  split <;> exact ⟨rfl, rfl⟩

theorem State.takeReplyItem_apart (h : HeldReply) : s.Apart (s.takeReplyItem h) := by
  cases h <;> exact ⟨rfl, rfl⟩

theorem State.replyItem_apart (h : HeldReply) : s.Apart (s.replyItem h) := by
  unfold State.replyItem
  split
  · exact State.takeReplyItem_apart h
  · exact ⟨rfl, rfl⟩

theorem State.retryHeld_apart : s.Apart s.retryHeld := by
  unfold State.retryHeld
  split
  · exact .refl
  · next h _ =>
    split
    · have released : s.Apart (s.withReply { s.reply with held := none }) := ⟨rfl, rfl⟩
      exact (released.trans (State.takeReplyItem_apart h)).trans State.runOut_apart
    · exact .refl

theorem State.recordSent_apart (heldFirst : Bool) : s.Apart (s.recordSent heldFirst) := by
  have sent : s.Apart (s.withReply (s.reply.sent s.pins.cts)) := ⟨rfl, rfl⟩
  unfold State.recordSent
  split
  · dsimp only
    split
    · exact sent.trans State.retryHeld_apart
    · exact sent
  · exact .refl

theorem State.answerWaiting_apart : s.Apart s.answerWaiting := by
  have answered : s.Apart (s.withReply (s.reply.answerOne s.pins.cts)) := ⟨rfl, rfl⟩
  unfold State.answerWaiting
  split
  · exact answered.trans State.retryHeld_apart
  · exact .refl

theorem State.setClearToSend_apart (level : Bool) (bytes : Nat) : s.Apart (s.setClearToSend level bytes) := by
  unfold State.setClearToSend
  split <;> exact ⟨rfl, rfl⟩

/-! ### Delivery, and the commands that are no item (R10, R19) -/

theorem deliver_drives {c : Instr} {owner : State → State} (h : deliver c owner s = .next t)
    (howner : ∀ u : State, u.Lights (owner u)) : s.Drives t := by
  rcases deliver_cases c owner s with same | ⟨u, takes, delivered⟩
  · rw [same] at h
    cases h
    exact State.Apart.drives .refl
  · rw [delivered] at h
    cases h
    obtain ⟨-, f, -, rfl⟩ := takes_frame takes
    have taken : s.Apart (s.withFront f) := ⟨rfl, rfl⟩
    exact ((taken.lights.trans (howner _)).trans State.runOut_apart.lights).drives

/-- An item whose owner leaves the Imager alone. -/
theorem deliver_apart {c : Instr} {owner : State → State} (h : deliver c owner s = .next t)
    (howner : ∀ u : State, u.Apart (owner u)) : s.Drives t :=
  deliver_drives h fun u => (howner u).lights

theorem next_drives {u : State} (h : (.next u : StepResult) = .next t) (hu : s.Drives u) : s.Drives t := by
  cases h
  exact hu

theorem next_lights {u : State} (h : (.next u : StepResult) = .next t) (hu : s.Lights u) : s.Drives t :=
  next_drives h hu.drives

theorem next_apart {u : State} (h : (.next u : StepResult) = .next t) (hu : s.Apart u) : s.Drives t :=
  next_drives h hu.drives

theorem execReset_drives (h : execReset s = .next t) : s.Drives t :=
  next_drives h ⟨fun _ _ => resetWith_imagerLaw { s.pins with resetLine := true },
    fun _ => resetWith_lampLaw { s.pins with resetLine := true }, fun _ => nofun⟩

theorem execResetEnd_drives {detent : Bool} (h : execResetEnd detent s = .next t) : s.Drives t := by
  unfold execResetEnd at h
  split at h
  · next up =>
    extract_lets u _ v at h
    have lights : (v.photo false).Lights ((v.photo false).start detent) := Photo.start_lights detent
    refine next_drives h ⟨fun reset _ => ?_, fun lamp => ?_, fun _ opened => .inl (lights.window opened)⟩
    · have imager : (v.photo false).imager = .reset := congrArg State.imager (reset up)
      rw [imagerLaw_iff]
      exact Photo.start_lawful imager detent
    · rw [lampLaw_iff] at lamp ⊢
      exact lights.lamp lamp
  · exact next_apart h .refl

theorem execFrameReceived_drives {data : Byte} {parity stop : Bool}
    (h : execFrameReceived data parity stop s = .next t) : s.Drives t := by
  unfold execFrameReceived at h
  split at h <;> exact next_apart h ⟨rfl, rfl⟩

theorem offer_quiet_apart {u : State} (h : s.offer = .quiet u) : s.Apart u := by
  unfold State.offer at h
  split at h
  · exact nomatch h
  · split at h
    · exact nomatch h
    · cases h; exact ⟨rfl, rfl⟩
    · exact nomatch h

theorem execParserTake_drives (h : execParserTake s = .next t) : s.Drives t := by
  unfold execParserTake at h
  split at h
  · next quiet => exact next_apart h ((offer_quiet_apart quiet).trans State.runOut_apart)
  · exact next_apart h .refl

theorem execWaitSlotResume_drives (h : execWaitSlotResume s = .next t) : s.Drives t := by
  unfold execWaitSlotResume at h
  split at h
  · split at h
    · exact next_apart h (State.Apart.trans (t := s.onDesk fun t dict d => d.resume t dict) ⟨rfl, rfl⟩
        State.runOut_apart)
    · exact next_apart h .refl
  · exact next_apart h .refl

theorem execLensCommitAfterWait_drives (h : execLensCommitAfterWait s = .next t) : s.Drives t := by
  unfold execLensCommitAfterWait at h
  split at h
  · next b _ =>
    split at h
    · exact next_apart h ((State.endLensWait_apart b).trans State.runOut_apart)
    · exact next_apart h .refl
  · exact next_apart h .refl

/-- What a switch away from the cover does once its level stands in `u`: a block's reset state under RESET, otherwise a
step of the photo unit. -/
theorem State.switch_drives {u quiet : State} {busy : Bool} {f : Photo → Photo}
    (h : (if u.pins.resetLine then .next quiet else .next (u.onPhoto busy f) : StepResult) = .next t)
    (switched : s.Apart u) (reset : s.Apart quiet) (photo : u.Lights (u.onPhoto busy f)) : s.Drives t := by
  split at h
  · exact next_apart h reset
  · exact next_lights h (switched.lights.trans photo)

theorem execCassetteRemoved_drives {busy : Bool} (h : execCassetteRemoved s busy = .next t) : s.Drives t := by
  unfold execCassetteRemoved at h
  dsimp only at h
  split at h
  · exact State.switch_drives h ⟨rfl, rfl⟩ ⟨rfl, rfl⟩ (State.filmEvent_lights _ _)
  · exact next_apart h .refl

theorem execCassetteInserted_drives {busy : Bool} (h : execCassetteInserted s busy = .next t) : s.Drives t := by
  unfold execCassetteInserted at h
  dsimp only at h
  split at h
  · exact next_apart h .refl
  · exact State.switch_drives h ⟨rfl, rfl⟩ ⟨rfl, rfl⟩ (State.filmEvent_lights _ _)

theorem execSelectInactive_drives (h : execSelectInactive s = .next t) : s.Drives t := by
  unfold execSelectInactive at h
  dsimp only at h
  split at h
  · exact State.switch_drives h ⟨rfl, rfl⟩ ⟨rfl, rfl⟩ (State.onPhoto_lights_of_apart Photo.deselect_apart)
  · exact next_apart h .refl

theorem execSelectActive_drives {busy : Bool} (h : execSelectActive busy s = .next t) : s.Drives t := by
  unfold execSelectActive at h
  dsimp only at h
  split at h
  · exact next_apart h .refl
  · exact State.switch_drives h ⟨rfl, rfl⟩ ⟨rfl, rfl⟩ (State.onPhoto_lights_of_apart Photo.reselect_apart)

/-- The Imager's operation at a change of the cover switch, the level standing at `level` before it. -/
theorem State.coverStep_drives {u : State} {busy : Bool} {f : Photo → Photo} (imager : u.imager = s.imager)
    (lights : (u.photo busy).Lights (f (u.photo busy)))
    (lawful : s.imager.Lawful s.pins.coverOpen → (f (u.photo busy)).imager.Lawful u.pins.coverOpen) :
    s.Drives (u.onPhoto busy f) := by
  have shows := (State.onPhoto_apart (s := u) busy f).lights
  refine ⟨fun _ law => shows.law ?_, fun lamp => shows.lamp ?_, fun _ opened => .inl ?_⟩
  · rw [imagerLaw_iff] at law ⊢
    exact lawful law
  · rw [lampLaw_iff] at lamp ⊢
    exact lights.lamp (show u.imager.LampFit from imager ▸ lamp)
  · exact imager ▸ lights.window (shows.window opened)

theorem execCoverOpens_drives (h : execCoverOpens s = .next t) : s.Drives t := by
  unfold execCoverOpens at h
  split at h
  · exact next_apart h .refl
  · extract_lets _ u at h
    split at h
    · next up =>
      refine next_drives h ⟨fun reset _ => ?_, fun lamp => lamp, fun _ opened => .inl opened⟩
      rw [imagerLaw_iff, show u.imager = .reset from congrArg State.imager (reset up)]
      exact (imagerLaw_iff _).mp (resetWith_imagerLaw u.pins)
    · exact next_drives h (State.coverStep_drives rfl Photo.coverOpens_lights fun law =>
        Photo.coverOpens_lawful (p := u.photo false) law _)

theorem execCoverCloses_drives {detent busy : Bool} (h : execCoverCloses detent s busy = .next t) : s.Drives t := by
  unfold execCoverCloses at h
  split at h
  · next opened =>
    extract_lets _ u at h
    split at h
    · next up =>
      refine next_drives h ⟨fun reset _ => ?_, fun lamp => lamp, fun _ opened => .inl opened⟩
      rw [imagerLaw_iff, show u.imager = .reset from congrArg State.imager (reset up)]
      exact (imagerLaw_iff _).mp (resetWith_imagerLaw u.pins)
    · exact next_drives h (State.coverStep_drives rfl (Photo.coverCloses_lights detent) fun law =>
        Photo.coverCloses_lawful (p := u.photo busy) (opened ▸ law) rfl detent)
  · exact next_apart h .refl

/-! ### The sector event, and LAMP (R138, R139) -/

/-- A sector event of a disc that turns leaves a window open only where its own firing is within the budget (R138,
R140). -/
theorem State.sectorEvent_budget (busy : Bool) (n : Nat) (lamp : LampLaw s) (turning : s.imager.disc ≠ .stopped)
    (opened : (s.onPhoto busy (·.sectorEvent n)).imager.confirmWindow = true) :
    WithinBudget s.imager (s.onPhoto busy (·.sectorEvent n)).imager := by
  have shows := (s.onPhoto_shows (busy := busy) (·.sectorEvent n)).imager
  rw [shows] at opened ⊢
  exact Photo.sectorEvent_budget (p := s.photo busy) ((lampLaw_iff s).mp lamp) turning n opened

theorem State.sectorEvent_drives (busy : Bool) (n : Nat) : s.Drives (s.onPhoto busy (·.sectorEvent n)) := by
  have shows := (State.onPhoto_apart (s := s) busy (·.sectorEvent n)).lights
  refine ⟨fun _ law => shows.law ?_, fun lamp => shows.lamp ?_, fun lamp opened => ?_⟩
  · rw [imagerLaw_iff] at law ⊢
    exact Photo.sectorEvent_lawful (p := s.photo busy) law n
  · rw [lampLaw_iff] at lamp ⊢
    exact Photo.sectorEvent_lampFit (p := s.photo busy) lamp n
  · by_cases stopped : s.imager.disc = .stopped
    · have same : (s.photo busy).sectorEvent n = s.photo busy := Photo.sectorEvent_of_stopped stopped n
      have window := shows.window opened
      rw [same] at window
      exact .inl window
    · exact .inr (State.sectorEvent_budget busy n lamp stopped opened)

theorem State.takeLamp_lights {window most : Nat} (low : 4 ≤ window) (high : window ≤ 32) (one : 1 ≤ most)
    (eight : most ≤ 8) : s.Lights (s.withPhoto ((s.photo false).takeLamp window most)) := by
  refine State.withPhoto_lights ⟨rfl, fun h => ?_, id⟩ fun law => law.congr rfl
  exact ⟨h.windowLow, h.windowHigh, h.mostLow, h.mostHigh, fun w m same => by cases same; exact ⟨low, high, one, eight⟩,
    h.turret, h.mounted⟩

/-! ### Every command -/

theorem exec_drives {c : Instr} (h : exec c s = .next t) : s.Drives t := by
  cases c with
  | reset => exact execReset_drives h
  | resetEnd => exact execResetEnd_drives h
  | frameReceived => exact execFrameReceived_drives h
  | parserTake => exact execParserTake_drives h
  | textCode | damagedCode | interwordSpace | thinSpace | enSpace | emSpace | noBreakSpace | discretionaryHyphen
  | noHyphenate | killLine | endLine | endPara | columnMark | cut | stopDisc | kerning | mask | clear =>
    exact deliver_apart h fun _ => ⟨rfl, rfl⟩
  | size | lead | measure | indent | quad | spaceband | track | letterspace | manualKern | hyphenation | hyphenLimits
  | advance | reverse | proof =>
    refine deliver_apart h fun _ => State.Apart.noted ?_ _ _
    exact ⟨rfl, rfl⟩
  | font => exact deliver_apart h fun _ => (State.takeFont_apart _).noted _ _
  | save => exact deliver_apart h fun _ => State.takeSave_apart _
  | restore => exact deliver_apart h fun _ => State.takeRestore_apart _
  | define => exact deliver_apart h fun _ => State.takeDefine_apart _ _
  | endDefine => exact deliver_apart h fun _ => State.takeEndDefine_apart
  | call => exact deliver_apart h fun _ => State.takeCall_apart _
  | load => exact deliver_apart h fun _ => State.takeLoad_apart _
  | lock => exact deliver_apart h fun _ => State.takeLock_apart _
  | dictAdd => exact deliver_apart h fun _ => State.takeDictAdd_apart _
  | dictDelete => exact deliver_apart h fun _ => State.takeDictDelete_apart _
  | dictClear => exact deliver_apart h fun _ => State.takeDictClear_apart
  | query | events | sync => exact deliver_apart h fun _ => State.replyItem_apart _
  | readLog => exact deliver_apart h fun _ => (State.postWhen_apart _ _).trans (State.replyItem_apart _)
  | cassette =>
    exact deliver_drives h fun u => (State.postWhen_apart _ _).lights.trans
      (State.withPhoto_lights (Photo.runFilm_goesOn _).lights fun law =>
        Photo.runFilm_lawful (p := State.photo _ _) law _)
  | lamp window most =>
    obtain ⟨low, high⟩ := clampNat_mem (show 4 ≤ 32 by decide) window.toNat
    obtain ⟨one, eight⟩ := clampNat_mem (show 1 ≤ 8 by decide) most.toNat
    exact deliver_drives h fun u =>
      (State.takeLamp_lights low high one eight).trans (State.postWhen_apart _ _).lights
  | waitSlotResume => exact execWaitSlotResume_drives h
  | lensCommitAfterWait => exact execLensCommitAfterWait_drives h
  | takeLine =>
    exact next_lights h (State.onPhoto_lights Photo.takeLine_lights fun law =>
      Photo.takeLine_lawful (p := State.photo _ _) law)
  | turretStepDone =>
    exact next_lights h (State.onPhoto_lights (Photo.turretSteps_lights _) fun law =>
      Photo.turretSteps_lawful (p := State.photo _ _) law _)
  | turretStepTimeout | carriageTimeout | spinUpTimeout | sectorGapTimeout | recheckTimeout =>
    exact next_lights h (State.onPhoto_lights (Photo.expire_lights _ _) fun law =>
      Photo.expire_lawful (p := State.photo _ _) law _ _)
  | carriageArrival =>
    exact next_lights h (State.onPhoto_lights Photo.carriageArrives_lights fun law =>
      Photo.carriageArrives_lawful (p := State.photo _ _) law)
  | ringSettleExpiry =>
    exact next_lights h (State.onPhoto_lights (Photo.Calm.lights ⟨rfl, rfl⟩) fun law => law.congr rfl)
  | sectorEvent => exact next_drives h (State.sectorEvent_drives _ _)
  | indexEvent identity =>
    exact next_lights h (State.onPhoto_lights (Photo.indexEvent_lights identity.isLt) fun law =>
      Photo.indexEvent_lawful (p := State.photo _ _) law _)
  | flashConfirm =>
    exact next_lights h (State.onPhoto_lights Photo.confirm_lights fun law =>
      Photo.confirm_lawful (p := State.photo _ _) law)
  | coverOpens => exact execCoverOpens_drives h
  | coverCloses => exact execCoverCloses_drives h
  | filmArrival | filmMoveTimeout | cutterDone | cutterTimeout => exact next_lights h (State.filmEvent_lights _ _)
  | cassetteRemoved => exact execCassetteRemoved_drives h
  | cassetteInserted => exact execCassetteInserted_drives h
  | selectInactive => exact execSelectInactive_drives h
  | selectActive => exact execSelectActive_drives h
  | busyInactive => exact next_lights h (State.onPhoto_lights_of_apart Photo.notBusy_apart)
  | busyTimeout => exact next_lights h (State.onPhoto_lights_of_apart Photo.busyExpires_apart)
  | ack => exact next_lights h (State.onPhoto_lights_of_apart Photo.accept_apart)
  | ackTimeout => exact next_lights h (State.onPhoto_lights_of_apart Photo.ackExpires_apart)
  | clearToSend => exact next_apart h (State.setClearToSend_apart _ _)
  | replyRecordSent => exact next_apart h (State.recordSent_apart _)
  | syncAnswer => exact next_apart h State.answerWaiting_apart
  | serviceSwitchChange => exact next_apart h ⟨rfl, rfl⟩

theorem step_drives (h : step s = .next t) : s.Drives t := by
  rcases step_cases h with rfl | ⟨c, rest, -, run⟩
  · exact State.Apart.drives .refl
  · have drives := exec_drives run
    exact ⟨fun reset law => drives.law (withQueue_resetLaw reset rest) law, drives.lamp, drives.window⟩

end Whole

/-- Settles O57: the empty queue leaves the state as it is, and every command keeps both laws. -/
theorem everyStepKeepsTheImagerLaws : Obligations.EveryStepKeepsTheImagerLaws := by
  unfold Obligations.EveryStepKeepsTheImagerLaws
  intro s t h
  exact ⟨(step_drives h).law, (step_drives h).lamp⟩

/-- Settles O60: a window is opened by a sector event's firing alone, and one that a sector event finds open it
closes first. -/
theorem firingsKeepTheBudget : Obligations.FiringsKeepTheBudget := by
  unfold Obligations.FiringsKeepTheBudget
  intro s t lamp h opened before
  rcases before with closed | ⟨turning, n, busy, rest, queue⟩
  · rcases (step_drives h).window lamp opened with was | budget
    · rw [closed] at was
      cases was
    · exact budget
  · simp only [step, queue] at h
    have run : (s.withQueue rest).onPhoto busy (·.sectorEvent n.toNat) = t := Host.Outcome.next.inj h
    subst run
    exact State.sectorEvent_budget (s := s.withQueue rest) busy n.toNat lamp turning opened

end Sys2Proof.Machine
end

section
/-! PROOFS. The photo unit's operations in the words of the statements: a fault that halts the Imager (`HaltsWith`), a
glyph begun (`GlyphBegins`), a line completed or sent home (`CompletesLine`, `GoesHome`), and a cut gone on with
(`CutGoesOn`). -/

namespace Sys2Proof.Machine

open Sys2Proof Sys2Proof.Safety

/-! ### The step in the whole part -/

/-- A state that shows a photo unit's side, what that side has no part in being as it was. -/
structure State.Follows (t s : State) (q : Photo) : Prop extends t.Shows q where
  pins : t.pins = s.pins
  composer : t.composer = s.composer
  tables : t.tables = s.tables
  dict : t.dict = s.dict
  formats : t.formats = s.formats

theorem State.onPhoto_follows (s : State) (busy : Bool) (f : Photo → Photo) :
    (s.onPhoto busy f).Follows s (f (s.photo busy)) := by
  have shows := s.onPhoto_shows (busy := busy) f
  obtain ⟨intake, reply, looked, -⟩ := (s.withPhoto (f (s.photo busy))).retrySync_frame
  refine ⟨shows, ?_, ?_, ?_, ?_, ?_⟩ <;> (unfold State.onPhoto; rw [looked]; rfl)

/-- A step of the photo unit's side by what its operation comes to. -/
theorem answers_of_follows {s : State} {busy : Bool} {f : Photo → Photo} {q : Photo} (comes : f (s.photo busy) = q)
    {cond : State → Prop} (holds : ∀ t : State, t.Follows s q → cond t) :
    AnswersWith (.next (s.onPhoto busy f)) cond :=
  ⟨_, rfl, holds _ (comes ▸ s.onPhoto_follows busy f)⟩

/-- An operation that leaves the held item and the markers alone is the step by itself. -/
theorem answers_of_exact {s : State} {busy : Bool} {f : Photo → Photo} {q : Photo} (law : HeldSyncLaw s)
    (comes : f (s.photo busy) = q) (held : q.reply.held = s.reply.held) (markers : q.reply.markers = s.reply.markers)
    {cond : State → Prop} (holds : cond (s.withPhoto q)) : AnswersWith (.next (s.onPhoto busy f)) cond :=
  ⟨_, congrArg Host.Outcome.next (onPhoto_eq law comes held markers), holds⟩

theorem next_of_exact {s : State} {busy : Bool} {f : Photo → Photo} {q : Photo} (law : HeldSyncLaw s)
    (comes : f (s.photo busy) = q) (held : q.reply.held = s.reply.held) (markers : q.reply.markers = s.reply.markers) :
    (.next (s.onPhoto busy f) : StepResult) = .next (s.withPhoto q) :=
  congrArg Host.Outcome.next (onPhoto_eq law comes held markers)

/-! ### A fault (R148) -/

/-- An index past the eight slots names none. -/
theorem slot_of_large (st : Store) {i : Nat} (large : ¬i < 8) : st.slot i = ⟨.free, .blank⟩ := by
  simp [Store.slot, tabGet, large]

theorem Film.abandon_held (y : Film) : y.abandon.held = none := by
  unfold Film.abandon
  dsimp only
  cases y.transport with
  | filmOut => dsimp only; split <;> rfl
  | ready | moving | cutAdvance | cutStroke | noCassette | fault => rfl

section Photo

variable {p q : Photo} {pr : Progress} {e : Event}

/-- The decision on a slot leaves it FREE or awaiting proof. -/
theorem Photo.decideProof_slot {i : Nat} : ((p.decideProof i).store.slot i).state ≠ .imaging := by
  have released : ((p.store.release i).slot i).state ≠ .imaging := by
    rw [show (p.store.release i).slot i = (p.store.putSlot i ⟨.free, .blank⟩).slot i from rfl, slot_putSlot]
    by_cases small : i < 8
    · simp [small]
    · simp [small, slot_of_large p.store small]
  have awaits : ((p.store.await i).slot i).state ≠ .imaging := by
    rw [show (p.store.await i).slot i = (p.store.putSlot i ⟨.setAwaiting, p.store.record i⟩).slot i from rfl,
      slot_putSlot]
    by_cases small : i < 8
    · simp [small]
    · simp [small, slot_of_large p.store small]
  unfold Photo.decideProof
  split
  · split
    · exact released
    · split
      · exact released
      · split
        · exact released
        · exact awaits
  · exact released

/-- The imaging end of a line settles its slot. -/
theorem Photo.imagingEnd_slot (line : p.imager.line = some pr) (o : LineOutcome) (tag : Nat) :
    ((p.imagingEnd o tag).store.slot pr.slot).state ≠ .imaging := by
  unfold Photo.imagingEnd
  simp only [line]
  exact Photo.decideProof_slot

/-- `q` comes of `p` by a fault with event `e`: `HaltsWith` on the photo unit's side. -/
structure Photo.Faults (e : Event) (spent : List ImagerTimer) (p q : Photo) : Prop where
  imager : q.imager = { p.imager with
    state := .halted, returnState := none, disc := .stopped, history := [], stamp := 0, recheck := false
    sectors := none, coverNote := p.pins.coverOpen, confirmWindow := false, carriageMove := none
    turretStep := none, ringSettling := false, turret := none, carriage := none, line := none
    cancelled := p.imager.running.filter fun timer => decide (timer ∉ spent) }
  posted : q.reply.pending.getLsbD e.num = true
  ends : ∀ pr, p.imager.line = some pr →
    q.log = (p.log.append (logRecord (p.store.record pr.slot) .fault p.imager.filmTag pr)).1 ∧
      (q.store.slot pr.slot).state ≠ .imaging ∧ q.film.held = none
  idle : p.imager.line = none → q.log = p.log ∧ q.store = p.store ∧ q.proof = p.proof

theorem haltsWith_of_faults {s t : State} {busy : Bool} {spent : List ImagerTimer}
    (faults : (s.photo busy).Faults e spent q) (follows : t.Follows s q) : HaltsWith e spent s (.next t) := by
  obtain ⟨imager, posted, ends, idle⟩ := faults
  obtain ⟨⟨store, imager', film, proof, log, pending⟩, pins, composer, tables, dict, formats⟩ := follows
  refine ⟨t, rfl, imager'.trans imager, pending ▸ posted, fun pr line => ?_, fun none => ?_, pins, composer, tables,
    dict, formats⟩
  · rw [log, store, film]; exact ends pr line
  · rw [log, store, proof]; exact idle none

/-- What is posted stays pending. -/
theorem getLsbD_postTo (set : Word24) (e : Event) : (postTo set e).getLsbD e.num = true := by
  have bit : e.bit.getLsbD e.num = true := by cases e <;> rfl
  rw [postTo, BitVec.getLsbD_or, bit, Bool.or_true]

theorem getLsbD_or_of_left {a b : Word24} {n : Nat} (h : a.getLsbD n = true) : (a ||| b).getLsbD n = true := by
  rw [BitVec.getLsbD_or, h, Bool.true_or]

/-- A fault that has been posted halts the Imager: `q` is `p` but for the events, the film, and motions of the Imager
that are over. -/
theorem Photo.faults_of_haltNow {spent : List ImagerTimer} (going : q.imager.state ≠ .halted)
    (imager : q.imager = { p.imager with turretStep := q.imager.turretStep, turret := q.imager.turret })
    (running : q.imager.running = p.imager.running.filter fun timer => decide (timer ∉ spent))
    (posted : q.reply.pending.getLsbD e.num = true)
    (store : q.store = p.store) (log : q.log = p.log) (proof : q.proof = p.proof) (pins : q.pins = p.pins) :
    p.Faults e spent q.haltNow := by
  have line : q.imager.line = p.imager.line := by rw [imager]
  have tag : q.imager.filmTag = p.imager.filmTag := by rw [imager]
  have halts : q.haltNow = q.abandonLine.withImager (q.abandonLine.imager.halted q.abandonLine.pins.coverOpen) :=
    if_neg going
  have halted (l : Option Progress) (none : l = none) :
      Imager.halted { q.imager with line := l } q.pins.coverOpen = { p.imager with
        state := .halted, returnState := Option.none, disc := .stopped, history := [], stamp := 0, recheck := false
        sectors := Option.none, coverNote := p.pins.coverOpen, confirmWindow := false, carriageMove := Option.none
        turretStep := Option.none, ringSettling := false, turret := Option.none, carriage := Option.none
        line := Option.none, cancelled := p.imager.running.filter fun timer => decide (timer ∉ spent) } := by
    subst none
    rw [← running, ← pins]
    rw [imager]
    rfl
  rw [halts]
  cases inHand : q.imager.line with
  | none =>
    have left : q.abandonLine = q := if_neg (by simp [inHand])
    rw [left]
    refine ⟨?_, posted, fun pr some => ?_, fun _ => ⟨log, store, proof⟩⟩
    · exact (congrArg (Imager.halted · q.pins.coverOpen)
        (show q.imager = { q.imager with line := q.imager.line } from rfl)).trans (halted _ inHand)
    · rw [← line, inHand] at some
      cases some
  | some pr =>
    let u : Photo := { q with film := q.film.abandon }
    have left : q.abandonLine = u.imagingEnd .fault q.imager.filmTag := if_pos (by simp [inHand])
    obtain ⟨st, x, reply, ended⟩ := Photo.imagingEnd_frame u .fault q.imager.filmTag pr inHand
    obtain ⟨set, kept⟩ := Photo.imagingEnd_pending (p := u) .fault q.imager.filmTag
    rw [left]
    refine ⟨?_, ?_, fun pr' some => ?_, fun none => ?_⟩
    · rw [ended]
      exact halted none rfl
    · change (u.imagingEnd .fault q.imager.filmTag).reply.pending.getLsbD e.num = true
      rw [kept]
      exact getLsbD_or_of_left posted
    · rw [← line, inHand] at some
      cases some
      refine ⟨?_, Photo.imagingEnd_slot (p := u) inHand _ _, ?_⟩
      · rw [ended, ← log, ← store, ← tag]
        rfl
      · rw [ended]
        exact Film.abandon_held _
    · rw [← line, inHand] at none
      cases none

theorem Imager.running_without_spent (x : Imager) :
    x.running = x.running.filter fun timer => decide (timer ∉ ([] : List ImagerTimer)) := by
  simp

/-- A fault of the Imager with nothing over (R148). -/
theorem Photo.faults_of_halt (going : p.imager.state ≠ .halted) (e : Event) : p.Faults e [] (p.halt e) :=
  Photo.faults_of_haltNow (p := p) (q := p.post e) going rfl p.imager.running_without_spent
    (getLsbD_postTo _ e) rfl rfl rfl rfl

/-- The timer whose expiry is the fault is done with. -/
theorem Photo.Faults.spend (h : p.Faults e [] q) (timer : ImagerTimer) : p.Faults e [timer] (q.spend timer) := by
  obtain ⟨imager, posted, ends, idle⟩ := h
  refine ⟨?_, posted, ends, idle⟩
  have spent : q.imager.cancelled.filter (· != timer) =
      p.imager.running.filter fun other => decide (other ∉ [timer]) := by
    rw [imager, List.filter_filter]
    refine List.filter_congr fun other _ => ?_
    rw [Bool.eq_iff_iff]
    simp
  unfold Photo.spend
  rw [spent, imager]
  rfl

/-! ### A glyph begun (R133, R135 to R137) -/

/-- A glyph's positioning: ring, turret and carriage set going, each unless it moves or is there already. -/
theorem Imager.position_eq (x : Imager) (g : Glyph) : x.position g = { x with
    ring := g.ring
    ringSettling := x.ringSettling || decide (x.ring ≠ g.ring)
    turretStep := if x.turretStep = none then x.turret.bind (turretWay · g.lens) else x.turretStep
    carriageMove :=
      if x.carriageMove = none then (if x.carriage = some g.x then none else some g.x) else x.carriageMove } := by
  have ring : x.selectRing g.ring =
      { x with ring := g.ring, ringSettling := x.ringSettling || decide (x.ring ≠ g.ring) } := by
    unfold Imager.selectRing
    split
    · next same => rw [← same]; simp
    · next other => simp [other]
  have turret (y : Imager) : y.driveTurret g.lens = { y with
      turretStep := if y.turretStep = none then y.turret.bind (turretWay · g.lens) else y.turretStep } := by
    unfold Imager.driveTurret
    split
    · next step at' => simp [step, at']
    · next other =>
      have kept : (if y.turretStep = none then y.turret.bind (turretWay · g.lens) else y.turretStep) =
          y.turretStep := by
        cases step : y.turretStep with
        | some way => exact if_neg nofun
        | none =>
          cases at' : y.turret with
          | some position => exact (other position step at').elim
          | none => rfl
      rw [kept]
  have carriage (y : Imager) : y.driveCarriage g.x = { y with
      carriageMove :=
        if y.carriageMove = none then (if y.carriage = some g.x then none else some g.x) else y.carriageMove } := by
    unfold Imager.driveCarriage
    cases move : y.carriageMove with
    | some target => rw [if_pos (.inl rfl), if_neg nofun, ← move]
    | none =>
      by_cases there : y.carriage = some g.x
      · rw [if_pos (.inr there), if_pos rfl, if_pos there, ← move]
      · rw [if_neg (by simp [there]), if_pos rfl, if_neg there]
  unfold Imager.position
  rw [carriage, turret, ring]

/-- A glyph begun leaves the held item and the markers alone. -/
theorem Photo.startGlyph_kept (p : Photo) (pr : Progress) :
    (p.startGlyph pr).reply.held = p.reply.held ∧ (p.startGlyph pr).reply.markers = p.reply.markers := by
  unfold Photo.startGlyph
  split
  · exact ⟨rfl, rfl⟩
  · split
    · exact ⟨rfl, rfl⟩
    · unfold Photo.waitMount ReplyUnit.mount
      dsimp only [Photo.withReply_reply]
      split
      · exact ⟨ReplyUnit.append_held _ _ _, ReplyUnit.append_markers _ _ _⟩
      · exact ⟨rfl, rfl⟩

theorem Photo.startGlyph_of_mounted {g : Glyph} (current : p.currentGlyph pr = some g)
    (mounted : g.disc = p.imager.mounted) :
    p.startGlyph pr = (p.withImager (p.imager.position g)).withLine { pr with positioning := true } := by
  simp only [Photo.startGlyph, current, if_pos mounted]

theorem Photo.startGlyph_of_other {g : Glyph} (current : p.currentGlyph pr = some g)
    (other : g.disc ≠ p.imager.mounted) : p.startGlyph pr = p.waitMount pr g.disc := by
  simp only [Photo.startGlyph, current, if_neg other]

/-- A MOUNT reply joins the queue where it has room (R133, R185). -/
theorem ReplyUnit.mount_queue (u : ReplyUnit) (cts : Bool) (disc line : Nat) :
    (u.mount cts disc line).queue = u.queue ++ if u.queue.length < 8 then [.mount disc line] else [] := by
  unfold ReplyUnit.mount ReplyUnit.room Config.replyQueue
  by_cases room : u.queue.length < 8
  · rw [if_pos (decide_eq_true room), if_pos room, ReplyUnit.append_queue]
  · rw [if_neg (by simpa using room), if_neg room, List.append_nil]

/-- A glyph begun on a line in SETTING, as the statements say it. -/
theorem glyphBegins_of_startGlyph {s t : State} {x : Imager} {g : Glyph} {note : Word24} {l : Option Progress}
    (state : x.state = .setting) (imager : p.imager = { x with line := l }) (current : p.currentGlyph pr = some g)
    (number : (p.store.record pr.slot).number = (s.store.record pr.slot).number)
    (reply : p.reply = { s.reply with pending := s.reply.pending ||| note })
    (imager' : t.imager = (p.startGlyph pr).imager) (reply' : t.reply = (p.startGlyph pr).reply) :
    GlyphBegins s x pr g note t := by
  have mounted : p.imager.mounted = x.mounted := by rw [imager]
  refine ⟨fun same => ?_, fun other => ?_⟩
  · rw [imager', reply', Photo.startGlyph_of_mounted current (same.trans mounted.symm), Imager.position_eq, imager,
      ← state]
    exact ⟨rfl, reply⟩
  · have waits := Photo.startGlyph_of_other current (fun same => other (same.trans mounted))
    rw [imager', reply', waits]
    refine ⟨?_, ?_, ?_⟩
    · unfold Photo.waitMount
      rw [Photo.withReply_imager, Photo.post_imager, Photo.withLine_imager, Photo.enter_imager, imager]
    · unfold Photo.waitMount
      rw [Photo.withReply_reply, ReplyUnit.mount_pending, Photo.post_reply, Photo.withLine_reply, Photo.enter_reply,
        reply]
      rfl
    · unfold Photo.waitMount
      rw [Photo.withReply_reply, ReplyUnit.mount_queue, Photo.post_reply, Photo.withLine_reply, Photo.enter_reply,
        Photo.post_store, Photo.withLine_store, Photo.enter_store, reply, number]

/-! ### A line completed, or sent home (R117, R143) -/

theorem completesLine_of_shows {s t : State} {x : Imager} {r : LineRecord}
    (imager : p.imager = { x with line := some pr }) (log : p.log = s.log) (record : p.store.record pr.slot = r)
    (shows : t.Shows p.completeLine) : CompletesLine s x pr r t := by
  have line : p.imager.line = some pr := by rw [imager]
  obtain ⟨st, y, reply, completed⟩ := Photo.completeLine_frame line
  rw [completed] at shows
  refine ⟨shows.imager.trans ?_, shows.log.trans ?_⟩
  · rw [imager]
  · rw [log, record, imager]
    rfl

/-- The carriage is away from a target, or stands there. -/
theorem Imager.carriageAt_false_iff (x : Imager) (target : Nat) :
    x.carriageAt target = false ↔ ¬(x.carriageMove = none ∧ x.carriage = some target) := by
  rw [← x.carriageAt_iff, Bool.not_eq_true]

/-- The return phase is over with the carriage at 0, or with no glyph to return from. -/
theorem Photo.goHome_of_home (home : (p.store.record pr.slot).glyphs = [] ∨ p.imager.carriageAt 0 = true) :
    p.goHome pr = p.completeLine :=
  if_pos (by simpa using home)

theorem Photo.goHome_of_away (glyphs : (p.store.record pr.slot).glyphs ≠ []) (away : p.imager.carriageAt 0 = false) :
    p.goHome pr = p.withImager { p.imager with carriageMove := some (p.imager.carriageMove.getD 0) } := by
  unfold Photo.goHome
  rw [if_neg (by simp [glyphs, away]), Imager.driveCarriage_of_away away]

theorem goesHome_of_shows {s t : State} {x : Imager} {r : LineRecord}
    (imager : p.imager = { x with line := some { pr with phase := .back } }) (log : p.log = s.log)
    (record : p.store.record pr.slot = r) (glyphs : r.glyphs ≠ [])
    (shows : t.Shows (p.goHome { pr with phase := .back })) : GoesHome s x pr r t := by
  refine ⟨fun home => ?_, fun away => ?_⟩
  · have there : p.imager.carriageAt 0 = true := (p.imager.carriageAt_iff 0).mpr (by rw [imager]; exact home)
    rw [Photo.goHome_of_home (.inr there)] at shows
    exact completesLine_of_shows (pr := { pr with phase := .back }) imager log record shows
  · have there : p.imager.carriageAt 0 = false := (p.imager.carriageAt_false_iff 0).mpr (by rw [imager]; exact away)
    rw [Photo.goHome_of_away (pr := { pr with phase := .back }) (record ▸ glyphs) there] at shows
    exact ⟨shows.log.trans log, shows.imager.trans (by rw [Photo.withImager_imager, imager])⟩

/-! ### A cut gone on with (R144, R156) -/

/-- Film Transport's answer applied where no clamp flags the line. -/
theorem Photo.applyFilm_unclamped (y : Film) (events : List Event) (report : Option Report) :
    p.applyFilm ⟨y, events, false, report⟩ =
      { p with film := y, reply := { p.reply with pending := events.foldl postTo p.reply.pending } } :=
  foldl_post events { p with film := y }

/-- The cut asked for with the carriage at 0, and no fault answered. -/
theorem Photo.pursueCut_of_home (done : pr.cutDone = false) (asked : pr.cutAsked = false)
    (home : p.imager.carriageAt 0 = true) {y : Film} {events : List Event}
    (answer : p.film.ask .cut = ⟨y, events, false, none⟩) :
    p.pursueCut pr = { p with
      film := y
      imager := { p.imager with line := some { pr with cutAsked := true } }
      reply := { p.reply with pending := events.foldl postTo p.reply.pending } } := by
  unfold Photo.pursueCut
  rw [if_neg (by simp [done]), if_neg (by simp [asked]), if_pos home, answer]
  exact Photo.applyFilm_unclamped (p := p.withLine { pr with cutAsked := true }) y events none

theorem Photo.pursueCut_of_away (done : pr.cutDone = false) (asked : pr.cutAsked = false)
    (away : p.imager.carriageAt 0 = false) :
    p.pursueCut pr = p.withImager { p.imager with carriageMove := some (p.imager.carriageMove.getD 0) } := by
  unfold Photo.pursueCut
  rw [if_neg (by simp [done]), if_neg (by simp [asked]), if_neg (by simp [away]), Imager.driveCarriage_of_away away]

/-- FILM FAULT answered to the cut: it is posted, and the Imager halts. -/
theorem Photo.pursueCut_of_fault (done : pr.cutDone = false) (asked : pr.cutAsked = false)
    (home : p.imager.carriageAt 0 = true) (fault : p.film.transport = .fault) :
    p.pursueCut pr = ((p.withLine { pr with cutAsked := true }).post .filmFault).haltNow := by
  unfold Photo.pursueCut
  rw [if_neg (by simp [done]), if_neg (by simp [asked]), if_pos home, Film.ask_of_fault fault]
  rfl

theorem Photo.pursueCut_of_done (done : pr.cutDone = true) : p.pursueCut pr = p.completeLine := if_pos done

theorem Photo.pursueCut_of_asked (done : pr.cutDone = false) (asked : pr.cutAsked = true) : p.pursueCut pr = p := by
  unfold Photo.pursueCut
  rw [if_neg (by simp [done]), if_pos asked]

/-- A CUT record in SETTING goes on with its cut, as the statements say it. -/
theorem cutGoesOn_of_pursueCut {s t : State} {x : Imager} {y : Film} {note : Word24} (state : x.state = .setting)
    (done : pr.cutDone = false) (asked : pr.cutAsked = false)
    (imager : p.imager = { x with line := some { pr with phase := .cut } }) (film : p.film = y)
    (pending : p.reply.pending = s.reply.pending ||| note)
    (shows : t.Shows (p.pursueCut { pr with phase := .cut })) : CutGoesOn s x pr y note t := by
  subst film
  have at0 (home : x.carriageMove = none ∧ x.carriage = some 0) : p.imager.carriageAt 0 = true :=
    (p.imager.carriageAt_iff 0).mpr (by rw [imager]; exact home)
  have answered (home : x.carriageMove = none ∧ x.carriage = some 0) {z : Film} {events : List Event}
      (answer : p.film.ask .cut = ⟨z, events, false, none⟩) :
      t.imager = { x with line := some { pr with phase := .cut, cutAsked := true } } ∧
        t.reply.pending = events.foldl postTo (s.reply.pending ||| note) ∧ t.film = z := by
    rw [Photo.pursueCut_of_home (pr := { pr with phase := .cut }) done asked (at0 home) answer] at shows
    exact ⟨shows.imager.trans (by rw [imager]), shows.pending.trans (by rw [pending]), shows.film⟩
  refine ⟨fun away => ?_, fun home ready enough => ?_, fun home ready short => ?_, fun home out => ?_,
    fun home moves => ?_, fun home fault => ?_⟩
  · have off : p.imager.carriageAt 0 = false := (p.imager.carriageAt_false_iff 0).mpr (by rw [imager]; exact away)
    rw [Photo.pursueCut_of_away (pr := { pr with phase := .cut }) done asked off] at shows
    exact ⟨shows.film, shows.pending.trans pending,
      shows.imager.trans (by rw [Photo.withImager_imager, imager])⟩
  · exact answered home (Film.ask_cut_of_enough ready enough)
  · exact answered home (Film.ask_cut_of_short ready short)
  · exact answered home (Film.ask_of_out out .cut)
  · exact answered home (Film.ask_of_motion moves .cut)
  · rw [Photo.pursueCut_of_fault (pr := { pr with phase := .cut }) done asked (at0 home) fault] at shows
    have going : ((p.withLine { { pr with phase := .cut } with cutAsked := true }).post .filmFault).imager.state ≠
        .halted := by simp [imager, state]
    obtain ⟨halted, gone, -, set, kept⟩ := Photo.haltNow_of_line rfl going
    refine ⟨shows.imager ▸ halted, shows.imager ▸ gone, ?_⟩
    rw [shows.pending, kept]
    exact getLsbD_or_of_left (getLsbD_postTo _ .filmFault)

end Photo

end Sys2Proof.Machine
end

section
/-! PROOFS. Motions, timers and the flash confirm (`TurretAndRingMotions`, `CarriageArrives`,
`PhotoUnitTimersHaltTheImager`, `FlashConfirmExposesTheGlyph`). -/

namespace Sys2Proof.Machine

open Sys2Proof Sys2Proof.Safety

/-- A step of the photo unit's side that leaves the held item and the markers alone. -/
theorem exec_of_comes {c : Instr} {s t : State} {busy : Bool} {f : Photo → Photo} {q : Photo}
    (run : exec c s = .next (s.onPhoto busy f)) (law : HeldSyncLaw s) (comes : f (s.photo busy) = q)
    (held : q.reply.held = s.reply.held) (markers : q.reply.markers = s.reply.markers) (is : s.withPhoto q = t) :
    exec c s = .next t :=
  run.trans ((next_of_exact law comes held markers).trans (congrArg Host.Outcome.next is))

theorem ReplyUnit.noted_zero (u : ReplyUnit) : { u with pending := u.pending ||| 0 } = u := by
  simp

/-! ### Motions of a glyph in hand (R135 to R137) -/

/-- A turret at a glyph's lens has no way to go. -/
theorem turretWay_self (lens : Nat) : turretWay lens lens = none := by
  unfold turretWay
  rw [show (lens + 12 - lens) % 12 = 0 by omega]
  rfl

/-- A glyph gone on with, its ring selected already: the turret and the carriage alone are driven. -/
theorem Imager.position_of_ring {x : Imager} {g : Glyph} (ring : x.ring = g.ring) : x.position g = { x with
    turretStep := if x.turretStep = none then x.turret.bind (turretWay · g.lens) else x.turretStep
    carriageMove :=
      if x.carriageMove = none then (if x.carriage = some g.x then none else some g.x) else x.carriageMove } := by
  rw [Imager.position_eq, ← ring]
  simp

/-- HOMING, suspended or not. -/
theorem Imager.isHoming_iff (x : Imager) :
    x.isHoming = true ↔ x.state = .homing ∨ x.state = .suspended ∧ x.returnState = some .homing := by
  simp [Imager.isHoming]

section Photo

variable {p : Photo} {pr : Progress}

/-- HOMING is over once the turret is at its detent and the carriage at 0 (R126). -/
theorem Imager.homed_of_homing {x : Imager} (state : x.state = .homing) : x.homed = { x with
    state := if x.carriageMove = none ∧ x.carriage = some 0 ∧ x.turretStep = none ∧ x.turret = some 0 then .standby
      else .homing } := by
  unfold Imager.homed
  simp only [state, Imager.carriageAt_iff, true_and, and_assoc]
  split
  · rfl
  · rw [← state]

/-- A line in SETTING with a glyph to set begins it, or goes on with it. -/
theorem Photo.pursue_of_glyph (line : p.imager.line = some pr) (phase : pr.phase = .film ∨ pr.phase = .glyph) :
    p.pursue = p.startGlyph pr := by
  unfold Photo.pursue
  rcases phase with e | e <;> simp only [line, e]

theorem Photo.pursue_of_back (line : p.imager.line = some pr) (phase : pr.phase = .back) :
    p.pursue = p.goHome pr := by
  simp only [Photo.pursue, line, phase]

theorem Photo.pursue_of_cut (line : p.imager.line = some pr) (phase : pr.phase = .cut) :
    p.pursue = p.pursueCut pr := by
  simp only [Photo.pursue, line, phase]

/-- The glyph in hand gone on with as one of its motions ends. -/
theorem Photo.pursue_of_positioning (line : p.imager.line = some pr)
    (phase : pr.phase = .film ∨ pr.phase = .glyph) (positioning : pr.positioning = true) {g : Glyph}
    (current : p.currentGlyph pr = some g) (mounted : g.disc = p.imager.mounted) (ring : p.imager.ring = g.ring) :
    p.pursue = p.withImager { p.imager with
      turretStep :=
        if p.imager.turretStep = none then p.imager.turret.bind (turretWay · g.lens) else p.imager.turretStep
      carriageMove :=
        if p.imager.carriageMove = none then (if p.imager.carriage = some g.x then none else some g.x)
        else p.imager.carriageMove } := by
  have same : some { pr with positioning := true } = p.imager.line := by
    rw [line, ← positioning]
  rw [Photo.pursue_of_glyph line phase, Photo.startGlyph_of_mounted current mounted, Imager.position_of_ring ring]
  unfold Photo.withLine
  rw [same]
  rfl

/-! ### The turret (R126, R136) -/

theorem Photo.turretSteps_of_still (still : p.imager.turretStep = none) (detent : Bool) : p.turretSteps detent = p := by
  simp only [Photo.turretSteps, still]

theorem Photo.turretSteps_of_homing {way : Direction} (step : p.imager.turretStep = some way)
    (homing : p.imager.isHoming = true) (detent : Bool) : p.turretSteps detent = p.homingStep detent := by
  simp only [Photo.turretSteps, step, if_pos homing]

theorem Photo.turretSteps_of_glyph {way : Direction} {position : Nat} (step : p.imager.turretStep = some way)
    (other : ¬p.imager.isHoming = true) (at' : p.imager.turret = some position) (detent : Bool) :
    p.turretSteps detent = p.glyphStep position way detent := by
  simp only [Photo.turretSteps, step, if_neg other, at']

/-- The timers that run once the turret step is over. -/
theorem Imager.running_of_stepped (x : Imager) (turret : Option Nat) :
    Imager.running { x with turretStep := none, turret := turret } =
      x.running.filter fun timer => decide (timer ∉ [ImagerTimer.turret]) := by
  unfold Imager.running
  rw [List.filter_filter]
  refine List.filter_congr fun timer _ => ?_
  cases timer <;> simp [Imager.runs]

/-- TURRET FAULT, the step in flight being over. -/
theorem Photo.faults_of_stepped (going : p.imager.state ≠ .halted) (turret : Option Nat) :
    p.Faults .turretFault [.turret]
      ((p.withImager { p.imager with turretStep := none, turret := turret }).halt .turretFault) :=
  Photo.faults_of_haltNow (p := p)
    (q := (p.withImager { p.imager with turretStep := none, turret := turret }).post .turretFault) going rfl
    (p.imager.running_of_stepped turret) (getLsbD_postTo _ .turretFault) rfl rfl rfl rfl

theorem Photo.homingStep_of_detent (state : p.imager.state = .homing) : p.homingStep true = p.withImager { p.imager with
    turretStep := none
    turret := some 0
    state := if p.imager.carriageMove = none ∧ p.imager.carriage = some 0 then .standby else .homing } := by
  have homed := Imager.homed_of_homing (x := { p.imager with turretStep := none, turret := some 0 }) state
  simp only [and_true] at homed
  exact congrArg p.withImager homed

/-- A step of HOMING without the detent: another, or TURRET FAULT after 11 (R126). -/
theorem Photo.homingStep_of_few (state : p.imager.state = .homing) (few : p.imager.homingSteps < 11) :
    p.homingStep false = p.withImager { p.imager with
      turretStep := some .ascending, homingSteps := p.imager.homingSteps + 1 } := by
  have enough : ¬Config.homingSteps ≤ p.imager.homingSteps := Nat.not_le.mpr few
  unfold Photo.homingStep
  extract_lets x
  rw [if_neg nofun, if_neg enough, if_pos (show x.state = .homing from state)]

theorem Photo.homingStep_of_many (many : 11 ≤ p.imager.homingSteps) :
    p.homingStep false = (p.withImager { p.imager with turretStep := none }).halt .turretFault := by
  have enough : Config.homingSteps ≤ p.imager.homingSteps := many
  unfold Photo.homingStep
  extract_lets x
  rw [if_neg nofun, if_pos enough]

theorem Photo.glyphStep_of_wrong {position : Nat} {way : Direction} {detent : Bool}
    (wrong : detent ≠ decide (turretNext position way = 0)) :
    p.glyphStep position way detent = (p.withImager { p.imager with
      turretStep := none, turret := some (turretNext position way) }).halt .turretFault :=
  if_pos wrong

/-- A turret step that nothing waits for. -/
theorem Photo.glyphStep_of_idle {position : Nat} {way : Direction}
    (idle : p.imager.line = none ∨ p.imager.state ≠ .setting) :
    p.glyphStep position way (decide (turretNext position way = 0)) = p.withImager { p.imager with
      turretStep := none, turret := some (turretNext position way) } := by
  unfold Photo.glyphStep
  extract_lets next _ q
  rw [if_neg (by simp [next])]
  split
  · rfl
  · next pr line =>
    have line : p.imager.line = some pr := line
    have other : p.imager.state ≠ .setting := idle.resolve_left (by simp [line])
    exact if_neg fun due => other due.1

theorem Photo.glyphStep_of_due {position : Nat} {way : Direction} (line : p.imager.line = some pr)
    (state : p.imager.state = .setting) (positioning : pr.positioning = true) :
    p.glyphStep position way (decide (turretNext position way = 0)) = (p.withImager { p.imager with
      turretStep := none, turret := some (turretNext position way) }).pursue := by
  unfold Photo.glyphStep
  extract_lets next _ q
  rw [if_neg (by simp [next])]
  simp only [show q.imager.line = some pr from line]
  exact if_pos ⟨state, positioning⟩

end Photo

/-- Settles O44: the step in flight, if there is one, is HOMING's or a glyph's. -/
theorem turretAndRingMotions : Obligations.TurretAndRingMotions := by
  unfold Obligations.TurretAndRingMotions
  intro busy s law x
  let p := s.photo busy
  have run (detent : Bool) : exec (.turretStepDone detent busy) s = .next (s.onPhoto busy (·.turretSteps detent)) := rfl
  refine ⟨fun still detent => ?_, exec_of_comes (busy := false) (f := Photo.ringSettles) rfl law rfl rfl rfl rfl,
    fun way step state => ?_, fun way position step at' away notAway going => ?_⟩
  · exact congrArg Host.Outcome.next (onPhoto_idle law (Photo.turretSteps_of_still still detent))
  · have state : p.imager.state = .homing := state
    have homing : p.imager.isHoming = true := p.imager.isHoming_iff.mpr (.inl state)
    have steps := Photo.turretSteps_of_homing (p := p) step homing
    refine ⟨?_, fun few => ?_, fun many => ?_⟩
    · exact exec_of_comes (run true) law ((steps true).trans (Photo.homingStep_of_detent state)) rfl rfl rfl
    · exact exec_of_comes (run false) law ((steps false).trans (Photo.homingStep_of_few state few)) rfl rfl rfl
    · have faults := Photo.faults_of_stepped (p := p) (by simp [state]) x.turret
      rw [show p.withImager { p.imager with turretStep := none, turret := x.turret } =
        p.withImager { p.imager with turretStep := none } from rfl, ← Photo.homingStep_of_many many,
        ← steps false] at faults
      exact haltsWith_of_faults faults (s.onPhoto_follows busy (·.turretSteps false))
  · intro q
    have next : turretNext position way = q := by cases way <;> rfl
    have other : ¬p.imager.isHoming = true := fun homing => (p.imager.isHoming_iff.mp homing).elim away notAway
    have steps := Photo.turretSteps_of_glyph (p := p) step other at'
    rw [← next]
    refine ⟨fun detent wrong => ?_, fun idle => ?_, fun pr g current state positioning phase mounted ring there => ?_⟩
    · have faults := Photo.faults_of_stepped (p := p) going (some (turretNext position way))
      rw [← Photo.glyphStep_of_wrong wrong, ← steps detent] at faults
      exact haltsWith_of_faults faults (s.onPhoto_follows busy (·.turretSteps detent))
    · exact exec_of_comes (run _) law ((steps _).trans (Photo.glyphStep_of_idle idle)) rfl rfl rfl
    · obtain ⟨line, glyph⟩ := current
      let stepped : Photo := p.withImager { x with turretStep := none, turret := some (turretNext position way) }
      have due : p.glyphStep position way (decide (turretNext position way = 0)) = stepped.pursue :=
        Photo.glyphStep_of_due line state positioning
      rw [Photo.pursue_of_positioning (p := stepped) line phase positioning glyph mounted ring] at due
      have move : (if x.carriageMove = none then (if x.carriage = some g.x then none else some g.x)
          else x.carriageMove) = x.carriageMove := by
        rcases there with moving | there
        · rw [if_neg (by intro none; simp [none] at moving)]
        · rw [if_pos there]
          split
          · next none => exact none.symm
          · rfl
      refine exec_of_comes (run _) law ((steps _).trans due) rfl rfl
        (congrArg (fun y : Imager => { s with imager := y }) ?_)
      change { x with
        turretStep := turretWay (turretNext position way) g.lens
        turret := some (turretNext position way)
        carriageMove := if x.carriageMove = none then (if x.carriage = some g.x then none else some g.x)
          else x.carriageMove } = _
      rw [move]
      rfl

/-! ### The carriage (R126, R137, R143, R144) -/

theorem Progress.phase_self {pr : Progress} {phase : LinePhase} (at' : pr.phase = phase) :
    { pr with phase := phase } = pr := by
  rw [← at']

theorem Imager.line_self {x : Imager} {pr : Progress} (line : x.line = some pr) : { x with line := some pr } = x := by
  rw [← line]

/-- The Imager with the carriage come to a target. -/
def Imager.arrived (x : Imager) (target : Nat) : Imager := { x with carriage := some target, carriageMove := none }

section Photo

variable {p : Photo} {pr : Progress} {target : Nat}

theorem Photo.carriageArrives_of_still (still : p.imager.carriageMove = none) : p.carriageArrives = p := by
  simp only [Photo.carriageArrives, still]

theorem Photo.carriageArrives_of_homing (move : p.imager.carriageMove = some target)
    (state : p.imager.state = .homing) :
    p.carriageArrives = p.withImager { p.imager.arrived target with
      state := if target = 0 ∧ p.imager.turretStep = none ∧ p.imager.turret = some 0 then .standby else .homing } := by
  have homed := Imager.homed_of_homing (x := p.imager.arrived target) state
  unfold Photo.carriageArrives
  simp only [move]
  refine (if_pos (show (p.imager.arrived target).state = .homing from state)).trans
    (congrArg p.withImager (homed.trans ?_))
  simp only [Imager.arrived, Option.some.injEq, true_and]

/-- An arrival that nothing waits for. -/
theorem Photo.carriageArrives_of_recorded (move : p.imager.carriageMove = some target)
    (noHoming : p.imager.state ≠ .homing) (noSetting : p.imager.state ≠ .setting) :
    p.carriageArrives = p.withImager (p.imager.arrived target) := by
  unfold Photo.carriageArrives
  simp only [move]
  refine (if_neg noHoming).trans ?_
  split
  · rfl
  · exact if_neg fun due => noSetting due.1

theorem Photo.carriageArrives_of_due (move : p.imager.carriageMove = some target) (line : p.imager.line = some pr)
    (state : p.imager.state = .setting) (waits : pr.positioning = true ∨ pr.phase = .back ∨ pr.phase = .cut) :
    p.carriageArrives = (p.withImager (p.imager.arrived target)).pursue := by
  unfold Photo.carriageArrives
  simp only [move]
  refine (if_neg (show p.imager.state ≠ .homing by simp [state])).trans ?_
  simp only [Photo.withImager_imager, Imager.arrived, line]
  exact if_pos ⟨state, waits⟩

end Photo

/-- Settles O45: what waits for the arrival is HOMING, a glyph, a cut or the end of the line. -/
theorem carriageArrives : Obligations.CarriageArrives := by
  unfold Obligations.CarriageArrives
  intro busy s law x
  let p := s.photo busy
  have run : exec (.carriageArrival busy) s = .next (s.onPhoto busy Photo.carriageArrives) := rfl
  refine ⟨fun still => congrArg Host.Outcome.next (onPhoto_idle law (Photo.carriageArrives_of_still still)),
    fun target move => ?_⟩
  let arrived : Photo := p.withImager (x.arrived target)
  have due {pr : Progress} (line : x.line = some pr) (state : x.state = .setting)
      (waits : pr.positioning = true ∨ pr.phase = .back ∨ pr.phase = .cut) : p.carriageArrives = arrived.pursue :=
    Photo.carriageArrives_of_due (p := p) move line state waits
  refine ⟨fun state => ?_, fun noHoming noSetting => ?_,
    fun pr g current state positioning phase mounted ring there few => ?_,
    fun pr line state phase asked done => ?_, fun pr line state phase zero => ?_⟩
  · exact exec_of_comes run law (Photo.carriageArrives_of_homing (p := p) move state) rfl rfl rfl
  · exact exec_of_comes run law (Photo.carriageArrives_of_recorded (p := p) move noHoming noSetting) rfl rfl rfl
  · obtain ⟨line, glyph⟩ := current
    have comes := due line state (.inl positioning)
    rw [Photo.pursue_of_positioning (p := arrived) line phase positioning glyph mounted ring] at comes
    have step : (if x.turretStep = none then x.turret.bind (turretWay · g.lens) else x.turretStep) = x.turretStep := by
      rcases there with stepping | there
      · rw [if_neg (by intro none; simp [none] at stepping)]
      · split
        · next none => rw [there, none]; exact turretWay_self g.lens
        · rfl
    refine exec_of_comes run law comes rfl rfl (congrArg (fun y : Imager => { s with imager := y }) ?_)
    change { x with
      turretStep := if x.turretStep = none then x.turret.bind (turretWay · g.lens) else x.turretStep
      carriage := some target
      carriageMove := if some target = some g.x then none else some g.x } = _
    rw [step]
    simp only [Option.some.injEq]
  · refine answers_of_follows (due line state (.inr (.inr phase))) fun t follows => ?_
    refine cutGoesOn_of_pursueCut (p := arrived) state done asked ?_ rfl (BitVec.or_zero).symm ?_
    · rw [Progress.phase_self phase]
      exact (Imager.line_self (x := x.arrived target) line).symm
    · rw [Progress.phase_self phase, ← Photo.pursue_of_cut (p := arrived) line phase]
      exact follows.toShows
  · subst zero
    intro r
    have home : arrived.pursue = arrived.completeLine := by
      rw [Photo.pursue_of_back (p := arrived) line phase]
      exact Photo.goHome_of_home (.inr ((Imager.carriageAt_iff _ 0).mpr ⟨rfl, rfl⟩))
    refine answers_of_follows ((due line state (.inr (.inl phase))).trans home) fun t follows => ?_
    obtain ⟨st, y, reply, completed⟩ := Photo.completeLine_frame (p := arrived) line
    rw [completed] at follows
    exact ⟨follows.imager, follows.log, follows.film, follows.composer⟩

/-! ### The timers (R148) -/

/-- Settles O46: an expiry with its timer running, cancelled, or neither. -/
theorem photoUnitTimersHaltTheImager : Obligations.PhotoUnitTimersHaltTheImager := by
  unfold Obligations.PhotoUnitTimersHaltTheImager
  intro busy s law x expiry fault runs timer
  let p := s.photo busy
  have run : exec (expiry timer) s = .next (s.onPhoto busy (·.expire timer (fault timer))) := by
    cases timer <;> rfl
  have runs_iff : runs timer ↔ p.imager.runs timer = true := by
    change _ ↔ x.runs timer = true
    cases timer <;> simp [runs, Imager.runs, Option.isSome_iff_ne_none]
  rw [runs_iff]
  rcases Photo.expire_cases (p := p) timer (fault timer) with
    ⟨running, comes⟩ | ⟨still, halted, cancelled, comes⟩ | ⟨still, other, comes⟩
  · refine ⟨fun _ going => ?_, fun off => absurd running off, fun off => absurd running off⟩
    have faults := (Photo.faults_of_halt (p := p) going (fault timer)).spend timer
    rw [← comes] at faults
    rw [run]
    exact haltsWith_of_faults faults (s.onPhoto_follows busy _)
  · refine ⟨fun on => by simp [still] at on, fun _ _ _ => ?_, fun _ other => absurd ⟨halted, cancelled⟩ other⟩
    refine exec_of_comes run law comes rfl rfl ?_
    have spent : x.cancelled.filter (· != timer) = x.cancelled.filter fun other => decide (other ≠ timer) := by
      simp [bne, decide_not, beq_eq_decide]
    exact congrArg (fun l => posted (fault timer) { s with imager := { x with cancelled := l } }) spent
  · refine ⟨fun on => by simp [still] at on, fun _ halted cancelled => absurd ⟨halted, cancelled⟩ other, fun _ _ => ?_⟩
    exact run.trans (congrArg Host.Outcome.next (onPhoto_idle law comes))

/-! ### The flash confirm (R140, R143) -/

/-- The line at the glyph after the current one, or in its return phase after the last. -/
def Progress.next (pr : Progress) (r : LineRecord) : Progress :=
  { pr with
    glyph := pr.glyph + 1
    misfires := 0
    positioning := false
    phase := if pr.glyph + 1 < r.glyphs.length then pr.phase else .back }

section Photo

variable {p : Photo} {pr : Progress}

theorem Photo.nextGlyph_eq (p : Photo) (pr : Progress) :
    p.nextGlyph pr = (p.withLine (pr.next (p.store.record pr.slot))).pursueSetting := by
  unfold Photo.nextGlyph Photo.currentGlyph Progress.next
  by_cases more : pr.glyph + 1 < (p.store.record pr.slot).glyphs.length
  · simp [more]
  · simp [more]

theorem Photo.pursueSetting_of_setting (state : p.imager.state = .setting) : p.pursueSetting = p.pursue := if_pos state

theorem Photo.pursueSetting_of_other (other : p.imager.state ≠ .setting) : p.pursueSetting = p := if_neg other

theorem Photo.confirm_of_shut (shut : p.imager.confirmWindow = false) : p.confirm = p := by
  simp [Photo.confirm, shut]

theorem Photo.confirm_of_open (open' : p.imager.confirmWindow = true) (line : p.imager.line = some pr) :
    p.confirm = (p.withImager { p.imager with confirmWindow := false }).nextGlyph
      { pr with exposed := pr.exposed + 1 } := by
  unfold Photo.confirm
  simp only [open', if_true, Photo.withImager_imager, line]

end Photo

/-- Settles O49: a confirm in an open window goes on to the next glyph, or to the return phase. -/
theorem flashConfirmExposesTheGlyph : Obligations.FlashConfirmExposesTheGlyph := by
  unfold Obligations.FlashConfirmExposesTheGlyph
  intro busy s law x
  let p := s.photo busy
  have run : exec (.flashConfirm busy) s = .next (s.onPhoto busy Photo.confirm) := rfl
  refine ⟨fun shut => congrArg Host.Outcome.next (onPhoto_idle law (Photo.confirm_of_shut shut)),
    fun pr line open' => ?_⟩
  intro r next
  let went : Progress := { next with phase := if pr.glyph + 1 < r.glyphs.length then pr.phase else .back }
  let closed : Photo := p.withImager { x with confirmWindow := false, line := some went }
  have comes : p.confirm = closed.pursueSetting :=
    (Photo.confirm_of_open (p := p) open' line).trans (Photo.nextGlyph_eq _ _)
  have pursued (state : x.state = .setting) : p.confirm = closed.pursue :=
    comes.trans (Photo.pursueSetting_of_setting (p := closed) state)
  refine ⟨fun state => ?_, fun state last move away => ?_, fun g state phase glyph => ?_⟩
  · have stays := Photo.pursueSetting_of_other (p := closed) (show x.state ≠ .setting by simp [state])
    exact exec_of_comes run law (comes.trans stays) rfl rfl rfl
  · have back : went = { next with phase := .back } := by simp [went, last]
    have glyphs : r.glyphs ≠ [] := List.ne_nil_of_length_pos (by omega)
    have off : closed.imager.carriageAt 0 = false := (Imager.carriageAt_false_iff _ 0).mpr fun home => away home.2
    have drives := (pursued state).trans ((Photo.pursue_of_back (p := closed) rfl (by rw [back])).trans
      (Photo.goHome_of_away (p := closed) (pr := went) glyphs off))
    refine exec_of_comes run law drives rfl rfl (congrArg (fun y : Imager => { s with imager := y }) ?_)
    change { x with confirmWindow := false, line := some went, carriageMove := some (x.carriageMove.getD 0) } = _
    rw [back, move]
    rfl
  · have more : went = next := by
      have : pr.glyph + 1 < r.glyphs.length := (List.getElem?_eq_some_iff.mp glyph).1
      simp [went, this, next]
    have begins := (pursued state).trans (Photo.pursue_of_glyph (p := closed) (pr := next)
      (congrArg some more) phase)
    obtain ⟨held, markers⟩ := closed.startGlyph_kept next
    have begun : GlyphBegins s { x with confirmWindow := false } next g 0 (s.withPhoto (closed.startGlyph next)) :=
      glyphBegins_of_startGlyph (p := closed) (l := some went) state rfl glyph rfl
        s.reply.noted_zero.symm rfl rfl
    refine ⟨fun mounted => ?_, fun other => ?_⟩ <;> refine answers_of_exact law begins held markers ?_
    · obtain ⟨imager, -⟩ := begun.1 mounted
      rw [imager]
      refine ⟨rfl, rfl, rfl, fun change => ?_, fun still away => ?_⟩
      · simp [change]
      · simp [still, away]
    · obtain ⟨imager, pending, -⟩ := begun.2 other
      rw [imager, pending]
      exact ⟨rfl, rfl, getLsbD_postTo _ .mountRequest⟩

end Sys2Proof.Machine
end

section
/-! PROOFS. A sector event (`SectorEventFiresDefersOrDrops`): the stamp, the confirm window, and the firing. -/

namespace Sys2Proof.Machine

open Sys2Proof Sys2Proof.Safety

/-! ### The stamp and the lamp values (R128, R138, R139) -/

theorem Imager.sector_eq (x : Imager) : x.sector = { x with
    stamp := (x.stamp + 1) % 4294967296
    history := x.history.filter fun h => decide (((x.stamp + 1) % 4294967296 + 4294967296 - h) % 4294967296 < 32)
    sectors := x.sectors.map (· + 1)
    window := (x.pendingLamp.getD (x.window, x.most)).1
    most := (x.pendingLamp.getD (x.window, x.most)).2
    pendingLamp := none } := by
  rw [← Option.getD_map Prod.fst, ← Option.getD_map Prod.snd]
  rfl

theorem Imager.inPlace_iff (x : Imager) (g : Glyph) : x.inPlace g = true ↔ InPlace x g := by
  unfold Imager.inPlace InPlace
  simp only [Bool.and_eq_true, beq_iff_eq, Bool.not_eq_true', Option.isNone_iff_eq_none, Imager.carriageAt_iff,
    and_assoc]

/-- A glyph in place already has nothing to be driven. -/
theorem Imager.position_of_inPlace {x : Imager} {g : Glyph} (there : InPlace x g) : x.position g = x := by
  obtain ⟨ring, -, step, turret, move, carriage⟩ := there
  have way : x.turret.bind (turretWay · g.lens) = none := by rw [turret]; exact turretWay_self g.lens
  rw [Imager.position_of_ring ring, if_pos step, if_pos move, if_pos carriage, way]
  cases x
  subst step move
  rfl

section Photo

variable {p : Photo} {pr : Progress} {g : Glyph} {n : Nat}

/-! ### The firing (R138, R141) -/

/-- What makes a glyph due at a sector (R138). -/
theorem Photo.glyphDue_iff : p.glyphDue pr g n = true ↔
    p.imager.state = .setting ∧ p.imager.disc = .running ∧ pr.phase = .glyph ∧ pr.positioning = true ∧
      InPlace p.imager g ∧ n = g.position := by
  simp only [Photo.glyphDue, Bool.and_eq_true, beq_iff_eq, Imager.inPlace_iff, and_assoc, eq_comm (a := n)]

theorem Photo.flashIfDue_of_due (line : p.imager.line = some pr) (current : p.currentGlyph pr = some g)
    (due : p.glyphDue pr g n = true) : p.flashIfDue n = p.flash pr := by
  simp only [Photo.flashIfDue, line, current, if_pos due]

/-- With no glyph due the lamp stays dark. -/
theorem Photo.flashIfDue_of_dark
    (dark : ∀ pr g, p.imager.line = some pr → p.currentGlyph pr = some g → ¬p.glyphDue pr g n = true) :
    p.flashIfDue n = p := by
  unfold Photo.flashIfDue
  split
  · rfl
  · next pr line =>
    split
    · rfl
    · next g current => exact if_neg (dark pr g line current)

theorem Photo.flashIfDue_of_other (other : p.imager.state ≠ .setting) : p.flashIfDue n = p :=
  Photo.flashIfDue_of_dark fun _ _ _ _ due => other (Photo.glyphDue_iff.mp due).1

theorem Photo.flashIfDue_of_none (none : p.imager.line = none) : p.flashIfDue n = p :=
  Photo.flashIfDue_of_dark fun _ _ line => by simp [none] at line

/-- With one glyph in question the lamp stays dark unless that glyph is due. -/
theorem Photo.flashIfDue_of_current (line : p.imager.line = some pr) (current : p.currentGlyph pr = some g)
    (dark : ¬p.glyphDue pr g n = true) : p.flashIfDue n = p := by
  simp only [Photo.flashIfDue, line, current, if_neg dark]

theorem Photo.flash_of_budget (within : p.imager.recent < p.imager.most) : p.flash pr = p.withImager { p.imager with
    history := joinHistory p.imager.history p.imager.stamp
    confirmWindow := true
    line := some { pr with retries := if pr.misfires = 0 then pr.retries else pr.retries + 1 } } :=
  if_pos within

theorem Photo.flash_of_spent (spent : p.imager.most ≤ p.imager.recent) (few : pr.deferrals ≤ 65535) :
    p.flash pr = p.withLine { pr with deferrals := min 65535 (pr.deferrals + 1) } := by
  rw [← saturate_eq few]
  exact if_neg (Nat.not_lt.mpr spent)

/-! ### A window still open (R140 to R142) -/

theorem Photo.closeWindow_of_closed (closed : p.imager.confirmWindow = false) : p.closeWindow = p := by
  simp [Photo.closeWindow, closed]

theorem Photo.closeWindow_of_first (opened : p.imager.confirmWindow = true) (line : p.imager.line = some pr)
    (first : pr.misfires = 0) : p.closeWindow = p.shut.withLine { pr with misfires := 1 } := by
  unfold Photo.closeWindow
  simp only [opened, if_true, Photo.withImager_imager, line, first]
  rfl

theorem Photo.closeWindow_of_second (opened : p.imager.confirmWindow = true) (line : p.imager.line = some pr)
    (second : pr.misfires ≠ 0) : p.closeWindow = p.shut.dropGlyph pr := by
  unfold Photo.closeWindow
  simp only [opened, if_true, Photo.withImager_imager, line, if_neg second]
  rfl

/-- Flagging a record leaves every record's glyphs and number as they were. -/
theorem record_putRecord_flags (st : Store) (i j : Nat) (f : LineFlags) :
    ((st.putRecord i { st.record i with flags := f }).record j).glyphs = (st.record j).glyphs ∧
      ((st.putRecord i { st.record i with flags := f }).record j).number = (st.record j).number := by
  rw [record_putRecord]
  split
  · next same => rw [← same.1]; exact ⟨rfl, rfl⟩
  · exact ⟨rfl, rfl⟩

/-- The store with the line's record flagged for a dropped glyph. -/
def Store.flagDropped (st : Store) (i : Nat) : Store :=
  st.putRecord i { st.record i with flags := { (st.record i).flags with dropped := true } }

/-- The photo unit with a glyph dropped, its line counting it. -/
def Photo.drops (p : Photo) (line : Progress) : Photo := { p with
  store := p.store.flagDropped line.slot
  imager := { p.imager with line := some line }
  reply := { p.reply with pending := p.reply.pending ||| 0x400000 } }

theorem Photo.dropGlyph_of_few (few : pr.dropped < 2) : p.dropGlyph pr =
    (p.drops (Progress.next { pr with dropped := pr.dropped + 1 } (p.store.record pr.slot))).pursueSetting := by
  have dropping : p.dropGlyph pr = (p.drops { pr with dropped := pr.dropped + 1 }).nextGlyph
      { pr with dropped := pr.dropped + 1 } := by
    have under : ¬Config.dropLimit ≤ pr.dropped + 1 := Nat.not_le.mpr (Nat.succ_lt_succ few)
    exact if_neg under
  obtain ⟨glyphs, -⟩ := record_putRecord_flags p.store pr.slot pr.slot
    { (p.store.record pr.slot).flags with dropped := true }
  rw [dropping, Photo.nextGlyph_eq]
  unfold Progress.next
  rw [show (p.drops { pr with dropped := pr.dropped + 1 }).store.record pr.slot =
    (p.store.flagDropped pr.slot).record pr.slot from rfl, Store.flagDropped, glyphs]
  rfl

theorem Photo.dropGlyph_of_third (third : 2 ≤ pr.dropped) : p.dropGlyph pr =
    (p.drops { pr with dropped := pr.dropped + 1 }).halt .lampFault :=
  if_pos (show Config.dropLimit ≤ pr.dropped + 1 from Nat.succ_le_succ third)

/-! ### The glyph begun next (R133, R140) -/

/-- A glyph begun stays the line's current one. -/
theorem Photo.startGlyph_frame (p : Photo) (pr : Progress) (g : Glyph) (current : p.currentGlyph pr = some g) :
    ∃ x reply b, p.startGlyph pr = { p with imager := x, reply := reply } ∧
      x.line = some { pr with positioning := b } := by
  by_cases mounted : g.disc = p.imager.mounted
  · rw [Photo.startGlyph_of_mounted current mounted]
    exact ⟨_, _, true, rfl, rfl⟩
  · rw [Photo.startGlyph_of_other current mounted]
    exact ⟨_, _, false, rfl, rfl⟩

/-- A glyph begun away from its sector does not fire. -/
theorem Photo.flashIfDue_of_elsewhere (current : p.currentGlyph pr = some g) (elsewhere : n ≠ g.position) :
    (p.startGlyph pr).flashIfDue n = p.startGlyph pr := by
  obtain ⟨x, reply, b, frame, line⟩ := p.startGlyph_frame pr g current
  rw [frame]
  exact Photo.flashIfDue_of_current line current fun due => elsewhere (Photo.glyphDue_iff.mp due).2.2.2.2.2

/-- A line sent home, or completed there, has no glyph due. -/
theorem Photo.flashIfDue_of_goHome (line : p.imager.line = some pr) (back : pr.phase = .back) :
    (p.goHome pr).flashIfDue n = p.goHome pr := by
  unfold Photo.goHome
  split
  · obtain ⟨st, x, reply, completed⟩ := Photo.completeLine_frame line
    rw [completed]
    exact Photo.flashIfDue_of_none rfl
  · refine Photo.flashIfDue_of_dark fun pr' g line' _ due => ?_
    obtain ⟨-, -, phase, -⟩ := Photo.glyphDue_iff.mp due
    rw [Photo.withImager_imager, Imager.driveCarriage_line, line] at line'
    cases line'
    rw [back] at phase
    cases phase

/-- A line sent home, or completed there, has the film as it was, and takes no pending event away. -/
theorem Photo.goHome_kept (line : p.imager.line = some pr) :
    (p.goHome pr).film = p.film ∧ ∃ set, (p.goHome pr).reply.pending = p.reply.pending ||| set := by
  unfold Photo.goHome
  split
  · obtain ⟨st, x, reply, completed⟩ := Photo.completeLine_frame line
    refine ⟨by rw [completed], ?_⟩
    exact Photo.imagingEnd_pending .set p.imager.filmTag
  · exact ⟨rfl, 0, BitVec.or_zero.symm⟩

/-! ### What becomes of a line whose confirm is missing (R140 to R143) -/

/-- The line at the glyph after one that was dropped, or in its return phase after the last. -/
def Progress.afterDrop (pr : Progress) (r : LineRecord) : Progress :=
  Progress.next { pr with dropped := pr.dropped + 1 } r

theorem Progress.afterDrop_of_more {r : LineRecord} (glyph : r.glyphs[pr.glyph + 1]? = some g) : pr.afterDrop r =
    { pr with dropped := pr.dropped + 1, glyph := pr.glyph + 1, misfires := 0, positioning := false } := by
  have more : pr.glyph + 1 < r.glyphs.length := (List.getElem?_eq_some_iff.mp glyph).1
  simp [Progress.afterDrop, Progress.next, more]

theorem Progress.afterDrop_of_last {r : LineRecord} (last : r.glyphs.length = pr.glyph + 1) : pr.afterDrop r =
    { pr with
      dropped := pr.dropped + 1, glyph := pr.glyph + 1, misfires := 0, positioning := false, phase := .back } := by
  simp [Progress.afterDrop, Progress.next, last]

/-- The flag of a dropped glyph leaves the line its glyphs. -/
theorem Photo.drops_current (p : Photo) (pr : Progress) : (p.drops pr).currentGlyph pr = p.currentGlyph pr :=
  congrArg (·[pr.glyph]?) (record_putRecord_flags p.store pr.slot pr.slot _).1

/-- The first misfire of a glyph that is not due. -/
theorem Photo.misfire_first (opened : p.imager.confirmWindow = true) (line : p.imager.line = some pr)
    (first : pr.misfires = 0) (current : p.currentGlyph pr = some g) (dark : ¬p.glyphDue pr g n = true) :
    p.closeWindow.flashIfDue n = p.shut.withLine { pr with misfires := 1 } := by
  let missed : Photo := p.shut.withLine { pr with misfires := 1 }
  have dark : ¬missed.glyphDue { pr with misfires := 1 } g n = true := fun isDue =>
    dark (Photo.glyphDue_iff.mpr (Photo.glyphDue_iff.mp isDue))
  rw [Photo.closeWindow_of_first opened line first]
  exact Photo.flashIfDue_of_current (p := missed) rfl current dark

section Second

variable (opened : p.imager.confirmWindow = true) (line : p.imager.line = some pr) (second : pr.misfires ≠ 0)
  (few : pr.dropped < 2)

include opened line second

include few in
theorem Photo.closeWindow_of_few : p.closeWindow =
    (p.shut.drops (pr.afterDrop (p.store.record pr.slot))).pursueSetting := by
  rw [Photo.closeWindow_of_second opened line second, Photo.dropGlyph_of_few few]
  rfl

include few in
/-- Outside SETTING the drop is only recorded. -/
theorem Photo.misfire_recorded (other : p.imager.state ≠ .setting) :
    p.closeWindow.flashIfDue n = p.shut.drops (pr.afterDrop (p.store.record pr.slot)) := by
  let dropped : Photo := p.shut.drops (pr.afterDrop (p.store.record pr.slot))
  rw [Photo.closeWindow_of_few opened line second few, Photo.pursueSetting_of_other (p := dropped) other]
  exact Photo.flashIfDue_of_other (p := dropped) other

include few in
/-- The next glyph is begun; away from its sector it does not fire. -/
theorem Photo.misfire_begins (state : p.imager.state = .setting) {next : Progress}
    (after : pr.afterDrop (p.store.record pr.slot) = next) (phase : next.phase = .film ∨ next.phase = .glyph)
    (current : p.currentGlyph next = some g) (elsewhere : n ≠ g.position) :
    p.closeWindow.flashIfDue n = (p.shut.drops next).startGlyph next := by
  rw [Photo.closeWindow_of_few opened line second few, after,
    Photo.pursueSetting_of_setting (p := p.shut.drops next) state,
    Photo.pursue_of_glyph (p := p.shut.drops next) rfl phase]
  exact Photo.flashIfDue_of_elsewhere ((p.shut.drops_current next).trans current) elsewhere

include few in
/-- A next glyph in place at its sector fires at once, the window being dealt with (log entry 20). -/
theorem Photo.misfire_fires (state : p.imager.state = .setting) {next : Progress}
    (after : pr.afterDrop (p.store.record pr.slot) = next) (phase : next.phase = .glyph)
    (current : p.currentGlyph next = some g) (due : n = g.position) (mounted : g.disc = p.imager.mounted)
    (running : p.imager.disc = .running) (there : InPlace p.imager g) :
    p.closeWindow.flashIfDue n = ((p.shut.drops next).withLine { next with positioning := true }).flash
      { next with positioning := true } := by
  let dropped : Photo := p.shut.drops next
  let begun : Photo := dropped.withLine { next with positioning := true }
  have current : dropped.currentGlyph next = some g := (p.shut.drops_current next).trans current
  have started : dropped.startGlyph next = begun := by
    rw [Photo.startGlyph_of_mounted current mounted, Imager.position_of_inPlace (x := dropped.imager) there]
    rfl
  have isDue : begun.glyphDue { next with positioning := true } g n = true :=
    Photo.glyphDue_iff.mpr ⟨state, running, phase, rfl, there, due⟩
  rw [Photo.closeWindow_of_few opened line second few, after, Photo.pursueSetting_of_setting (p := dropped) state,
    Photo.pursue_of_glyph (p := dropped) rfl (.inr phase), started]
  exact Photo.flashIfDue_of_due (p := begun) rfl current isDue

include few in
/-- After its last glyph the line goes home. -/
theorem Photo.misfire_goesHome (state : p.imager.state = .setting) {next : Progress}
    (after : pr.afterDrop (p.store.record pr.slot) = next) (back : next.phase = .back) :
    p.closeWindow.flashIfDue n = (p.shut.drops next).goHome next := by
  rw [Photo.closeWindow_of_few opened line second few, after,
    Photo.pursueSetting_of_setting (p := p.shut.drops next) state,
    Photo.pursue_of_back (p := p.shut.drops next) rfl back]
  exact Photo.flashIfDue_of_goHome (p := p.shut.drops next) rfl back

/-- The third drop of a line halts with LAMP FAULT (R142). -/
theorem Photo.misfire_halts (third : 2 ≤ pr.dropped) : p.closeWindow.flashIfDue n =
    (p.shut.drops { pr with dropped := pr.dropped + 1 }).halt .lampFault := by
  rw [Photo.closeWindow_of_second opened line second, Photo.dropGlyph_of_third third]
  exact Photo.flashIfDue_of_other (by rw [Photo.halt, Photo.haltNow_state]; simp)

end Second

end Photo

/-- Settles O47: the stamp first, then the window, then the firing. -/
theorem sectorEventFiresDefersOrDrops : Obligations.SectorEventFiresDefersOrDrops := by
  unfold Obligations.SectorEventFiresDefersOrDrops
  intro n busy s law x
  let p := s.photo busy
  have run : exec (.sectorEvent n busy) s = .next (s.onPhoto busy (·.sectorEvent n.toNat)) := rfl
  let q : Photo := p.withImager x.sector
  have turns (turning : x.disc ≠ .stopped) : p.sectorEvent n.toNat = q.closeWindow.flashIfDue n.toNat :=
    Photo.sectorEvent_of_turning (p := p) turning n.toNat
  refine ⟨fun stopped => congrArg Host.Outcome.next (onPhoto_idle law (Photo.sectorEvent_of_stopped stopped _)),
    fun turning => ?_, fun turning pr line opened second few state small => ?_,
    fun pr turning line opened second third going => ?_⟩
  · intro now lamp kept recent turned
    have sector : x.sector = turned := x.sector_eq
    refine ⟨fun none closed => ?_, fun pr g current => ?_, fun pr line opened second few state => ?_⟩
    · have comes := turns turning
      rw [Photo.closeWindow_of_closed (p := q) closed, Photo.flashIfDue_of_none (p := q) none] at comes
      exact exec_of_comes run law comes rfl rfl (congrArg (fun y : Imager => { s with imager := y }) sector)
    · intro due
      obtain ⟨line, glyph⟩ := current
      have dueIff : q.glyphDue pr g n.toNat = true ↔ due := Photo.glyphDue_iff
      have closes (closed : x.confirmWindow = false) : p.sectorEvent n.toNat = q.flashIfDue n.toNat := by
        rw [turns turning, Photo.closeWindow_of_closed (p := q) closed]
      have fires (closed : x.confirmWindow = false) (isDue : due) : p.sectorEvent n.toNat = q.flash pr :=
        (closes closed).trans (Photo.flashIfDue_of_due (p := q) line glyph (dueIff.mpr isDue))
      refine ⟨fun closed dark => ?_, fun closed isDue within => ?_, fun few closed isDue spent => ?_,
        fun opened first dark => ?_⟩
      · have comes := (closes closed).trans
          (Photo.flashIfDue_of_current (p := q) line glyph fun isDue => dark (dueIff.mp isDue))
        exact exec_of_comes run law comes rfl rfl (congrArg (fun y : Imager => { s with imager := y }) sector)
      · have budget : q.imager.recent < q.imager.most := by
          change x.sector.recent < x.sector.most
          rw [sector]
          exact within
        refine exec_of_comes run law ((fires closed isDue).trans (Photo.flash_of_budget budget)) rfl rfl ?_
        exact congrArg (fun y : Imager => { s with imager := { y with
          history := joinHistory y.history y.stamp
          confirmWindow := true
          line := some { pr with retries := if pr.misfires = 0 then pr.retries else pr.retries + 1 } } }) sector
      · have budget : q.imager.most ≤ q.imager.recent := by
          change x.sector.most ≤ x.sector.recent
          rw [sector]
          exact spent
        refine exec_of_comes run law ((fires closed isDue).trans (Photo.flash_of_spent budget few)) rfl rfl ?_
        exact congrArg (fun y : Imager => { s with imager := { y with
          line := some { pr with deferrals := min 65535 (pr.deferrals + 1) } } }) sector
      · have comes := (turns turning).trans
          (Photo.misfire_first (p := q) opened line first glyph fun isDue => dark (dueIff.mp isDue))
        refine exec_of_comes run law comes rfl rfl ?_
        exact congrArg (fun y : Imager => { s with imager := { y with
          confirmWindow := false, line := some { pr with misfires := 1 } } }) sector
    · intro r
      have other : x.state ≠ .setting := by simp [state]
      have comes := (turns turning).trans (Photo.misfire_recorded (p := q) opened line second few other)
      refine answers_of_follows comes fun t follows => ⟨follows.imager.trans ?_, follows.pending, fun small => ?_,
        follows.film, follows.log⟩
      · exact congrArg (fun y : Imager => { y with confirmWindow := false, line := some (pr.afterDrop r) }) sector
      · exact follows.store ▸ congrArg LineRecord.flags (record_putRecord_same (st := s.store) small _)
  · intro now lamp kept closed r flagged next
    have sector : x.sector = { closed with confirmWindow := x.confirmWindow } := x.sector_eq
    have shut : q.shut.imager = closed := congrArg (fun y : Imager => { y with confirmWindow := false }) sector
    refine ⟨fun g glyph phase => ⟨fun elsewhere => ?_, fun due phase mounted running there within => ?_⟩,
      fun last => ?_⟩
    · let dropped : Photo := q.shut.drops next
      have comes := (turns turning).trans (Photo.misfire_begins (p := q) opened line second few state
        (Progress.afterDrop_of_more glyph) phase glyph elsewhere)
      obtain ⟨held, markers⟩ := dropped.startGlyph_kept next
      have current : dropped.currentGlyph next = some g := (q.shut.drops_current next).trans glyph
      obtain ⟨y, reply, b, frame, -⟩ := dropped.startGlyph_frame next g current
      refine answers_of_exact law comes held markers ⟨?_, ?_, ?_⟩
      · refine glyphBegins_of_startGlyph (p := dropped) (l := some next) state ?_ current
          (record_putRecord_flags s.store pr.slot pr.slot _).2 rfl rfl rfl
        exact congrArg (fun y : Imager => { y with line := some next }) shut
      · rw [frame]; rfl
      · rw [frame]; rfl
    · have budget : q.imager.recent < q.imager.most := by
        change x.sector.recent < x.sector.most
        rw [sector]
        exact within
      let begun : Photo := (q.shut.drops next).withLine { next with positioning := true }
      have comes := ((turns turning).trans (Photo.misfire_fires (p := q) opened line second few state
        (Progress.afterDrop_of_more glyph) phase glyph due mounted running there)).trans
          (Photo.flash_of_budget (p := begun) budget)
      refine answers_of_follows comes fun t follows => ?_
      rw [follows.imager]
      exact ⟨rfl, rfl, congrArg (fun y : Imager => joinHistory y.history y.stamp) shut⟩
    · let dropped : Photo := q.shut.drops { next with phase := .back }
      have record : dropped.store.record pr.slot = flagged := record_putRecord_same (st := s.store) small _
      have glyphs : flagged.glyphs ≠ [] := List.ne_nil_of_length_pos (last.symm ▸ Nat.succ_pos _)
      have comes := (turns turning).trans (Photo.misfire_goesHome (p := q) opened line second few state
        (Progress.afterDrop_of_last last) rfl)
      obtain ⟨film, set, pending⟩ := Photo.goHome_kept (p := dropped) rfl
      refine answers_of_follows comes fun t follows => ⟨?_, ?_, follows.film.trans film⟩
      · refine goesHome_of_shows (p := dropped) ?_ rfl record glyphs follows.toShows
        exact congrArg (fun y : Imager => { y with line := some { next with phase := .back } }) shut
      · rw [follows.pending, pending]
        exact getLsbD_or_of_left (getLsbD_postTo _ .glyphDropped)
  · let dropped : Photo := q.shut.drops { pr with dropped := pr.dropped + 1 }
    have comes := (turns turning).trans (Photo.misfire_halts (p := q) opened line second third)
    obtain ⟨halted, gone, -, set, kept⟩ := Photo.haltNow_of_line (p := dropped.post .lampFault) rfl going
    have stays {m : Nat} (posted : (dropped.post .lampFault).reply.pending.getLsbD m = true) :
        (dropped.halt .lampFault).reply.pending.getLsbD m = true := by
      rw [show (dropped.halt .lampFault).reply.pending = _ from kept]
      exact getLsbD_or_of_left posted
    refine answers_of_follows comes fun t follows => ⟨follows.imager ▸ halted, follows.imager ▸ gone, ?_, ?_⟩
    · exact follows.pending ▸ stays (getLsbD_postTo _ .lampFault)
    · exact follows.pending ▸ stays (getLsbD_or_of_left (getLsbD_postTo _ .glyphDropped))

end Sys2Proof.Machine
end

section
/-! PROOFS. An index event by the state of the disc (`IndexEventByDiscState`). -/

namespace Sys2Proof.Machine

open Sys2Proof Sys2Proof.Safety

/-! ### A line resumed in the phase where it stood (R131, R147) -/

section Resumed

variable {s : State} {busy : Bool} {f : Photo → Photo} {z : Imager} {pr : Progress}

/-- A line resumed at a glyph begins it. -/
theorem glyphBegins_of_pursue {g : Glyph} (law : HeldSyncLaw s)
    (comes : f (s.photo busy) = ((s.photo busy).withImager z).pursue) (state : z.state = .setting)
    (line : z.line = some pr) (phase : pr.phase = .film ∨ pr.phase = .glyph)
    (glyph : (s.store.record pr.slot).glyphs[pr.glyph]? = some g) :
    AnswersWith (.next (s.onPhoto busy f)) fun t => GlyphBegins s z pr g 0 t ∧ t.store = s.store ∧ t.film = s.film := by
  let p : Photo := (s.photo busy).withImager z
  obtain ⟨held, markers⟩ := p.startGlyph_kept pr
  obtain ⟨y, reply, b, frame, -⟩ := p.startGlyph_frame pr g glyph
  refine answers_of_exact law (comes.trans (Photo.pursue_of_glyph (p := p) line phase)) held markers ⟨?_, ?_, ?_⟩
  · exact glyphBegins_of_startGlyph (p := p) state (Imager.line_self line).symm glyph rfl
      s.reply.noted_zero.symm rfl rfl
  · rw [frame]; rfl
  · rw [frame]; rfl

/-- A line resumed past its glyphs, or with its cut under way, stands as it is. -/
theorem Photo.pursue_of_waiting {p : Photo} (line : p.imager.line = some pr)
    (waits : ((pr.phase = .film ∨ pr.phase = .glyph) ∧ p.currentGlyph pr = none) ∨
      (pr.phase = .cut ∧ pr.cutAsked = true ∧ pr.cutDone = false)) : p.pursue = p := by
  rcases waits with ⟨phase, none⟩ | ⟨phase, asked, done⟩
  · rw [Photo.pursue_of_glyph line phase]
    simp only [Photo.startGlyph, none]
  · rw [Photo.pursue_of_cut line phase, Photo.pursueCut_of_asked done asked]

/-- A line resumed at its end is completed. -/
theorem Photo.pursue_of_ended {p : Photo} (line : p.imager.line = some pr)
    (ended : (pr.phase = .cut ∧ pr.cutDone = true) ∨
      (pr.phase = .back ∧ (p.store.record pr.slot).glyphs = [])) : p.pursue = p.completeLine := by
  rcases ended with ⟨phase, done⟩ | ⟨phase, empty⟩
  · rw [Photo.pursue_of_cut line phase, Photo.pursueCut_of_done done]
  · rw [Photo.pursue_of_back line phase, Photo.goHome_of_home (.inl empty)]

theorem completesLine_of_pursue (comes : f (s.photo busy) = ((s.photo busy).withImager z).pursue)
    (line : z.line = some pr) (ended : (pr.phase = .cut ∧ pr.cutDone = true) ∨
      (pr.phase = .back ∧ (s.store.record pr.slot).glyphs = [])) :
    AnswersWith (.next (s.onPhoto busy f)) (CompletesLine s z pr (s.store.record pr.slot)) := by
  let p : Photo := (s.photo busy).withImager z
  refine answers_of_follows (comes.trans (Photo.pursue_of_ended (p := p) line ended)) fun t follows => ?_
  exact completesLine_of_shows (p := p) (Imager.line_self line).symm rfl rfl follows.toShows

theorem goesHome_of_pursue (comes : f (s.photo busy) = ((s.photo busy).withImager z).pursue)
    (line : z.line = some pr) (phase : pr.phase = .back) (glyphs : (s.store.record pr.slot).glyphs ≠ []) :
    AnswersWith (.next (s.onPhoto busy f)) (GoesHome s z pr (s.store.record pr.slot)) := by
  let p : Photo := (s.photo busy).withImager z
  have back := Progress.phase_self phase
  refine answers_of_follows (comes.trans (Photo.pursue_of_back (p := p) line phase)) fun t follows => ?_
  refine goesHome_of_shows (p := p) ?_ rfl rfl glyphs (back.symm ▸ follows.toShows)
  rw [back]
  exact (Imager.line_self line).symm

theorem cutGoesOn_of_pursue (comes : f (s.photo busy) = ((s.photo busy).withImager z).pursue)
    (state : z.state = .setting) (line : z.line = some pr) (phase : pr.phase = .cut) (asked : pr.cutAsked = false)
    (done : pr.cutDone = false) : AnswersWith (.next (s.onPhoto busy f)) (CutGoesOn s z pr s.film 0) := by
  let p : Photo := (s.photo busy).withImager z
  have cut := Progress.phase_self phase
  refine answers_of_follows (comes.trans (Photo.pursue_of_cut (p := p) line phase)) fun t follows => ?_
  refine cutGoesOn_of_pursueCut (p := p) state done asked ?_ rfl (BitVec.or_zero).symm (cut.symm ▸ follows.toShows)
  rw [cut]
  exact (Imager.line_self line).symm

end Resumed

/-! ### The index event (R127, R128, R134, R147) -/

section Photo

variable {p : Photo} {pr : Progress} {d : Nat}

theorem Imager.fullTurn_iff (x : Imager) : x.fullTurn = true ↔ x.sectors = some 112 := beq_iff_eq

theorem Photo.indexEvent_of_stopped (stopped : p.imager.disc = .stopped) : p.indexEvent d = p := by
  simp only [Photo.indexEvent, stopped]

/-- An index that only begins the count again. -/
theorem Photo.indexEvent_of_counting
    (counts : (p.imager.disc = .starting ∧ p.imager.sectors ≠ some 112) ∨
      (p.imager.disc = .unconfirmed ∧ p.imager.recheck = false)) : p.indexEvent d = p.withImager p.imager.recount := by
  rcases counts with ⟨disc, part⟩ | ⟨disc, idle⟩
  · simp only [Photo.indexEvent, disc, Imager.fullTurn_iff, if_neg part]
  · simp [Photo.indexEvent, disc, idle]

theorem Photo.indexEvent_of_starting (disc : p.imager.disc = .starting) (full : p.imager.sectors = some 112) :
    p.indexEvent d = p.spunUp d := by
  simp only [Photo.indexEvent, disc, Imager.fullTurn_iff, if_pos full]

theorem Photo.indexEvent_of_stall (disc : p.imager.disc = .running) (part : p.imager.sectors ≠ some 112) :
    p.indexEvent d = p.halt .discStall := by
  simp only [Photo.indexEvent, disc, Imager.fullTurn_iff, if_neg part]

/-- A whole turn of a RUNNING disc that no MOUNT WAIT ends with. -/
theorem Photo.indexEvent_of_turning (disc : p.imager.disc = .running) (full : p.imager.sectors = some 112)
    (other : p.imager.state ≠ .mountWait ∨ p.wanted ≠ some d) : p.indexEvent d = p.withImager p.imager.recount := by
  have kept : ¬(p.imager.state = .mountWait ∧ p.wanted = some d) := by tauto
  simp only [Photo.indexEvent, disc, Imager.fullTurn_iff, if_pos full]
  exact if_neg kept

theorem Photo.wanted_of_current {g : Glyph} (line : p.imager.line = some pr) (current : p.currentGlyph pr = some g) :
    p.wanted = some g.disc := by
  simp only [Photo.wanted, line, current, Option.map_some]

theorem Photo.indexEvent_of_wanted (disc : p.imager.disc = .running) (full : p.imager.sectors = some 112)
    (state : p.imager.state = .mountWait) (wanted : p.wanted = some d) :
    p.indexEvent d = (p.withImager { p.imager with sectors := some 0, mounted := d }).resumeLine := by
  conv_lhs => simp only [Photo.indexEvent, disc, Imager.fullTurn_iff, if_pos full]
  exact if_pos (And.intro state wanted)

theorem Photo.indexEvent_of_recheck (disc : p.imager.disc = .unconfirmed) (checks : p.imager.recheck = true) :
    p.indexEvent d = p.rechecked d := by
  simp only [Photo.indexEvent, disc, checks, if_true]

theorem Photo.spunUp_of_open (cover : p.pins.coverOpen = true) :
    p.spunUp d = p.withImager { p.imager with sectors := some 0, disc := .unconfirmed } :=
  if_pos cover

theorem Photo.spunUp_of_closed (cover : p.pins.coverOpen = false) (state : p.imager.state = .spinUp) :
    p.spunUp d = (p.withImager { p.imager with
      sectors := some 0, disc := .running, mounted := d, stamp := 0 }).resumeLine := by
  unfold Photo.spunUp
  rw [if_neg (by simp [cover])]
  exact if_pos state

theorem Photo.rechecked_of_idle (back : p.imager.returnState = some .idle) :
    p.rechecked d = p.withImager { p.imager with
      sectors := some 0, disc := .running, mounted := d, recheck := false, state := .idle, returnState := none } := by
  simp only [Photo.rechecked, Imager.recount, Photo.withImager_imager, back]
  rfl

theorem Photo.rechecked_of_line (back : p.imager.returnState = some .spinUp ∨ p.imager.returnState = some .setting ∨
      p.imager.returnState = some .mountWait) :
    p.rechecked d = (p.withImager { p.imager with
      sectors := some 0, disc := .running, mounted := d, recheck := false }).resumeLine := by
  rcases back with back | back | back <;> simp only [Photo.rechecked, Imager.recount, Photo.withImager_imager, back]

end Photo

/-- Settles O48: the disc says what its index means. -/
theorem indexEventByDiscState : Obligations.IndexEventByDiscState := by
  unfold Obligations.IndexEventByDiscState
  intro d busy s law x
  let p := s.photo busy
  have run : exec (.indexEvent d busy) s = .next (s.onPhoto busy (·.indexEvent d.toNat)) := rfl
  refine ⟨fun stopped => congrArg Host.Outcome.next (onPhoto_idle law (Photo.indexEvent_of_stopped stopped)),
    fun counts => exec_of_comes run law (Photo.indexEvent_of_counting (p := p) counts) rfl rfl rfl,
    fun disc part going => ?_,
    fun disc full other => exec_of_comes run law
      (Photo.indexEvent_of_turning (p := p) disc full (.inl other)) rfl rfl rfl,
    fun disc full cover => exec_of_comes run law
      ((Photo.indexEvent_of_starting (p := p) disc full).trans (Photo.spunUp_of_open cover)) rfl rfl rfl,
    fun disc checks back => exec_of_comes run law
      ((Photo.indexEvent_of_recheck (p := p) disc checks).trans (Photo.rechecked_of_idle back)) rfl rfl rfl,
    fun disc checks back pr line => ?_, fun pr g current phase => ⟨fun spins => ?_, fun disc full state => ?_⟩⟩
  · have faults := Photo.faults_of_halt (p := p) going .discStall
    rw [← Photo.indexEvent_of_stall (d := d.toNat) disc part] at faults
    exact haltsWith_of_faults faults (s.onPhoto_follows busy _)
  · intro r z
    have comes : p.indexEvent d.toNat = (p.withImager z).pursue :=
      (Photo.indexEvent_of_recheck (p := p) disc checks).trans (Photo.rechecked_of_line back)
    have stands (waits : ((pr.phase = .film ∨ pr.phase = .glyph) ∧ r.glyphs[pr.glyph]? = none) ∨
        (pr.phase = .cut ∧ pr.cutAsked = true ∧ pr.cutDone = false)) :
        exec (.indexEvent d busy) s = .next { s with imager := z } :=
      exec_of_comes run law (comes.trans (Photo.pursue_of_waiting (p := p.withImager z) line waits)) rfl rfl rfl
    refine ⟨fun phase => ⟨fun g current => ?_, fun none => stands (.inl ⟨phase, none⟩)⟩,
      fun phase => ⟨fun glyphs => goesHome_of_pursue comes line phase glyphs,
        fun empty => completesLine_of_pursue comes line (.inr ⟨phase, empty⟩)⟩,
      fun phase => ⟨fun asked done => cutGoesOn_of_pursue comes rfl line phase asked done,
        fun asked done => stands (.inr ⟨phase, asked, done⟩),
        fun done => completesLine_of_pursue comes line (.inl ⟨phase, done⟩)⟩⟩
    obtain ⟨t, is, begins, -⟩ :=
      glyphBegins_of_pursue (busy := busy) (f := (·.indexEvent d.toNat)) (z := z) law comes rfl line phase current.2
    exact ⟨t, is, begins⟩
  · obtain ⟨disc, full, cover, state⟩ := spins
    obtain ⟨line, glyph⟩ := current
    let z : Imager := { x with
      sectors := some 0, disc := .running, mounted := d.toNat, stamp := 0, state := .setting, returnState := none }
    have comes : p.indexEvent d.toNat = (p.withImager z).pursue :=
      (Photo.indexEvent_of_starting (p := p) disc full).trans (Photo.spunUp_of_closed (p := p) cover state)
    obtain ⟨t, is, begins, store, film⟩ :=
      glyphBegins_of_pursue (busy := busy) (f := (·.indexEvent d.toNat)) (z := z) law comes rfl line phase glyph
    refine ⟨fun same => ⟨t, is, ?_⟩, fun other => ⟨t, is, ?_⟩⟩
    · obtain ⟨imager, -⟩ := begins.1 same
      rw [imager]
      refine ⟨rfl, rfl, rfl, rfl, rfl, rfl, fun still away => ?_, rfl, store, film⟩
      simp [z, still, away]
    · obtain ⟨imager, pending, queue⟩ := begins.2 other
      refine ⟨imager, ?_, fun room => ?_, fun full => ?_⟩
      · rw [pending]; simp
      · rw [queue, if_pos room]
      · rw [queue, if_neg (Nat.not_lt.mpr full), List.append_nil]
  · obtain ⟨line, glyph⟩ := current
    have wanted : p.wanted = some g.disc := Photo.wanted_of_current line glyph
    refine ⟨fun other => ?_, fun same => ?_⟩
    · exact exec_of_comes run law (Photo.indexEvent_of_turning (p := p) disc full
        (.inr (by simpa [wanted] using other))) rfl rfl rfl
    · let z : Imager := { x with
        sectors := some 0, mounted := d.toNat, state := .setting, returnState := none }
      have comes : p.indexEvent d.toNat = (p.withImager z).pursue :=
        Photo.indexEvent_of_wanted (p := p) disc full state (by rw [wanted, same])
      obtain ⟨t, is, begins, -⟩ :=
      glyphBegins_of_pursue (busy := busy) (f := (·.indexEvent d.toNat)) (z := z) law comes rfl line phase glyph
      obtain ⟨imager, -⟩ := begins.1 same
      refine ⟨t, is, ?_, ?_, ?_⟩ <;> rw [imager]

end Sys2Proof.Machine
end

section
/-! PROOFS. The cover (`CoverSuspendsAndReturns`). -/

namespace Sys2Proof.Machine

open Sys2Proof Sys2Proof.Safety

/-! ### SUSPENDED (R146) -/

section Photo

variable {p : Photo} {pr : Progress}

theorem Photo.suspend_frame (p : Photo) : ∃ st, p.suspend = { p with
    store := st
    imager := { p.imager with
      state := .suspended
      returnState := some p.imager.state
      disc := if p.imager.disc = .running then .unconfirmed else p.imager.disc }
    reply := { p.reply with pending := p.reply.pending ||| 0x40000 } } := by
  unfold Photo.suspend
  extract_lets _ q
  obtain ⟨st, flagged⟩ := (q.post .coverOpen).flagLine_frame fun f => { f with coverOpened := true }
  exact ⟨st, flagged⟩

theorem Photo.suspend_store_of_none (none : p.imager.line = none) : p.suspend.store = p.store := by
  simp [Photo.suspend, Photo.flagLine, none]

theorem Photo.suspend_store_of_line (line : p.imager.line = some pr) :
    p.suspend.store = p.store.putRecord pr.slot { p.store.record pr.slot with
      flags := { (p.store.record pr.slot).flags with coverOpened := true } } := by
  simp [Photo.suspend, Photo.flagLine, line]

theorem Photo.coverOpens_of_halted (state : p.imager.state = .halted) :
    p.coverOpens = p.withImager { p.imager with coverNote := true } := by
  simp only [Photo.coverOpens, state]

theorem Photo.coverOpens_of_suspended (state : p.imager.state = .suspended) :
    p.coverOpens = p.withImager { p.imager with recheck := false } := by
  simp only [Photo.coverOpens, state]

theorem Photo.coverOpens_of_going (whole : p.imager.state ≠ .halted) (going : p.imager.state ≠ .suspended) :
    p.coverOpens = p.suspend := by
  unfold Photo.coverOpens
  split
  · next halted => exact absurd halted whole
  · next away => exact absurd away going
  · rfl

/-! ### The return (R147) -/

theorem Photo.coverCloses_of_going (whole : p.imager.state ≠ .halted) (going : p.imager.state ≠ .suspended)
    (detent : Bool) : p.coverCloses detent = p := by
  unfold Photo.coverCloses
  split
  · next away => exact absurd away going
  · next halted => exact absurd halted whole
  · rfl

theorem Photo.coverCloses_of_unnoted (state : p.imager.state = .halted) (unnoted : p.imager.coverNote = false)
    (detent : Bool) : p.coverCloses detent = p := by
  simp [Photo.coverCloses, state, unnoted]

theorem Photo.coverCloses_of_suspended (state : p.imager.state = .suspended) (detent : Bool) :
    p.coverCloses detent = p.resume detent := by
  simp only [Photo.coverCloses, state]

theorem Photo.resume_of_standby (back : p.imager.returnState = some .standby) (detent : Bool) :
    p.resume detent = p.withImager { p.imager with state := .standby, returnState := none } := by
  simp only [Photo.resume, back]

theorem Photo.resume_of_spinUp (back : p.imager.returnState = some .spinUp) (known : p.imager.disc ≠ .unconfirmed)
    (detent : Bool) : p.resume detent = p.withImager { p.imager with state := .spinUp, returnState := none } := by
  simp only [Photo.resume, back, if_neg known]

theorem Photo.resume_of_setting (back : p.imager.returnState = some .setting) (known : p.imager.disc ≠ .unconfirmed)
    (detent : Bool) : p.resume detent = p.resumeLine := by
  simp only [Photo.resume, back, if_neg known]

/-- An UNCONFIRMED disc is checked first. -/
theorem Photo.resume_of_unconfirmed (back : p.imager.returnState = some .idle ∨ (p.imager.disc = .unconfirmed ∧
      (p.imager.returnState = some .spinUp ∨ p.imager.returnState = some .setting ∨
        p.imager.returnState = some .mountWait))) (detent : Bool) :
    p.resume detent = p.startRecheck := by
  rcases back with back | ⟨disc, back | back | back⟩
  · simp only [Photo.resume, back]
  all_goals simp only [Photo.resume, back, if_pos disc]

/-! ### HOMING begun (R126, R149, R161) -/

theorem Photo.coverCloses_of_homing (homes : (p.imager.state = .halted ∧ p.imager.coverNote = true) ∨
      (p.imager.state = .suspended ∧ p.imager.returnState = some .homing)) (detent : Bool) :
    p.coverCloses detent = p.beginHoming detent := by
  rcases homes with ⟨state, noted⟩ | ⟨state, back⟩
  · simp only [Photo.coverCloses, state, noted, if_true]
  · simp only [Photo.coverCloses, state, Photo.resume, back]

theorem Imager.driveCarriage_eq (x : Imager) (target : Nat) : x.driveCarriage target = { x with
    carriageMove := if x.carriageMove = none ∧ x.carriage = some target then none
      else some (x.carriageMove.getD target) } := by
  by_cases there : x.carriageMove = none ∧ x.carriage = some target
  · rw [if_pos there, ← there.1]
    exact if_pos (.inr there.2)
  · rw [if_neg there]
    exact Imager.driveCarriage_of_away ((x.carriageAt_false_iff target).mpr there)

theorem Film.homing_eq (y : Film) : y.homing = { y with
    transport := if y.transport = .fault then (if y.l = 0 then .filmOut else .ready) else y.transport } := by
  by_cases fault : y.transport = .fault
  · rw [if_pos fault]
    simp only [Film.homing, fault]
    rfl
  · rw [if_neg fault, Film.homing_of_noFault fault]

/-- The turret's part of HOMING: found at its detent, or stepped towards it (R126, log entry 18). -/
def Imager.seekDetent (x : Imager) (detent : Bool) : Imager := { x with
  turret := if x.turretStep = none ∧ detent = true then some 0 else none
  turretStep := if x.turretStep = none then (if detent = true then none else some .ascending) else x.turretStep
  homingSteps := if x.turretStep = none ∧ detent = true then 0 else 1 }

theorem Photo.beginHoming_homed (p : Photo) (detent : Bool) : p.beginHoming detent = { p with
    imager := (Imager.seekDetent (Imager.driveCarriage { p.imager.stopDisc with
      state := .homing, returnState := none, coverNote := false, cancelled := [] } 0) detent).homed
    film := p.film.homing } := by
  have seek (x : Imager) : (if x.turretStep.isSome then { x with turret := none, homingSteps := 1 }
      else if detent then { x with turret := some 0, homingSteps := 0 }
      else { x with turret := none, turretStep := some .ascending, homingSteps := 1 }) = x.seekDetent detent := by
    unfold Imager.seekDetent
    by_cases step : x.turretStep = none
    · cases detent <;> simp [step]
    · rw [if_pos (Option.isSome_iff_ne_none.mpr step)]
      simp [step]
  exact congrArg (fun x : Imager => { p with imager := x.homed, film := p.film.homing }) (seek _)

/-- HOMING begun: the carriage driven to 0, the turret found at its detent or stepped towards it. -/
theorem Photo.beginHoming_eq (p : Photo) (detent : Bool) : p.beginHoming detent = { p with
    imager := { p.imager with
      state := if (p.imager.carriageMove = none ∧ p.imager.carriage = some 0) ∧ p.imager.turretStep = none ∧
        detent = true then .standby else .homing
      returnState := none, coverNote := false, disc := .stopped, history := [], stamp := 0
      recheck := false, sectors := none, cancelled := []
      carriageMove := if p.imager.carriageMove = none ∧ p.imager.carriage = some 0 then none
        else some (p.imager.carriageMove.getD 0)
      turret := if p.imager.turretStep = none ∧ detent = true then some 0 else none
      turretStep := if p.imager.turretStep = none then (if detent = true then none else some .ascending)
        else p.imager.turretStep
      homingSteps := if p.imager.turretStep = none ∧ detent = true then 0 else 1 }
    film := p.film.homing } := by
  have home : (if p.imager.carriageMove = none ∧ p.imager.carriage = some 0 then none
      else some (p.imager.carriageMove.getD 0)) = none ∧ p.imager.carriage = some 0 ↔
      p.imager.carriageMove = none ∧ p.imager.carriage = some 0 := by
    split
    · next home => simp [home]
    · next away => simp [away]
  have detained : (if p.imager.turretStep = none then (if detent = true then none else some Direction.ascending)
      else p.imager.turretStep) = none ∧
      (if p.imager.turretStep = none ∧ detent = true then some 0 else none) = some 0 ↔
      p.imager.turretStep = none ∧ detent = true := by
    by_cases step : p.imager.turretStep = none
    · cases detent <;> simp [step]
    · simp [step]
  let y : Imager := Imager.seekDetent { p.imager.stopDisc with
    state := .homing, returnState := none, coverNote := false, cancelled := []
    carriageMove := if p.imager.carriageMove = none ∧ p.imager.carriage = some 0 then none
      else some (p.imager.carriageMove.getD 0) } detent
  have begun : p.beginHoming detent = { p with imager := y.homed, film := p.film.homing } := by
    rw [Photo.beginHoming_homed, Imager.driveCarriage_eq]
    rfl
  have ends : (y.carriageMove = none ∧ y.carriage = some 0 ∧ y.turretStep = none ∧ y.turret = some 0) ↔
      (p.imager.carriageMove = none ∧ p.imager.carriage = some 0) ∧ p.imager.turretStep = none ∧ detent = true := by
    rw [← and_assoc]
    exact and_congr home detained
  rw [begun, Imager.homed_of_homing (x := y) rfl, if_congr ends rfl rfl]
  rfl

end Photo

/-- Settles O50: the Imager's state says what the cover means. -/
theorem coverSuspendsAndReturns : Obligations.CoverSuspendsAndReturns := by
  unfold Obligations.CoverSuspendsAndReturns
  intro busy s law quiet x opened closed
  refine ⟨fun cover => if_pos cover, fun cover => ?_, fun detent cover => if_neg (by simp [cover]),
    fun detent cover => ?_⟩
  · let u : State := { s with pins := opened }
    let p := u.photo false
    have run : exec .coverOpens s = .next (u.onPhoto false Photo.coverOpens) :=
      (if_neg (by simp [cover])).trans (if_neg (by simp [quiet]))
    have law : HeldSyncLaw u := law
    refine ⟨fun state => ?_, fun state => ?_, fun whole going => ?_⟩
    · exact run.trans (next_of_exact law (Photo.coverOpens_of_halted (p := p) state) rfl rfl)
    · exact run.trans (next_of_exact law (Photo.coverOpens_of_suspended (p := p) state) rfl rfl)
    · obtain ⟨st, frame⟩ := p.suspend_frame
      have comes : p.coverOpens = p.suspend := Photo.coverOpens_of_going whole going
      have exact' := run.trans (next_of_exact law comes (by rw [frame]; rfl) (by rw [frame]; rfl))
      refine ⟨u.withPhoto p.suspend, exact', rfl, ?_, ?_, fun none => Photo.suspend_store_of_none (p := p) none,
        fun pr line small => ?_, ?_⟩
      · rw [frame]; rfl
      · rw [frame]; rfl
      · change p.suspend.store.record pr.slot = _
        rw [Photo.suspend_store_of_line (p := p) line, record_putRecord_same _ small]
        rfl
      · rw [frame]; rfl
  · let u : State := { s with pins := closed }
    let p := u.photo busy
    have run : exec (.coverCloses detent busy) s = .next (u.onPhoto busy (·.coverCloses detent)) :=
      (if_pos cover).trans (if_neg (by simp [quiet]))
    have law : HeldSyncLaw u := law
    have closes {q : Photo} (comes : p.coverCloses detent = q) (held : q.reply.held = s.reply.held)
        (markers : q.reply.markers = s.reply.markers) : exec (.coverCloses detent busy) s = .next (u.withPhoto q) :=
      run.trans (next_of_exact law comes held markers)
    have resumes (state : x.state = .suspended) : p.coverCloses detent = p.resume detent :=
      Photo.coverCloses_of_suspended (p := p) state detent
    refine ⟨fun whole going => closes (Photo.coverCloses_of_going (p := p) whole going detent) rfl rfl,
      fun state => ⟨fun back => ?_, fun back known => ?_, fun back => ?_⟩, fun homes => ?_,
      fun state back known pr line => ?_,
      fun state unnoted => closes (Photo.coverCloses_of_unnoted (p := p) state unnoted detent) rfl rfl⟩
    · exact closes ((resumes state).trans (Photo.resume_of_standby (p := p) back detent)) rfl rfl
    · exact closes ((resumes state).trans (Photo.resume_of_spinUp (p := p) back known detent)) rfl rfl
    · exact closes ((resumes state).trans (Photo.resume_of_unconfirmed (p := p) back detent)) rfl rfl
    · have begun := (Photo.coverCloses_of_homing (p := p) homes detent).trans (p.beginHoming_eq detent)
      rw [Film.homing_eq] at begun
      exact closes begun rfl rfl
    · intro r
      let z : Imager := { x with state := .setting, returnState := none }
      have comes : p.coverCloses detent = (p.withImager z).pursue :=
        (resumes state).trans (Photo.resume_of_setting (p := p) back known detent)
      refine ⟨fun waits => ?_, fun phase asked done => ?_, fun ended => ?_⟩
      · have stands := Photo.pursue_of_waiting (p := p.withImager z) line
          (waits.imp_left fun ⟨phase, empty⟩ => ⟨phase, congrArg (·[pr.glyph]?) empty⟩)
        exact closes (comes.trans stands) rfl rfl
      · rw [run]
        exact cutGoesOn_of_pursue comes rfl line phase asked done
      · rw [run]
        exact completesLine_of_pursue (s := u) (busy := busy) (f := (·.coverCloses detent)) (z := z) comes line ended

end Sys2Proof.Machine
end

section
/-! PROOFS. Film Transport's results taken by the Imager: what a step comes to (`StepsTo`), and a line whose film move
is done. -/

namespace Sys2Proof.Machine

open Sys2Proof Sys2Proof.Safety

/-! ### A step and what its photo unit's side comes to -/

/-- A step whose photo unit's side comes to `q`, `ends` following it: exactly that where the held item and the markers
are left alone. -/
structure StepsTo (result : StepResult) (ends : State → State) (u : State) (q : Photo) : Prop where
  exact : q.reply.held = u.reply.held → q.reply.markers = u.reply.markers → result = .next (ends (u.withPhoto q))
  shows : AnswersWith result fun t => t.Shows q

theorem stepsTo_onPhoto {u : State} {busy : Bool} {f : Photo → Photo} {q : Photo} (law : HeldSyncLaw u)
    (comes : f (u.photo busy) = q) : StepsTo (.next (u.onPhoto busy f)) id u q :=
  ⟨next_of_exact law comes, answers_of_follows comes fun _ follows => follows.toShows⟩

theorem stepsTo_runOut (u : State) (q : Photo) : StepsTo (.next (u.withPhoto q).runOut) State.runOut u q :=
  ⟨fun _ _ => rfl, answersWith_runOut fun _ => ⟨rfl, rfl, rfl, rfl, rfl, rfl⟩⟩

section Steps

variable {result : StepResult} {ends : State → State} {u : State} {q p : Photo} {x : Imager} {pr : Progress}
  {r : LineRecord} {note : Word24}

theorem StepsTo.congr (steps : StepsTo result ends u q) (same : q = p) : StepsTo result ends u p := same ▸ steps

/-- A step with a Reply Unit that only posts. -/
theorem StepsTo.posts (steps : StepsTo result ends u q) {set : Word24}
    (reply : q.reply = { u.reply with pending := set }) : result = .next (ends (u.withPhoto q)) :=
  steps.exact (by rw [reply]) (by rw [reply])

theorem StepsTo.answers (steps : StepsTo result ends u q) {cond : State → Prop}
    (holds : ∀ t : State, t.Shows q → cond t) : AnswersWith result cond := by
  obtain ⟨t, is, shows⟩ := steps.shows
  exact ⟨t, is, holds t shows⟩

theorem StepsTo.completesLine (steps : StepsTo result ends u q.completeLine)
    (imager : q.imager = { x with line := some pr }) (log : q.log = u.log) (record : q.store.record pr.slot = r) :
    AnswersWith result fun t => CompletesLine u x pr r t ∧ t.film = q.film := by
  obtain ⟨st, y, reply, completed⟩ := Photo.completeLine_frame (p := q) (pr := pr) (by rw [imager])
  refine steps.answers fun t shows => ⟨completesLine_of_shows imager log record shows, ?_⟩
  rw [shows.film, completed]

/-! ### The film move of a line done (R132, R143, R144) -/

theorem Photo.filmDone_of_glyphs (line : p.imager.line = some pr) (kind : (p.store.record pr.slot).kind = .text)
    (glyphs : (p.store.record pr.slot).glyphs ≠ []) (tag : Nat) : p.filmDone tag = p.withImager { p.imager with
      filmTag := tag, line := some { pr with phase := .glyph } } := by
  have phase := LineRecord.phaseAfterFilm_of_needsDisc ⟨kind, glyphs⟩
  unfold Photo.filmDone
  simp only [Photo.withImager_imager, Photo.withImager_store, line, phase, if_true]
  rfl

theorem Photo.filmDone_of_phase {phase : LinePhase} (line : p.imager.line = some pr)
    (at' : (p.store.record pr.slot).phaseAfterFilm = phase) (bare : phase ≠ .glyph) (tag : Nat) :
    p.filmDone tag = (p.withImager { p.imager with
      filmTag := tag, line := some { pr with phase := phase } }).pursueSetting := by
  unfold Photo.filmDone
  simp only [Photo.withImager_imager, Photo.withImager_store, line, at', if_neg bare]
  rfl

/-- A line with glyphs goes to its glyphs, and on as it stands. -/
theorem StepsTo.moved_glyphs {tag : Nat} {set : Word24} (steps : StepsTo result ends u (q.filmDone tag))
    (line : q.imager.line = some pr) (kind : (q.store.record pr.slot).kind = .text)
    (glyphs : (q.store.record pr.slot).glyphs ≠ []) (reply : q.reply = { u.reply with pending := set }) :
    result = .next (ends (u.withPhoto (q.withImager { q.imager with
      filmTag := tag, line := some { pr with phase := .glyph } }))) :=
  (steps.congr (Photo.filmDone_of_glyphs line kind glyphs tag)).posts reply

/-- Outside SETTING the end of the move is only recorded (log entry 10). -/
theorem StepsTo.moved_recorded {tag : Nat} {set : Word24} {phase : LinePhase}
    (steps : StepsTo result ends u (q.filmDone tag)) (line : q.imager.line = some pr)
    (at' : (q.store.record pr.slot).phaseAfterFilm = phase) (bare : phase ≠ .glyph)
    (other : q.imager.state ≠ .setting) (reply : q.reply = { u.reply with pending := set }) :
    result = .next (ends (u.withPhoto (q.withImager { q.imager with
      filmTag := tag, line := some { pr with phase := phase } }))) :=
  (steps.congr ((Photo.filmDone_of_phase line at' bare tag).trans (Photo.pursueSetting_of_other other))).posts reply

/-- A TEXT line without glyphs is completed there (R143). -/
theorem StepsTo.moved_completes {tag : Nat} (steps : StepsTo result ends u (q.filmDone tag))
    (line : q.imager.line = some pr) (kind : (q.store.record pr.slot).kind = .text)
    (empty : (q.store.record pr.slot).glyphs = []) (state : q.imager.state = .setting) (log : q.log = u.log) :
    AnswersWith result fun t =>
      CompletesLine u { q.imager with filmTag := tag } pr (q.store.record pr.slot) t ∧ t.film = q.film := by
  let back : Photo := q.withImager { q.imager with filmTag := tag, line := some { pr with phase := .back } }
  have completes : q.filmDone tag = back.completeLine := by
    rw [Photo.filmDone_of_phase line (LineRecord.phaseAfterFilm_of_empty kind empty) nofun]
    exact (Photo.pursueSetting_of_setting (p := back) state).trans
      (Photo.pursue_of_ended (p := back) rfl (.inr ⟨rfl, empty⟩))
  exact (steps.congr completes).completesLine (q := back) (pr := { pr with phase := .back }) rfl log rfl

/-- A CUT record goes on to its cut (R144). -/
theorem StepsTo.moved_cut {tag : Nat} (steps : StepsTo result ends u (q.filmDone tag))
    (line : q.imager.line = some pr) (kind : (q.store.record pr.slot).kind = .cut) (state : q.imager.state = .setting)
    (asked : pr.cutAsked = false) (done : pr.cutDone = false) (pending : q.reply.pending = u.reply.pending ||| note) :
    AnswersWith result (CutGoesOn u { q.imager with filmTag := tag } pr q.film note) := by
  let cut : Photo := q.withImager { q.imager with filmTag := tag, line := some { pr with phase := .cut } }
  have goesOn : q.filmDone tag = cut.pursueCut { pr with phase := .cut } := by
    rw [Photo.filmDone_of_phase line (LineRecord.phaseAfterFilm_of_cut kind) nofun]
    exact (Photo.pursueSetting_of_setting (p := cut) state).trans (Photo.pursue_of_cut (p := cut) rfl rfl)
  exact (steps.congr goesOn).answers fun t shows =>
    cutGoesOn_of_pursueCut (p := cut) state done asked rfl rfl pending shows

/-! ### Film Transport's results (R151, R155) -/

/-- The photo unit with Film Transport at `y`, events posted. -/
def Photo.filmed (p : Photo) (y : Film) (events : List Event) : Photo :=
  { p with film := y, reply := { p.reply with pending := events.foldl postTo p.reply.pending } }

theorem Photo.runFilm_quiet (y : Film) (events : List Event) : p.runFilm ⟨y, events, false, none⟩ = p.filmed y events :=
  Photo.applyFilm_unclamped y events none

theorem Photo.runFilm_reports (y : Film) (events : List Event) (report : Report) :
    p.runFilm ⟨y, events, false, some report⟩ = (p.filmed y events).takeReport report :=
  congrArg (Photo.takeReport · report) (Photo.applyFilm_unclamped y events (some report))

/-- FILM FAULT reported halts the Imager. -/
theorem Photo.faults_of_filmFault (going : p.imager.state ≠ .halted) (y : Film) :
    p.Faults .filmFault [] (p.runFilm ⟨y, [.filmFault], false, some .filmFault⟩) := by
  rw [Photo.runFilm_reports]
  exact Photo.faults_of_haltNow (p := p) (q := p.filmed y [.filmFault]) going rfl p.imager.running_without_spent
    (getLsbD_postTo _ .filmFault) rfl rfl rfl rfl

/-- A fault leaves Film Transport as it is, or with its line's request abandoned. -/
theorem Photo.haltNow_film (p : Photo) : p.haltNow.film = p.film ∨ p.haltNow.film = p.film.abandon := by
  unfold Photo.haltNow
  split
  · exact .inl rfl
  · change p.abandonLine.film = p.film ∨ p.abandonLine.film = p.film.abandon
    unfold Photo.abandonLine
    split
    · next lined =>
      obtain ⟨pr, line⟩ := Option.isSome_iff_exists.mp lined
      let q : Photo := { p with film := p.film.abandon }
      obtain ⟨st, x, reply, ended⟩ := Photo.imagingEnd_frame q .fault p.imager.filmTag pr line
      exact .inr (by rw [ended])
    · exact .inl rfl

end Steps

section Film

variable {y : Film}

/-! ### The end of a motion (R154 to R156, R159, R160) -/

/-- Film that may have come, with no request held (R158, R159). -/
theorem Film.reserve_of_idle (held : y.held = none) : y.reserve =
    ⟨{ y with transport := if y.l = 0 then .filmOut else .ready }, if y.l = 0 then [.filmOut] else [], false,
      none⟩ := by
  unfold Film.reserve
  rw [held]
  by_cases out : y.l = 0
  · simp only [if_pos out, Film.withTransport, held]
  · simp only [if_neg out, Film.withTransport, Film.quietly, held]

/-- The film with its cassette applied: A is the length, and READY or FILM OUT follows it (R158, R159). -/
def Film.refilled (y : Film) : Film :=
  { y with l := y.a, f := 0, h := 0, floor := 0, deferred := false, transport := if y.a = 0 then .filmOut else .ready }

/-- The film once a motion is over: at rest, or with the deferred cassette applied (R159). -/
def Film.rested (y : Film) : Film := if y.deferred then y.refilled else { y with transport := .ready }

/-- The events of a deferred cassette applied (R153, R159). -/
def Film.restPosts (y : Film) : List Event := if y.deferred = true ∧ y.a = 0 then [.filmOut] else []

/-- A motion ended with no request waiting for the end. -/
theorem Film.finish_of_idle (held : y.held = none) (awaited : Bool) (r : Report) : y.finish awaited r =
    ⟨y.rested, y.restPosts, false, if awaited then some r else none⟩ := by
  unfold Film.finish Film.rested Film.restPosts
  cases deferred : y.deferred with
  | true =>
    simp only [if_true, true_and, Film.reserve_of_idle (show y.reload.held = none from held)]
    rfl
  | false =>
    simp only [Bool.false_eq_true, if_false, false_and, held, Film.withTransport, deferred]

/-- A motion ended with a request behind it that nobody waits for: the request is served (R160). -/
theorem Film.finish_of_held {q : Request} (held : y.held = some q) (quiet : y.deferred = false) (r : Report) :
    y.finish false r = { y with transport := .ready }.serve q := by
  unfold Film.finish
  simp only [quiet, Bool.false_eq_true, if_false, held, Film.withTransport]

/-- A motion failed (R155, R156, R159, R160). -/
def Film.failed (y : Film) : Film := { (if y.deferred then y.refilled else y) with transport := .fault, held := none }

theorem Film.fail_eq (y : Film) (awaited : Bool) : y.fail awaited =
    ⟨y.failed, [.filmFault], false, if awaited = true ∨ y.held ≠ none then some .filmFault else none⟩ := by
  unfold Film.fail Film.failed
  have told : (awaited || y.held.isSome) = true ↔ awaited = true ∨ y.held ≠ none := by
    simp [Option.isSome_iff_ne_none]
  cases y.deferred with
  | true => simp only [if_true, told]; rfl
  | false => simp only [Bool.false_eq_true, if_false, told]

theorem Film.restPosts_note (y : Film) (set : Word24) : y.restPosts.foldl postTo set =
    set ||| if y.deferred then (if y.a = 0 then 0x8000 else 0) else 0 := by
  unfold Film.restPosts
  cases y.deferred with
  | false => exact BitVec.or_zero.symm
  | true =>
    simp only [true_and, if_true]
    split
    · rfl
    · exact BitVec.or_zero.symm

theorem Film.abandon_of_fault (fault : y.transport = .fault) (held : y.held = none) : y.abandon = y := by
  unfold Film.abandon
  simp only [fault]
  rw [← fault, ← held]

/-! ### Arrivals and expiries by transport state -/

theorem Film.arrive_of_moving {target : Nat} {awaited : Bool} (moving : y.transport = .moving target awaited) :
    y.arrive = { y with f := target, h := max y.h target }.finish awaited (.moveDone target) := by
  simp only [Film.arrive, moving]
  rfl

theorem Film.arrive_of_cut {target : Nat} {awaited : Bool} (moving : y.transport = .cutAdvance target awaited) :
    y.arrive = ⟨{ y with f := target, h := max y.h target, transport := .cutStroke awaited }, [], false, none⟩ := by
  simp only [Film.arrive, moving]
  rfl

theorem Film.moveExpires_of_moving {target : Nat} {awaited : Bool}
    (moving : y.transport = .moving target awaited ∨ y.transport = .cutAdvance target awaited) :
    y.moveExpires = y.fail awaited := by
  rcases moving with moving | moving <;> simp only [Film.moveExpires, moving]

theorem Film.cutterEnds_of_stroke {awaited : Bool} (stroke : y.transport = .cutStroke awaited) :
    y.cutterEnds = { y with floor := y.f }.finish awaited .cutDone := by
  simp only [Film.cutterEnds, stroke]

theorem Film.cutterExpires_of_stroke {awaited : Bool} (stroke : y.transport = .cutStroke awaited) :
    y.cutterExpires = y.fail awaited := by
  simp only [Film.cutterExpires, stroke]

/-- With no film move under way neither its end nor its expiry means anything (log entry 1). -/
theorem Film.arrive_of_still (still : ∀ target awaited,
      y.transport ≠ .moving target awaited ∧ y.transport ≠ .cutAdvance target awaited) :
    y.arrive = y.quietly ∧ y.moveExpires = y.quietly := by
  unfold Film.arrive Film.moveExpires
  cases transport : y.transport with
  | moving target awaited => exact absurd transport (still target awaited).1
  | cutAdvance target awaited => exact absurd transport (still target awaited).2
  | ready | cutStroke | filmOut | noCassette | fault => exact ⟨rfl, rfl⟩

theorem Film.cutterEnds_of_still (still : ∀ awaited, y.transport ≠ .cutStroke awaited) :
    y.cutterEnds = y.quietly ∧ y.cutterExpires = y.quietly := by
  unfold Film.cutterEnds Film.cutterExpires
  cases transport : y.transport with
  | cutStroke awaited => exact absurd transport (still awaited)
  | ready | moving | cutAdvance | filmOut | noCassette | fault => exact ⟨rfl, rfl⟩

end Film

end Sys2Proof.Machine
end

section
/-! PROOFS. The ends of film moves and cuts (`FilmMovesAndCutsEnd`). -/

namespace Sys2Proof.Machine

open Sys2Proof Sys2Proof.Safety

section Photo

variable {p : Photo} {pr : Progress} {y : Film}

/-- A motion that nobody waits for ends at rest. -/
theorem Photo.runFilm_rests (held : y.held = none) (r : Report) :
    p.runFilm (y.finish false r) = p.filmed y.rested y.restPosts := by
  rw [Film.finish_of_idle held]
  exact Photo.runFilm_quiet _ _

/-- A motion that a line waits for ends at rest, its end reported. -/
theorem Photo.runFilm_rests_told (held : y.held = none) (r : Report) :
    p.runFilm (y.finish true r) = (p.filmed y.rested y.restPosts).takeReport r := by
  rw [Film.finish_of_idle held]
  exact Photo.runFilm_reports _ _ r

theorem Photo.filmed_rested (p : Photo) (y : Film) : p.filmed y.rested y.restPosts = { p with
    film := y.rested
    reply := { p.reply with
      pending := p.reply.pending ||| if y.deferred then (if y.a = 0 then 0x8000 else 0) else 0 } } := by
  unfold Photo.filmed
  rw [Film.restPosts_note]

theorem Photo.filmed_rested_of_quiet (quiet : y.deferred = false) :
    p.filmed y.rested y.restPosts = { p with film := { y with transport := .ready } } := by
  unfold Film.rested Film.restPosts
  rw [quiet, if_neg (by simp), if_neg nofun]
  rfl

theorem Photo.filmed_rested_of_deferred (deferred : y.deferred = true) : p.filmed y.rested y.restPosts = { p with
    film := y.refilled
    reply := { p.reply with pending := p.reply.pending ||| if y.a = 0 then 0x8000 else 0 } } := by
  rw [Photo.filmed_rested, Film.rested, deferred]
  rfl

/-- A failed motion that a line waits for, or whose request is held behind it, halts the Imager (R155, R160). -/
theorem Photo.runFilm_fail_of_told {awaited : Bool} (told : awaited = true ∨ y.held ≠ none) :
    p.runFilm (y.fail awaited) = p.runFilm ⟨y.failed, [.filmFault], false, some .filmFault⟩ := by
  rw [Film.fail_eq, if_pos told]

theorem Photo.runFilm_fail_of_untold (held : y.held = none) :
    p.runFilm (y.fail false) = p.filmed y.failed [.filmFault] := by
  rw [Film.fail_eq, if_neg (by simp [held])]
  exact Photo.runFilm_quiet _ _

/-- A failed motion leaves its film, whoever is told. -/
theorem Photo.runFilm_fail_film (y : Film) (awaited : Bool) : (p.runFilm (y.fail awaited)).film = y.failed := by
  rw [Film.fail_eq]
  split
  · rw [Photo.runFilm_reports]
    rcases (p.filmed y.failed [.filmFault]).haltNow_film with left | left
    · exact left
    · exact left.trans (Film.abandon_of_fault (y := y.failed) rfl rfl)
  · rw [Photo.runFilm_quiet]
    rfl

/-- The failure of a motion, told, in the whole part. -/
theorem haltsWith_of_fail {s : State} {busy awaited : Bool} {f : Film → FilmResult}
    (fails : f s.film = s.film.fail awaited)
    (told : awaited = true ∨ s.film.held ≠ none) (going : s.imager.state ≠ .halted) :
    HaltsWith .filmFault [] s (.next (s.filmEvent busy f)) := by
  have faults := Photo.faults_of_filmFault (p := s.photo busy) going s.film.failed
  rw [← Photo.runFilm_fail_of_told told, ← fails] at faults
  exact haltsWith_of_faults faults (s.onPhoto_follows busy _)

/-- The cut of a line in SETTING done: its record is completed (R144). -/
theorem Photo.cutEnds_of_cut (line : p.imager.line = some pr) (phase : pr.phase = .cut)
    (state : p.imager.state = .setting) : p.cutEnds = (p.withLine { pr with cutDone := true }).completeLine := by
  let q : Photo := p.withLine { pr with cutDone := true }
  have goesOn : p.cutEnds = q.pursueSetting := by
    simp only [Photo.cutEnds, line]
    rfl
  rw [goesOn, Photo.pursueSetting_of_setting (p := q) state]
  exact Photo.pursue_of_ended (p := q) rfl (.inl ⟨phase, rfl⟩)

/-- A move held behind a motion that ends within its film, unclamped and not in place, is begun (R152, R160). -/
theorem Film.serve_of_unclamped {v : Int} (known : y.l ≠ 0) (away : v ≠ 0)
    (above : ((max y.floor (y.h - 14400) : Nat) : Int) ≤ y.f + v) (within : (y.f : Int) + v ≤ y.l) :
    y.serve (.move v false) =
      ⟨{ y with held := none, transport := .moving ((y.f : Int) + v).toNat true }, [], false, none⟩ := by
  have forward : y.reverses v false = false := decide_eq_false (not_lt.mpr above)
  have target : y.target v false = ((y.f : Int) + v).toNat := by
    unfold Film.target
    rw [forward]
    rfl
  rw [Film.serve, Film.serveMove_of_known (Nat.pos_of_ne_zero known), target, forward]
  exact (if_neg (by omega)).trans (if_neg (by omega))

end Photo

/-- Settles O51: a motion ends at rest, or with the held request served; a failed one in FAULT. -/
theorem filmMovesAndCutsEnd : Obligations.FilmMovesAndCutsEnd := by
  unfold Obligations.FilmMovesAndCutsEnd
  intro busy s law y x arrived reloaded outNote failedFilm failed
  let p := s.photo busy
  have arrival : StepsTo (exec (.filmArrival busy) s) id s (p.runFilm y.arrive) := stepsTo_onPhoto law rfl
  have expiry : StepsTo (exec (.filmMoveTimeout busy) s) id s (p.runFilm y.moveExpires) := stepsTo_onPhoto law rfl
  have cut : StepsTo (exec (.cutterDone busy) s) id s (p.runFilm y.cutterEnds) := stepsTo_onPhoto law rfl
  have cutFails : StepsTo (exec (.cutterTimeout busy) s) id s (p.runFilm y.cutterExpires) := stepsTo_onPhoto law rfl
  let at' (target : Nat) : Film := { y with f := target, h := max y.h target }
  let cutAt : Film := { y with floor := y.f }
  let ended (film : Film) (note : Word24) : Photo :=
    { p with film := film, reply := { s.reply with pending := s.reply.pending ||| note } }
  have arrives {target : Nat} (moving : y.transport = .moving target false) (held : y.held = none) :
      StepsTo (exec (.filmArrival busy) s) id s (p.filmed (at' target).rested (at' target).restPosts) := by
    rw [Film.arrive_of_moving moving, Photo.runFilm_rests (y := at' target) held] at arrival
    exact arrival
  have arrivesTold {target : Nat} (moving : y.transport = .moving target true) (held : y.held = none) :
      StepsTo (exec (.filmArrival busy) s) id s
        ((p.filmed (at' target).rested (at' target).restPosts).filmDone target) := by
    rw [Film.arrive_of_moving moving, Photo.runFilm_rests_told (y := at' target) held] at arrival
    exact arrival
  have cuts (stroke : y.transport = .cutStroke false) (held : y.held = none) :
      StepsTo (exec (.cutterDone busy) s) id s (p.filmed cutAt.rested cutAt.restPosts) := by
    rw [Film.cutterEnds_of_stroke stroke, Photo.runFilm_rests (y := cutAt) held] at cut
    exact cut
  refine ⟨fun target moving held quiet => ?_, fun target pr moving held quiet line kind glyphs => ?_,
    fun target pr moving held line => ?_,
    fun held deferred => ⟨fun target moving => ?_, fun target pr moving line kind glyphs => ?_, fun stroke => ?_⟩,
    fun target v moving held quiet known away above within => ?_,
    fun going held => ⟨fun target moving => ?_, fun stroke => ?_⟩, fun target awaited moving => ?_,
    fun stroke held quiet => ?_, fun pr stroke held line phase state => ?_,
    fun held => ⟨fun target moving => ?_, fun stroke => ?_⟩, fun target awaited moving => ?_, fun awaited stroke => ?_,
    fun going => ⟨fun target moving => ?_, fun stroke => ?_⟩, fun still => ?_, fun still => ?_⟩
  · exact ((arrives moving held).congr (Photo.filmed_rested_of_quiet (y := at' target) quiet)).posts rfl
  · have steps := arrivesTold moving held
    rw [Photo.filmed_rested_of_quiet (y := at' target) quiet] at steps
    exact steps.moved_glyphs line kind glyphs rfl
  · intro r z film note recorded
    have steps : StepsTo (exec (.filmArrival busy) s) id s ((ended film note).filmDone target) :=
      (arrivesTold moving held).congr (congrArg (Photo.filmDone · target) (p.filmed_rested (at' target)))
    refine ⟨fun kind => ⟨fun other => ?_, fun state asked done => ?_⟩,
      fun kind empty => ⟨fun other => ?_, fun state => ?_⟩⟩
    · exact steps.moved_recorded line (LineRecord.phaseAfterFilm_of_cut kind) nofun other rfl
    · exact steps.moved_cut line kind state asked done rfl
    · exact steps.moved_recorded line (LineRecord.phaseAfterFilm_of_empty kind empty) nofun other rfl
    · exact steps.moved_completes line kind empty state rfl
  · exact ((arrives moving held).congr (Photo.filmed_rested_of_deferred (y := at' target) deferred)).posts rfl
  · have steps := arrivesTold moving held
    rw [Photo.filmed_rested_of_deferred (y := at' target) deferred] at steps
    exact steps.moved_glyphs line kind glyphs rfl
  · exact ((cuts stroke held).congr (Photo.filmed_rested_of_deferred (y := cutAt) deferred)).posts rfl
  · rw [Film.arrive_of_moving moving, Film.finish_of_held (y := at' target) held quiet,
      Film.serve_of_unclamped (y := { at' target with transport := .ready }) known away above within] at arrival
    exact (arrival.congr (Photo.runFilm_quiet _ _)).posts rfl
  · exact haltsWith_of_fail (Film.moveExpires_of_moving moving) (.inr held) going
  · exact haltsWith_of_fail (Film.cutterExpires_of_stroke stroke) (.inr held) going
  · rw [Film.arrive_of_cut moving] at arrival
    exact (arrival.congr (Photo.runFilm_quiet _ _)).posts rfl
  · exact ((cuts stroke held).congr (Photo.filmed_rested_of_quiet (y := cutAt) quiet)).posts rfl
  · intro r
    let q : Photo := p.filmed cutAt.rested cutAt.restPosts
    rw [Film.cutterEnds_of_stroke stroke, Photo.runFilm_rests_told (y := cutAt) held] at cut
    let done : Photo := q.withLine { pr with cutDone := true }
    have completes : q.cutEnds = done.completeLine := Photo.cutEnds_of_cut (p := q) line phase state
    obtain ⟨st, z, reply, completed⟩ := Photo.completeLine_frame (p := done) rfl
    obtain ⟨set, kept⟩ := Photo.imagingEnd_pending (p := done) .set x.filmTag
    refine (cut.congr completes).answers fun t shows => ?_
    obtain ⟨imager, log⟩ : CompletesLine s x { pr with cutDone := true } r t :=
      completesLine_of_shows (p := done) rfl rfl rfl shows
    refine ⟨shows.film.trans (by rw [completed]; rfl), fun deferred out => ?_, by rw [imager], by rw [imager], log⟩
    have posted : done.reply.pending.getLsbD 15 = true := by
      change (cutAt.restPosts.foldl postTo s.reply.pending).getLsbD 15 = true
      rw [show cutAt.restPosts = [.filmOut] from if_pos ⟨deferred, out⟩]
      exact getLsbD_postTo _ .filmOut
    rw [shows.pending, show done.completeLine.reply.pending = _ from kept]
    exact getLsbD_or_of_left posted
  · rw [Film.moveExpires_of_moving moving, Photo.runFilm_fail_of_untold held] at expiry
    exact expiry.posts rfl
  · rw [Film.cutterExpires_of_stroke stroke, Photo.runFilm_fail_of_untold held] at cutFails
    exact cutFails.posts rfl
  · rw [Film.moveExpires_of_moving moving] at expiry
    exact expiry.answers fun t shows => shows.film.trans (Photo.runFilm_fail_film y awaited)
  · rw [Film.cutterExpires_of_stroke stroke] at cutFails
    exact cutFails.answers fun t shows => shows.film.trans (Photo.runFilm_fail_film y awaited)
  · exact haltsWith_of_fail (Film.moveExpires_of_moving moving) (.inl rfl) going
  · exact haltsWith_of_fail (Film.cutterExpires_of_stroke stroke) (.inl rfl) going
  · obtain ⟨arrive, expire⟩ := Film.arrive_of_still still
    rw [arrive] at arrival
    rw [expire] at expiry
    exact ⟨arrival.posts rfl, expiry.posts rfl⟩
  · obtain ⟨done, expire⟩ := Film.cutterEnds_of_still still
    rw [done] at cut
    rw [expire] at cutFails
    exact ⟨cut.posts rfl, cutFails.posts rfl⟩

end Sys2Proof.Machine
end

section
/-! PROOFS. CASSETTE and the cassette switch (`CassetteAndItsSwitch`): the film loaded anew, and the request that is
held for it. -/

namespace Sys2Proof.Machine

open Sys2Proof Sys2Proof.Safety

/-! ### The film loaded anew (R153, R156, R158, R159) -/

/-- The film with its cassette set to `a` steps and loaded. -/
def Film.loaded (y : Film) (a : Nat) : Film := { y with a := a, l := a, f := 0, h := 0, floor := 0, deferred := false }

section Film

variable {y : Film} {a : Nat} {v : Int} {mark : Bool}

theorem Film.reserve_of_held {q : Request} (held : y.held = some q) : y.reserve = y.serve q := by
  simp only [Film.reserve, held]

/-- On film loaded anew a move backwards is clamped at position 0 (R152). -/
theorem Film.target_loaded (y : Film) (a : Nat) (v : Int) (mark : Bool) :
    (y.loaded a).reverses v mark = decide (v < 0) ∧ (y.loaded a).target v mark = v.toNat := by
  have floor : (y.loaded a).markedFloor mark = 0 := by cases mark <;> rfl
  have low : (y.loaded a).low mark = 0 := by
    unfold Film.low
    rw [floor]
    exact Nat.max_eq_left (Nat.zero_sub 14400).le
  have reverses : (y.loaded a).reverses v mark = decide (v < 0) := by
    unfold Film.reverses
    rw [low]
    simp [Film.loaded]
  refine ⟨reverses, ?_⟩
  unfold Film.target
  rw [reverses, low]
  simp only [decide_eq_true_eq, Film.loaded]
  split <;> omega

/-- The move held again: the film does not reach, or there is none (R153, log entry 34). -/
theorem Film.reserve_loaded_of_short (held : y.held = some (.move v mark)) (short : a = 0 ∨ (a : Int) < v) :
    (y.loaded a).reserve = ⟨{ y.loaded a with transport := .filmOut }, [.filmOut], false, none⟩ := by
  have held' : (y.loaded a).held = some (.move v mark) := held
  rw [Film.reserve_of_held held', Film.serve]
  by_cases none : a = 0
  · exact (if_pos none).trans (by rw [Film.holdOut_eq, ← held']; rfl)
  · have short : (a : Int) < v := short.resolve_left none
    obtain ⟨reverses, target⟩ := y.target_loaded a v mark
    rw [Film.serveMove_of_known (Nat.pos_of_ne_zero none), target, reverses, decide_eq_false (by omega)]
    refine (if_pos (show a < v.toNat by omega)).trans ?_
    rw [Film.holdOut_eq, ← held']
    cases mark <;> rfl

/-- The move begun (R154). -/
theorem Film.reserve_loaded_of_reached (held : y.held = some (.move v mark)) (forward : 0 < v) (reached : v ≤ a) :
    (y.loaded a).reserve =
      ⟨{ y.loaded a with held := none, transport := .moving v.toNat true }, [], false, none⟩ := by
  obtain ⟨reverses, target⟩ := y.target_loaded a v mark
  rw [Film.reserve_of_held (y := y.loaded a) held, Film.serve,
    Film.serveMove_of_known (show 0 < (y.loaded a).l from (show 0 < a by omega)), target, reverses,
    decide_eq_false (by omega)]
  refine (if_neg (show ¬a < v.toNat by omega)).trans ((if_neg (show ¬v.toNat = 0 by omega)).trans ?_)
  cases mark <;> rfl

/-- The move done at once, at position 0 (R132, R152). -/
theorem Film.reserve_loaded_of_there (held : y.held = some (.move v mark)) (back : v ≤ 0) (known : a ≠ 0) :
    (y.loaded a).reserve = ⟨{ y.loaded a with held := none, transport := .ready }, clampPosts (decide (v < 0)),
      decide (v < 0), some (.moveDone 0)⟩ := by
  obtain ⟨reverses, target⟩ := y.target_loaded a v mark
  rw [Film.reserve_of_held (y := y.loaded a) held, Film.serve,
    Film.serveMove_of_known (Nat.pos_of_ne_zero known), target, reverses, Int.toNat_of_nonpos back]
  refine (if_neg (Nat.not_lt_zero _)).trans ((if_pos rfl).trans ?_)
  cases mark <;> rfl

/-- The cut held again, or its allowance begun (R156). -/
theorem Film.reserve_loaded_cut_of_short (held : y.held = some .cut) (short : a < 480) :
    (y.loaded a).reserve = ⟨{ y.loaded a with transport := .filmOut }, [.filmOut], false, none⟩ := by
  have held' : (y.loaded a).held = some .cut := held
  have short : (y.loaded a).l < (y.loaded a).f + 480 := by simpa [Film.loaded] using short
  rw [Film.reserve_of_held held']
  refine (if_pos short).trans ?_
  rw [Film.holdOut_eq, ← held']
  rfl

theorem Film.reserve_loaded_cut_of_enough (held : y.held = some .cut) (enough : 480 ≤ a) :
    (y.loaded a).reserve = ⟨{ y.loaded a with held := none, transport := .cutAdvance 480 true }, [], false, none⟩ := by
  have enough : ¬(y.loaded a).l < (y.loaded a).f + 480 := by simpa [Film.loaded] using enough
  rw [Film.reserve_of_held (y := y.loaded a) held]
  exact if_neg enough

/-! ### CASSETTE by transport state (R159) -/

theorem Film.takeCassette_of_none (out : y.transport = .noCassette) :
    y.takeCassette a = ⟨{ y with a := a }, [], false, none⟩ := by
  simp only [Film.takeCassette, out]
  rfl

theorem Film.takeCassette_of_fault (fault : y.transport = .fault) :
    y.takeCassette a = ⟨{ y.loaded a with transport := .fault }, [], false, none⟩ := by
  simp only [Film.takeCassette, fault, Film.reload, Film.quietly, Film.loaded]

theorem Film.takeCassette_of_rest (rest : y.transport = .ready ∨ y.transport = .filmOut) :
    y.takeCassette a = (y.loaded a).reserve := by
  rcases rest with rest | rest <;> simp only [Film.takeCassette, rest, Film.reload, Film.loaded]

theorem Film.takeCassette_of_motion
    (motion : (∃ target w, y.transport = .moving target w ∨ y.transport = .cutAdvance target w) ∨
      ∃ w, y.transport = .cutStroke w) :
    y.takeCassette a = ⟨{ y with a := a, deferred := true }, [], false, none⟩ := by
  rcases motion with ⟨target, w, motion | motion⟩ | ⟨w, motion⟩ <;> simp only [Film.takeCassette, motion] <;> rfl

/-! ### The removal (R157) -/

/-- The film with its cassette taken out. -/
def Film.gone (y : Film) : Film :=
  { y with l := 0, f := 0, h := 0, floor := 0, deferred := false, transport := .noCassette }

theorem Film.remove_of_rest (rest : y.transport = .ready ∨ y.transport = .filmOut ∨ y.transport = .noCassette ∨
      y.transport = .fault) : y.remove = ⟨y.gone, [], false, none⟩ := by
  unfold Film.remove
  rcases rest with rest | rest | rest | rest <;> rw [rest] <;> rfl

theorem Film.remove_of_motion
    (motion : (∃ target w, y.transport = .moving target w ∨ y.transport = .cutAdvance target w) ∨
      ∃ w, y.transport = .cutStroke w) : y.remove = ⟨y.gone, [.filmFault], false, some .filmFault⟩ := by
  unfold Film.remove
  rcases motion with ⟨target, w, motion | motion⟩ | ⟨w, motion⟩ <;> rw [motion] <;> rfl

end Film

/-! ### The held move done at position 0 (R132, R143, R144, R152) -/

/-- A record with its move by `v` clamped at position 0, or not. -/
def LineRecord.moved (r : LineRecord) (v : Int) : LineRecord :=
  if v < 0 then { r with flags := { r.flags with reverseClamped := true } } else r

/-- The clamp leaves what the record holds. -/
theorem LineRecord.moved_frame (r : LineRecord) (v : Int) :
    (r.moved v).kind = r.kind ∧ (r.moved v).glyphs = r.glyphs := by
  unfold LineRecord.moved
  split <;> exact ⟨rfl, rfl⟩

/-- The photo unit with its line's held move by `v` done at position 0, the film being at `y`. -/
def Photo.movedBack (p : Photo) (y : Film) (pr : Progress) (v : Int) : Photo := { p with
  film := y
  store := if v < 0 then p.store.putRecord pr.slot ((p.store.record pr.slot).moved v) else p.store
  reply := { p.reply with pending := p.reply.pending ||| if v < 0 then 0x20000 else 0 } }

section Photo

variable {p : Photo} {pr : Progress}

theorem Photo.applyFilm_movedBack (line : p.imager.line = some pr) (y : Film) (v : Int) (report : Option Report) :
    p.applyFilm ⟨y, clampPosts (decide (v < 0)), decide (v < 0), report⟩ = p.movedBack y pr v := by
  unfold Photo.movedBack LineRecord.moved
  by_cases back : v < 0
  · simp only [if_pos back, decide_eq_true back]
    unfold Photo.applyFilm Photo.flagLine
    simp only [clampPosts, if_true, foldl_post, line]
    rfl
  · simp only [if_neg back, decide_eq_false back]
    exact (Photo.applyFilm_unclamped y [] report).trans
      (congrArg (fun reply : ReplyUnit => { p with film := y, reply := reply }) p.reply.noted_zero.symm)

theorem Photo.movedBack_record (small : pr.slot < 8) (y : Film) (v : Int) :
    (p.movedBack y pr v).store.record pr.slot = (p.store.record pr.slot).moved v := by
  unfold Photo.movedBack LineRecord.moved
  by_cases back : v < 0
  · simp only [if_pos back, record_putRecord_same _ small]
  · simp only [if_neg back]

end Photo

/-- A film lost in a motion leaves the request of a line in hand behind, or with the line (R157, R160). -/
theorem Photo.runFilm_gone_film (y : Film) (p : Photo) :
    { (p.runFilm ⟨y.gone, [.filmFault], false, some .filmFault⟩).film with held := y.held } = y.gone := by
  rw [Photo.runFilm_reports]
  rcases (p.filmed y.gone [.filmFault]).haltNow_film with left | left <;>
    · rw [show ((p.filmed y.gone [.filmFault]).takeReport .filmFault).film = _ from left]
      rfl

/-! ### The held request served (R152, R153, R156) -/

section Refilled

variable {result : StepResult} {ends : State → State} {u : State} {busy : Bool} {a : Nat} {pr : Progress} {v : Int}
  {mark : Bool}

theorem StepsTo.loads_idle (steps : StepsTo result ends u ((u.photo busy).runFilm (u.film.loaded a).reserve))
    (held : u.film.held = none) : result = .next (ends (u.withPhoto ((u.photo busy).filmed
      { u.film.loaded a with transport := if a = 0 then .filmOut else .ready }
      (if a = 0 then [.filmOut] else [])))) := by
  rw [Film.reserve_of_idle (y := u.film.loaded a) held] at steps
  exact (steps.congr (Photo.runFilm_quiet _ _)).posts rfl

/-- The held move done at once: its line goes on. -/
theorem StepsTo.loads_back (steps : StepsTo result ends u ((u.photo busy).runFilm (u.film.loaded a).reserve))
    (held : u.film.held = some (.move v mark)) (line : u.imager.line = some pr) (back : v ≤ 0) (known : a ≠ 0) :
    StepsTo result ends u (((u.photo busy).movedBack { u.film.loaded a with held := none, transport := .ready } pr
      v).filmDone 0) := by
  rw [Film.reserve_loaded_of_there held back known] at steps
  exact steps.congr (congrArg (Photo.filmDone · 0) (Photo.applyFilm_movedBack (p := u.photo busy) line _ v _))

end Refilled

/-- Settles O52: the film loaded anew serves the request that waits for it. -/
theorem cassetteAndItsSwitch : Obligations.CassetteAndItsSwitch := by
  unfold Obligations.CassetteAndItsSwitch
  intro loaded withFilm refilled
  have refills {u : State} {busy : Bool} {a : Nat} {result : StepResult} {ends : State → State}
      (steps : StepsTo result ends u ((u.photo busy).runFilm (u.film.loaded a).reserve)) :
      refilled u a result ends := by
    have unnoted (y : Film) : (.next (ends { u with film := y }) : StepResult) = .next (ends (withFilm u y 0)) :=
      congrArg (fun reply : ReplyUnit => Host.Outcome.next (ends { u with film := y, reply := reply }))
        u.reply.noted_zero.symm
    refine ⟨fun held known => ?_, fun held out => ?_, fun v mark held => ⟨fun short => ?_, fun forward reached => ?_,
      fun pr back known line small => ?_⟩, fun held => ⟨fun short => ?_, fun enough => ?_⟩⟩
    · have loads := steps.loads_idle held
      simp only [if_neg known] at loads
      exact loads.trans (unnoted _)
    · subst out
      exact steps.loads_idle held
    · rw [Film.reserve_loaded_of_short held short] at steps
      exact (steps.congr (Photo.runFilm_quiet _ _)).posts rfl
    · rw [Film.reserve_loaded_of_reached held forward reached] at steps
      exact ((steps.congr (Photo.runFilm_quiet _ _)).posts rfl).trans (unnoted _)
    · intro r flagged note film z goesOn
      let moved : Photo := (u.photo busy).movedBack film pr v
      have steps : StepsTo result ends u (moved.filmDone 0) := steps.loads_back held line back known
      have record : moved.store.record pr.slot = flagged := Photo.movedBack_record small film v
      have kinds : (moved.store.record pr.slot).kind = r.kind :=
        (congrArg LineRecord.kind record).trans (r.moved_frame v).1
      have glyphs : (moved.store.record pr.slot).glyphs = r.glyphs :=
        (congrArg LineRecord.glyphs record).trans (r.moved_frame v).2
      refine ⟨fun kind some => ?_, fun kind empty => ⟨fun other => ?_, fun state => ?_⟩,
        fun kind => ⟨fun other => ?_, fun state asked done => ?_⟩⟩
      · exact steps.moved_glyphs line (kinds.trans kind) (glyphs.symm ▸ some) rfl
      · exact steps.moved_recorded line
          (LineRecord.phaseAfterFilm_of_empty (kinds.trans kind) (glyphs.trans empty)) nofun other rfl
      · rw [← record]
        exact steps.moved_completes line (kinds.trans kind) (glyphs.trans empty) state rfl
      · exact steps.moved_recorded line (LineRecord.phaseAfterFilm_of_cut (kinds.trans kind)) nofun other rfl
      · exact steps.moved_cut line (kinds.trans kind) state asked done rfl
    · rw [Film.reserve_loaded_cut_of_short held short] at steps
      exact (steps.congr (Photo.runFilm_quiet _ _)).posts rfl
    · rw [Film.reserve_loaded_cut_of_enough held enough] at steps
      exact ((steps.congr (Photo.runFilm_quiet _ _)).posts rfl).trans (unnoted _)
  refine ⟨fun n busy s u takes => ?_, fun busy s law quiet => ?_⟩
  · intro a noted y
    have owner : (.next ((noted.withPhoto ((noted.photo busy).runFilm (noted.film.takeCassette a))).runOut) :
        StepResult) = exec (.cassette n busy) s := by
      refine ((deliver_of_takes takes _).trans ?_).symm
      rw [natOut_zero, postWhen_clamped, clampNat_zero]
    have steps : StepsTo (exec (.cassette n busy) s) State.runOut noted
        ((noted.photo busy).runFilm (noted.film.takeCassette a)) := owner ▸ stepsTo_runOut noted _
    have same : y = noted.film := by
      obtain ⟨set, frame⟩ := clampNote_frame (decide (n.toNat ≤ 100000)) u
      exact (congrArg State.film frame).symm
    clear_value y
    subst same
    refine ⟨fun none => ?_, fun fault => ?_, fun rest => ?_, fun motion => ?_⟩
    · rw [Film.takeCassette_of_none none] at steps
      exact (steps.congr (Photo.runFilm_quiet _ _)).posts rfl
    · rw [Film.takeCassette_of_fault fault] at steps
      exact (steps.congr (Photo.runFilm_quiet _ _)).posts rfl
    · rw [Film.takeCassette_of_rest rest] at steps
      exact refills steps
    · rw [Film.takeCassette_of_motion motion] at steps
      exact (steps.congr (Photo.runFilm_quiet _ _)).posts rfl
  · intro y out gone
    have lawOut : HeldSyncLaw out := law
    have removes (here : s.pins.cassetteIn = true) :
        exec (.cassetteRemoved busy) s = .next (out.filmEvent busy Film.remove) :=
      (if_pos here).trans (if_neg (by simp [quiet]))
    have removal (here : s.pins.cassetteIn = true) :
        StepsTo (exec (.cassetteRemoved busy) s) id out ((out.photo busy).runFilm y.remove) :=
      removes here ▸ stepsTo_onPhoto lawOut rfl
    refine ⟨fun here => ⟨fun rest => ?_, fun motion => ⟨fun halted => ?_, fun going => ⟨?_, ?_⟩⟩⟩,
      fun absent => if_neg (by simp [absent]), fun here => if_pos here, fun absent => ?_⟩
    · have steps := removal here
      rw [Film.remove_of_rest rest] at steps
      exact (steps.congr (Photo.runFilm_quiet _ _)).posts rfl
    · have steps := removal here
      rw [Film.remove_of_motion motion, Photo.runFilm_reports] at steps
      exact (steps.congr (if_pos halted)).posts rfl
    · have faults := Photo.faults_of_filmFault (p := out.photo busy) going y.gone
      rw [← Film.remove_of_motion motion] at faults
      rw [removes here]
      exact haltsWith_of_faults faults (out.onPhoto_follows busy _)
    · have steps := removal here
      rw [Film.remove_of_motion motion] at steps
      exact steps.answers fun t shows => shows.film ▸ Photo.runFilm_gone_film y (out.photo busy)
    · let u : State := { s with pins := { s.pins with cassetteIn := true } }
      have lawIn : HeldSyncLaw u := law
      have inserts : exec (.cassetteInserted busy) s = .next (u.filmEvent busy Film.insert) :=
        (if_neg (by simp [absent])).trans (if_neg (by simp [quiet]))
      exact refills (u := u) (busy := busy) (inserts ▸ stepsTo_onPhoto lawIn rfl)

end Sys2Proof.Machine
end
